-- ==== Sys2Proof/Word.lean ====
section
/-! DEFINITION. The word types of the FK-340 model: bytes of frames and of the pattern memory, the 128 bits of one
string, the 16 bits of a check. Angles, rows, counts and times are plain `Nat` (the manual counts them). -/

namespace Sys2Proof

/-- A character of a frame, or a byte of the pattern memory. -/
abbrev Byte := BitVec 8

/-- The 128 places of one string: bit p is place p (R58, R126). -/
abbrev StringBits := BitVec 128

/-- The 16-bit cyclic check of R59 (row check, frame check, record check). -/
abbrev CheckWord := BitVec 16

end Sys2Proof
end

