-- ==== Sys2Proof/Syntax.lean ====
section
/-! DEFINITION. The commands of the FK-340: one constructor of `Instr` for each row of spec/opcode_table.json, with
what that command brings from outside as its operands (log 3, 6, 7, 10). -/

namespace Sys2Proof

/-- The strapped role of a station (00, connections; R180). -/
inductive Role where
  | sectionRole
  | weftRole
  deriving DecidableEq, Repr

/-- A character as the receiver samples it (R73): eight data bits, the parity bit and the stop bit
(`stop = true` is the recessive level a stop bit must have). -/
structure LineChar where
  data : Byte
  parity : Bool
  stop : Bool
  deriving DecidableEq, Repr

/-- The retained record of the backup domain with its record check (R178). -/
structure RetainedRecord where
  run : Nat
  iteration : Nat
  row : Nat
  piece : Nat
  identity : BitVec 32
  check : CheckWord
  deriving DecidableEq, Repr

/-- So many bit times in which the other nodes leave the line recessive, or in which one of them drives it dominant (R74). -/
inductive LineRun where
  | recessive (bt : Nat)
  | dominant (bt : Nat)
  deriving DecidableEq, Repr

/-- What has passed since the last event (log 3): the ticks of fine time, what the other nodes have done on the line in them, bit
time after bit time and recessive after the last run (R74; log 7), and the strap pins where they have been changed (R180; log 25). -/
structure Lapse where
  ticks : Nat
  line : List LineRun
  straps : Option (Nat × Role)
  deriving DecidableEq, Repr

/-- The commands: the rows of spec/opcode_table.json. A request row takes the frame that stands at the head of the
receive queue (R79, R80), so it carries no field of its own beyond the input pins it samples. -/
inductive Instr where
  /-- COUNTING_STEP (R1): the levels of channels A and B after the change, whether an index edge comes with it, what
  has passed since the last event, and the sense bits of the eight strings as they stand. -/
  | countingStep (a b index : Bool) (dt : Lapse) (sense : List StringBits)
  /-- ENCODER_GLITCH (R2), with what has passed since the last event. -/
  | encoderGlitch (dt : Lapse)
  /-- INDEX_EDGE (R3). -/
  | indexEdge
  /-- STALL_EXPIRY (R11). -/
  | stallExpiry
  /-- STATIONARY_SECOND (R11). -/
  | stationarySecond
  /-- PULSE_END (R86). -/
  | pulseEnd
  /-- FETCH_COMPLETE (R66), with the bytes of the pattern memory that a fault of that memory has overwritten since the
  last access (R59; none in ordinary running). -/
  | fetchComplete (upset : List Host.Cell)
  /-- FRAME_RECEIVED (R77): characters that reach the receiver one after another. -/
  | frameReceived (chars : List LineChar)
  /-- RECEIVE_GAP (R77): the line has been recessive for 12 bt. -/
  | receiveGap
  /-- HOLD_DETECTED (R87). -/
  | holdDetected
  /-- LINE_STUCK (R89). -/
  | lineStuck
  /-- LINE_CLEAR (R89). -/
  | lineClear
  /-- FRAME_START (R83), with the recessive run as measured. -/
  | frameStart (recessive : Nat)
  /-- ATTEMPT_ABANDONED (R84). -/
  | attemptAbandoned
  /-- FRAME_SENT (R84). -/
  | frameSent
  /-- RESET_REPLY_TIMEOUT (R179). -/
  | resetReplyTimeout
  /-- BEACON_TAKEN (R100). -/
  | beaconTaken
  /-- FRAME_DISCARDED (R80). -/
  | frameDiscarded
  /-- CONFIGURE (R171). -/
  | configure
  /-- ROW_WRITE (R61). -/
  | rowWrite
  /-- ROW_READ (R63). -/
  | rowRead
  /-- RUN_WRITE (R18). -/
  | runWrite
  /-- MATCH_WRITE (R164). -/
  | matchWrite
  /-- WEFT_MAP_WRITE (R152). -/
  | weftMapWrite
  /-- LOAD_DONE (R34). -/
  | loadDone
  /-- POSITION_SET (R173). -/
  | positionSet
  /-- POSITION_RESUME (R173). -/
  | positionResume
  /-- ARM (R174). -/
  | arm
  /-- DISARM (R174). -/
  | disarm
  /-- TEST_BEGIN (R139). -/
  | testBegin
  /-- TEST_STEP (R141). -/
  | testStep
  /-- TEST_STEP_CAPTURE (R141), with the sense bits of the eight strings. -/
  | testStepCapture (sense : List StringBits)
  /-- TEST_END (R139). -/
  | testEnd
  /-- TRAIN (R143), with the armature sense inputs of the eight strings (read by a pre-check made at once). -/
  | train (armature : BitVec 8)
  /-- TRIAL_SAMPLE (R145), with the sense input of the string under training. -/
  | trialSample (held : Bool)
  /-- REST_END (R145), with the armature sense inputs. -/
  | restEnd (armature : BitVec 8)
  /-- STATUS (R175). -/
  | status
  /-- FLAGS_TAKE (R176). -/
  | flagsTake
  /-- FAULT_LIST_READ (R138). -/
  | faultListRead
  /-- FAULT_LIST_CLEAR (R138). -/
  | faultListClear
  /-- HISTORY_READ (R175). -/
  | historyRead
  /-- ROSTER_READ (R175). -/
  | rosterRead
  /-- NOTICE_MASK (R177). -/
  | noticeMask
  /-- RESET (R179). -/
  | reset
  /-- WAKE_TIME_END (R127), with the armature sense inputs (read by a pre-check made at once). -/
  | wakeTimeEnd (armature : BitVec 8)
  /-- INRUSH_END (R126) of one string. -/
  | inrushEnd (string : Nat)
  /-- WEFT_DETECTOR_PULSE (R159). -/
  | weftDetectorPulse
  /-- FEEDER_STOP_INPUT (R160): the feeder-stop input of one finger takes a level. -/
  | feederStopInput (finger : Nat) (active : Bool)
  /-- POWER_ON (R180): strap number and role, channel levels, whether the backup supply held, the contents the backup
  domain shows where they are not those last written, and what the pattern memory holds (R57, R178). -/
  | powerOn (number : Nat) (role : Role) (a b backupHeld : Bool) (backup : Option RetainedRecord)
      (sram : List Host.Cell)
  /-- RESET_PIN (R180): strap number and role, channel levels. -/
  | resetPin (number : Nat) (role : Role) (a b : Bool)
  /-- POWER_FAIL (R178). -/
  | powerFail
  /-- RETAINED_WRITE_DONE (R178). -/
  | retainedWriteDone
  /-- FRAME_MARK (R76): the recessive run before the first character, that character, and the second one, or none where
  the line stays recessive for 12 bt. -/
  | frameMark (recessive : Nat) (first : LineChar) (second : Option LineChar)
  deriving DecidableEq, Repr

end Sys2Proof
end

