-- ==== Sys2Proof/Decode.lean ====
section
/-! DEFINITION. Commands spelled by words of spec/opcode_table.json. The table gives no row any bits ("fields": []), so no
word spells a command (log 1). -/

namespace Sys2Proof

/-- The command whose bits are `w`: none, for every word, since the table gives no row any bits (log 1). -/
def decodeTableWord (_nbits _w : Nat) : Option Instr := none

end Sys2Proof
end

