-- ==== Sys2Proof/Config.lean ====
section
/-! DEFINITION. What the FK-340 spec leaves to the installation or to the memory parts and the model must name to
have a state after reset, each a DESIGN CHOICE with its own row in the assumption log, and the one free value: what the other
nodes of the head line do in a tick that no command describes. The spec leaves no RESULT undefined after a command. -/

namespace Sys2Proof.Config

/-- What a byte of the pattern memory that nothing has written reads as (R57: "the pattern memory has no reset value").
DESIGN CHOICE, unsafe: log 17. -/
def unlistedByte : Byte := 0x00#8

/-- The strap number sampled by the reset that State.reset stands for (R180). DESIGN CHOICE, unsafe: log 11. -/
def resetStrapNumber : Nat := 0

/-- The phase of the encoder channels sampled by the reset that State.reset stands for (R15). DESIGN CHOICE, unsafe:
log 11. -/
def resetPhase : BitVec 2 := 0#2

/-- Whether another node drives the head line in the n-th idle tick, which no command describes (R74). A free value: log 7. -/
opaque othersDrive : Nat → Bool

end Sys2Proof.Config
end

