-- ==== Sys2Proof/Machine/State.lean ====
section
/-! DEFINITION. The state of the FK-340 as plain data: one structure for each block of the manual (00, block overview),
put together in `Device`, with the queue of waiting commands beside it in `State`; and `State.reset`. Every field and its
reset value is listed in INVENTORY.md under State with the rule that names it. -/

namespace Sys2Proof.Machine

/-! ## Faults and refusals -/

/-- Why the machine stops. No command of the FK-340 stops it (it reports trouble by flags, results and the station state
FAULT), so this type has no constructor. -/
inductive Fault where
  deriving DecidableEq, Repr

/-- Why a command has no meaning. -/
inductive Refusal where
  /-- Raised by exec's arm of a command that is not modelled yet; no arm raises it. Safe: nothing is claimed of it. -/
  | notModelled (mnemonic : String)
  deriving DecidableEq, Repr

/-! ## Shaft tracker (ch. 1) -/

/-- The direction of motion (R1). -/
inductive Direction where
  | forward
  | reverse
  deriving DecidableEq, Repr

/-- The speed state (R10). -/
inductive Speed where
  | stalled
  | creep
  | run
  | fast
  deriving DecidableEq, Repr

/-- The shaft tracker (ch. 1, state table). `spanTimer` is the time since the anchor, or since a later glitch (R2, R8). -/
structure Tracker where
  angle : Nat
  referenced : Bool
  dir : Direction
  phase : BitVec 2
  indexDist : Int
  spanCounts : Option Nat
  spanTimer : Nat
  span : Option Nat
  unsettled : Nat
  speed : Speed
  stationary : Nat
  secondTimer : Nat
  deriving DecidableEq, Repr

/-! ## Pick sequencer and match table (ch. 2, 3, 11) -/

/-- One run of the pick programme (R16). -/
structure Run where
  fromRow : Nat
  toRow : Nat
  count : Nat
  next : Nat
  override : Option Nat
  deriving DecidableEq, Repr

/-- The position record without its void flag (R20). -/
structure Position where
  run : Nat
  iteration : Nat
  row : Nat
  piece : Nat
  deriving DecidableEq, Repr

/-- The kind of a forward boundary crossing (R40). -/
inductive CrossKind where
  | advance
  | again
  deriving DecidableEq, Repr

/-- One entry of the pick history (R39). -/
structure HistoryEntry where
  pos : Position
  void : Bool
  kind : CrossKind
  weft : Nat
  lift : Nat
  finger : Option Nat
  toggle : Bool
  deriving DecidableEq, Repr

/-- The action of a match entry (R163). -/
inductive MatchAction where
  | notice
  | hold
  | pieceRestart
  deriving DecidableEq, Repr

/-- One entry of the match table; `none` is ANY (R163). -/
structure MatchEntry where
  run : Option Nat
  iteration : Option Nat
  row : Option Nat
  piece : Option Nat
  action : MatchAction
  enabled : Bool
  deriving DecidableEq, Repr

/-- The pick sequencer: programme, position record, history, guard state, match table, and the weft code and lift count
of the pick under way as the row fetch handed them (R27, R66; log 20). -/
structure Sequencer where
  runs : List (Option Run)
  startRun : Nat
  pos : Position
  void : Bool
  history : List HistoryEntry
  guardOpen : Bool
  pickWeft : Option Nat
  pickLift : Option Nat
  table : List MatchEntry
  deriving DecidableEq, Repr

/-! ## Design store (ch. 4) -/

/-- The pattern memory: (address, byte) pairs in canonical form (`memWf`). -/
abbrev PatternMemory := List Host.Cell

/-- What a fetch is for (R64). A PICK fetch keeps whether a reverse B crossing started it (R66) and the weft override of
the pick it serves (R27; realignment may change the position while it runs, R65). -/
inductive FetchPurpose where
  | pick (reverse : Bool) (override : Option Nat)
  | test
  deriving DecidableEq, Repr

/-- The fetch state (R64), with the ticks a fetch has run. -/
inductive Fetch where
  | idle
  | fetching (row : Nat) (purpose : FetchPurpose) (elapsed : Nat)
  deriving DecidableEq, Repr

/-- The result of the last completed fetch (R66, R68). -/
structure PickResult where
  row : Nat
  weft : Nat
  lift : Nat
  field : List Byte
  matched : Bool
  deriving DecidableEq, Repr

/-- The design store (ch. 4, state table). `written` lists the set marks of the written-row map, rising. -/
structure Store where
  mem : PatternMemory
  written : List Nat
  fetch : Fetch
  result : Option PickResult
  lastDamaged : Option Nat
  deriving DecidableEq, Repr

/-! ## Line controller (ch. 5, 6) -/

/-- A frame without its mark and check (R75). -/
structure Frame where
  dest : Byte
  source : Byte
  kind : Byte
  payload : List Byte
  deriving DecidableEq, Repr

/-- The frame in assembly: the characters taken since the mark, and whether this station is the one sending it whole
(R78; log 9). -/
structure Assembly where
  bytes : List Byte
  own : Bool
  deriving DecidableEq, Repr

/-- The receiver state (R76, R77). `awaitingRun` is a frame in assembly whose last character had a dominant stop bit: whether that
is a framing error waits on the dominant run. -/
inductive Receiver where
  | hunt
  | header (f : Assembly)
  | payload (f : Assembly)
  | check (f : Assembly)
  | awaitingRun
  deriving DecidableEq, Repr

/-- A slot's frame with its attempt count (R81, R82). -/
structure Slot where
  frame : Frame
  attempts : Nat
  deriving DecidableEq, Repr

/-- The two transmit slots. -/
inductive SlotName where
  | beacon
  | reply
  deriving DecidableEq, Repr

/-- The transmitter state (R83, R86): SENDING with the slot and the characters driven, PULSE with the ticks it has run. -/
inductive Tx where
  | idle
  | sending (slot : SlotName) (chars : List Byte)
  | pulse (elapsed : Nat)
  deriving DecidableEq, Repr

/-- The nine line counters, in the order of R90. -/
structure Counters where
  goodFrames : Nat
  checkErrors : Nat
  parityFraming : Nat
  overruns : Nat
  abandoned : Nat
  collisionLimits : Nat
  beaconsLate : Nat
  requestsDropped : Nat
  holdsSeen : Nat
  deriving DecidableEq, Repr

/-- The beacon due state (R95). -/
inductive BeaconDue where
  | idle
  | due (rowReady guardPassed : Bool)
  | built
  deriving DecidableEq, Repr

/-- The line controller (ch. 5 state table; the beacon due state of ch. 6). `held` says that a recessive
bit of the frame being sent has been found held dominant by another node, `halfBit` that half a bit time has passed since the last
whole one, `sentBits` counts the bits of the frame being sent that have passed, `idleTicks` the ticks that no command has
described (R74, R84; log 7). -/
structure Line where
  recessiveRun : Nat
  dominantRun : Nat
  ownPulse : Bool
  held : Bool
  halfBit : Bool
  sentBits : Nat
  idleTicks : Nat
  stuck : Bool
  rx : Receiver
  queue : List Frame
  beaconSlot : Option Slot
  replySlot : Option Slot
  completion : Option Frame
  tx : Tx
  accessWait : Nat
  counters : Counters
  beaconDue : BeaconDue
  deriving DecidableEq, Repr

/-! ## Station states (ch. 12) -/

/-- The station states (R169). -/
inductive StationState where
  | dormant
  | load
  | ready
  | weave
  | test
  | train
  | fault
  deriving DecidableEq, Repr

/-! ## Peer roster (ch. 6) -/

/-- The position a beacon announces: the piece count by its low 16 bits (R96, R105). -/
structure BeaconPos where
  run : Nat
  iteration : Nat
  row : Nat
  pieceLow : Nat
  deriving DecidableEq, Repr

/-- One entry of the roster (R99). -/
structure RosterEntry where
  station : Nat
  role : Role
  state : StationState
  pos : BeaconPos
  lift : Nat
  capacity : Nat
  weft : Nat
  heard : Bool
  misses : Nat
  lapsed : Bool
  deriving DecidableEq, Repr

/-- The class of a peer in the snapshot (R106). -/
inductive PeerClass where
  | lapsed
  | stray
  | heard
  | absent
  deriving DecidableEq, Repr

/-- One peer of the snapshot (R106). -/
structure SnapshotEntry where
  station : Nat
  role : Role
  lift : Nat
  capacity : Nat
  cls : PeerClass
  deriving DecidableEq, Repr

/-- The snapshot of the last close (R106). -/
structure Snapshot where
  number : Nat
  capacity : Nat
  ownLift : Nat
  entries : List SnapshotEntry
  deriving DecidableEq, Repr

/-- The peer roster (ch. 6 state table). -/
structure Roster where
  windowOpen : Bool
  entries : List RosterEntry
  snapshot : Option Snapshot
  minority : Bool
  deriving DecidableEq, Repr

/-! ## Fire timer (ch. 7) -/

/-- The phase of the fire timer (R112). -/
inductive FirePhase where
  | idle
  | set
  | held
  | past
  deriving DecidableEq, Repr

/-- The wave figures (R113, R114). -/
structure Waves where
  hooks : Nat
  total : Nat
  place : Nat
  wave : Nat
  deriving DecidableEq, Repr

/-- The normalised span and its reciprocal (R116). -/
structure Recip where
  n : Nat
  m : Nat
  q : Nat
  deriving DecidableEq, Repr

/-- The basis of a fire angle (R118, R119). -/
inductive Basis where
  | predicted
  | clamped
  | angle
  deriving DecidableEq, Repr

/-- The fire timer's record of one string (ch. 7 state table). -/
structure FireString where
  lead : Option Nat
  advance : Option Nat
  angle : Option Nat
  basis : Option Basis
  fired : Bool
  deriving DecidableEq, Repr

/-- The fire timer. -/
structure FireTimer where
  phase : FirePhase
  angleHold : Bool
  waves : Option Waves
  recip : Option Recip
  strings : List FireString
  deriving DecidableEq, Repr

/-! ## String driver (ch. 8) -/

/-- String power (R127), WAKING with the ticks elapsed. -/
inductive Power where
  | off
  | waking (elapsed : Nat)
  | on
  deriving DecidableEq, Repr

/-- The pick mode of the string driver. -/
inductive PickMode where
  | none
  | forward
  | reverse
  | test
  deriving DecidableEq, Repr

/-- The chain state of a string. -/
inductive Chain where
  | resting
  | pending
  | fired
  | captured
  deriving DecidableEq, Repr

/-- The training result of a string (ch. 9). -/
inductive TrainResult where
  | notRun
  | trained
  | failed
  | stuck
  deriving DecidableEq, Repr

/-- The enables of a string (R126): none asserted, inrush enable with the ticks it has run, hold enable. -/
inductive Drive where
  | off
  | inrush (elapsed : Nat)
  | hold
  deriving DecidableEq, Repr

/-- One string: its chain state, marks, echo record, latency, and the registers of its external chain (R126). -/
structure SelString where
  chain : Chain
  pattern : Bool
  latched : Bool
  waiting : Bool
  fireAngle : Option Nat
  echo : Bool
  expected : Option StringBits
  capturePos : Option Position
  latency : Option Nat
  result : TrainResult
  shiftReg : StringBits
  outReg : StringBits
  drive : Drive
  deriving DecidableEq, Repr

/-- The kind of a selector fault (R130). -/
inductive SelFault where
  | openFault
  | stuckOn
  deriving DecidableEq, Repr

/-- One entry of the fault list (R137). -/
structure FaultEntry where
  hook : Nat
  kind : SelFault
  pos : Position
  occurrences : Nat
  deriving DecidableEq, Repr

/-- The test patterns (R139). -/
inductive TestPattern where
  | allDown
  | allUp
  | checker
  | walk
  | row
  deriving DecidableEq, Repr

/-- How far a stepped test operation has come (R141). -/
inductive StepStage where
  | fetch
  | power
  | energised (elapsed : Nat)
  deriving DecidableEq, Repr

/-- The stepped operation (R139, R141): IDLE, or IN FLIGHT with its stage. -/
inductive SteppedOp where
  | idle
  | inFlight (stage : StepStage)
  deriving DecidableEq, Repr

/-- The test state (R139). -/
structure TestState where
  pattern : Option TestPattern
  row : Nat
  step : Nat
  op : SteppedOp
  deriving DecidableEq, Repr

/-- The string driver (ch. 8 state table). `missTested` says that the test for missed selections is not outstanding
(R132; log 26). -/
structure StringDriver where
  power : Power
  mode : PickMode
  blank : Bool
  captureDone : Bool
  missTested : Bool
  strings : List SelString
  faults : List FaultEntry
  overflow : Nat
  test : TestState
  deriving DecidableEq, Repr

/-! ## Latency trainer (ch. 9) -/

/-- The training phase. -/
inductive TrainPhase where
  | idle
  | waking
  | preCheck
  | trial
  | rest
  deriving DecidableEq, Repr

/-- The latency trainer (ch. 9 state table); `timer` is the time the trial or rest has run. -/
structure Trainer where
  phase : TrainPhase
  cur : Nat
  delay : Nat
  trial : Nat
  ones : Nat
  timer : Nat
  deriving DecidableEq, Repr

/-! ## Weft selector (ch. 10) -/

/-- A written entry of the weft map (R151). -/
structure MapEntry where
  primary : Nat
  alternate : Option Nat
  mixing : Bool
  deriving DecidableEq, Repr

/-- The pick choice (R154): NONE, PENDING, CHOSEN with a finger or with no finger. -/
inductive Choice where
  | none
  | pending
  | chosen (finger : Option Nat)
  deriving DecidableEq, Repr

/-- The arrival check (R159). -/
inductive Arrival where
  | idle
  | waiting
  | openWindow
  | arrived
  | ended
  | skipped
  deriving DecidableEq, Repr

/-- The weft selector (ch. 10 state table). -/
structure WeftSel where
  map : List (Option MapEntry)
  toggles : BitVec 8
  choice : Choice
  output : Option Nat
  arrival : Arrival
  stopMark : Bool
  deriving DecidableEq, Repr

/-! ## Station control (ch. 12) -/

/-- The 30 event flags, in the order of their numbers (12.6). -/
inductive Flag where
  | holdSent | holdSeen | retracted | realigned | disagree | weftMismatch | rowDamaged | selectionMissed
  | overspeed | crowded | fast | historyExhausted | faultListFull | selectorFault | encoderGlitch
  | angleSlip | indexMissing | lineStuck | duplicateStation | strayPeer | trainDone | trainFailed | trainAbandoned
  | matchNotice | pieceRestart | substituted | feederStop | weftMissing | weftEarly | retainLost
  deriving DecidableEq, Repr

/-- The configuration with its effective values (R171, R172). The fields of the other role stay 0 and no block of this
role reads them. Latency and P are in us, spans in ticks, the dwell time in s. -/
structure Configuration where
  capacity : Nat
  index : Nat
  b : Nat
  c : Nat
  w : Nat
  k : Nat
  d : Nat
  fa : Nat
  ao : Nat
  ac : Nat
  g : Nat
  p : Nat
  m : Nat
  latency : Nat
  sCreep : Nat
  sFast : Nat
  dwell : Nat
  identity : BitVec 32
  deriving DecidableEq, Repr

/-- The retention state (R178). -/
inductive Retention where
  | intact
  | lost
  | current
  deriving DecidableEq, Repr

/-- Station control (ch. 12 state table). `writes` are the retained-record writes in progress, oldest first (R55);
`resetPending` is a RESET executed and waiting for its reply to leave, with the ticks since (R179); `powered` is main
power (log 15). -/
structure Control where
  state : StationState
  number : Nat
  role : Role
  config : Option Configuration
  flags : BitVec 30
  mask : BitVec 30
  retained : RetainedRecord
  retention : Retention
  writes : List RetainedRecord
  resetPending : Option Nat
  powered : Bool
  deriving DecidableEq, Repr

/-- The requests of the terminal (5.9, kinds). -/
inductive Request where
  | configure | rowWrite | rowRead | runWrite | matchWrite | weftMapWrite | loadDone | positionSet | positionResume
  | arm | disarm | testBegin | testStep | testEnd | train | status | flagsTake | faultListRead | faultListClear
  | historyRead | rosterRead | noticeMask | reset
  deriving DecidableEq, Repr

/-- The results of a reply (R170), in the order of their codes (5.9). -/
inductive Result where
  | done | doneAdjusted | state | range | order | invalid | busy | moving | role | lost | mismatch
  deriving DecidableEq, Repr

/-- The reasons of an INVALID reply (5.9). -/
inductive Reason where
  | none | rowUnwritten | nextUnwritten | startUnwritten | weftUnmapped
  deriving DecidableEq, Repr

/-! ## The whole -/

/-- The input pins: the straps as they stand (log 25), the others as last sampled (00, connections; log 10, 11). -/
structure Pins where
  strapNumber : Nat
  strapRole : Role
  feederStop : BitVec 8
  sense : List StringBits
  armature : BitVec 8
  deriving DecidableEq, Repr

/-- One station: everything but the queue of commands. -/
structure Device where
  tracker : Tracker
  seq : Sequencer
  store : Store
  line : Line
  roster : Roster
  fire : FireTimer
  strings : StringDriver
  trainer : Trainer
  weft : WeftSel
  control : Control
  pins : Pins
  deriving DecidableEq, Repr

/-- The machine's state: the station, and the commands waiting for it, first in, first out. -/
structure State where
  dev : Device
  pending : List Instr
  deriving DecidableEq, Repr

/-! ## Reset values, block by block -/

/-- R15, with the phase sampled at the reset. -/
def Tracker.reset (phase : BitVec 2) : Tracker where
  angle := 0
  referenced := false
  dir := .forward
  phase := phase
  indexDist := 0
  spanCounts := none
  spanTimer := 0
  span := none
  unsettled := 2
  speed := .stalled
  stationary := 0
  secondTimer := 0

/-- R37: the position record after a reset. -/
def Position.reset : Position := ⟨0, 1, 0, 0⟩

/-- R163: a cleared match entry. -/
def MatchEntry.reset : MatchEntry := ⟨none, none, none, none, .notice, false⟩

/-- R37, R56, R163. -/
def Sequencer.reset : Sequencer where
  runs := List.replicate 64 none
  startRun := 0
  pos := Position.reset
  void := false
  history := []
  guardOpen := false
  pickWeft := none
  pickLift := none
  table := List.replicate 12 MatchEntry.reset

/-- R72, over the contents the pattern memory then holds. -/
def Store.reset (mem : PatternMemory) : Store where
  mem := mem
  written := []
  fetch := .idle
  result := none
  lastDamaged := none

/-- R93, R111. -/
def Line.reset : Line where
  recessiveRun := 0
  dominantRun := 0
  ownPulse := false
  held := false
  halfBit := false
  sentBits := 0
  idleTicks := 0
  stuck := false
  rx := .hunt
  queue := []
  beaconSlot := none
  replySlot := none
  completion := none
  tx := .idle
  accessWait := 12
  counters := ⟨0, 0, 0, 0, 0, 0, 0, 0, 0⟩
  beaconDue := .idle

/-- R111. -/
def Roster.reset : Roster := ⟨false, [], none, false⟩

/-- R125: one string of the fire timer. -/
def FireString.reset : FireString := ⟨none, none, none, none, false⟩

/-- R125. -/
def FireTimer.reset : FireTimer := ⟨.idle, false, none, none, List.replicate 8 FireString.reset⟩

/-- R142: one string; the chain registers by log 29. -/
def SelString.reset : SelString where
  chain := .resting
  pattern := false
  latched := false
  waiting := false
  fireAngle := none
  echo := false
  expected := none
  capturePos := none
  latency := none
  result := .notRun
  shiftReg := 0#128
  outReg := 0#128
  drive := .off

/-- R142; the test row, to which it gives no value, by log 42. -/
def StringDriver.reset : StringDriver where
  power := .off
  mode := .none
  blank := false
  captureDone := false
  missTested := true
  strings := List.replicate 8 SelString.reset
  faults := []
  overflow := 0
  test := ⟨none, 0, 0, .idle⟩

/-- R150. -/
def Trainer.reset : Trainer := ⟨.idle, 0, 100, 1, 0, 0⟩

/-- R162. -/
def WeftSel.reset : WeftSel := ⟨List.replicate 8 none, 0#8, .none, none, .idle, false⟩

/-- A record of zeros whose check does not match (log 12). -/
def RetainedRecord.blank : RetainedRecord := ⟨0, 0, 0, 0, 0#32, 0#16⟩

/-- R180, over what the backup domain holds and the straps sampled. -/
def Control.reset (number : Nat) (role : Role) (flags : BitVec 30) (retained : RetainedRecord)
    (retention : Retention) (writes : List RetainedRecord) : Control where
  state := .dormant
  number := number
  role := role
  config := none
  flags := flags
  mask := 0#30
  retained := retained
  retention := retention
  writes := writes
  resetPending := none
  powered := true

/-- The machine right after the power-on reset of a station whose backup domain has never been written: every block in the
condition its chapter gives (R15, R37, R56, R72, R93, R111, R125, R142, R150, R162, R163, R180), straps and backup
domain by logs 11 and 12 (RETAIN LOST, flag 29, is set because the record is judged LOST, R178), nothing waiting. -/
def State.reset : State where
  dev :=
    { tracker := Tracker.reset Config.resetPhase
      seq := Sequencer.reset
      store := Store.reset []
      line := Line.reset
      roster := Roster.reset
      fire := FireTimer.reset
      strings := StringDriver.reset
      trainer := Trainer.reset
      weft := WeftSel.reset
      control := Control.reset Config.resetStrapNumber .sectionRole (BitVec.twoPow 30 29) RetainedRecord.blank .lost []
      pins := ⟨Config.resetStrapNumber, .sectionRole, 0#8, List.replicate 8 0#128, 0#8⟩ }
  pending := []

end Sys2Proof.Machine
end

