-- ==== Sys2Proof/Machine/Flags.lean ====
section
/-! DEFINITION. Writing one block of the device, and the event flags of station control (12.6, R176, R177). -/

namespace Sys2Proof.Machine

/-! ## One writer for each block -/

def onTracker (f : Tracker → Tracker) (d : Device) : Device := { d with tracker := f d.tracker }
def onSeq (f : Sequencer → Sequencer) (d : Device) : Device := { d with seq := f d.seq }
def onStore (f : Store → Store) (d : Device) : Device := { d with store := f d.store }
def onLine (f : Line → Line) (d : Device) : Device := { d with line := f d.line }
def onRoster (f : Roster → Roster) (d : Device) : Device := { d with roster := f d.roster }
def onFire (f : FireTimer → FireTimer) (d : Device) : Device := { d with fire := f d.fire }
def onStrings (f : StringDriver → StringDriver) (d : Device) : Device := { d with strings := f d.strings }
def onTrainer (f : Trainer → Trainer) (d : Device) : Device := { d with trainer := f d.trainer }
def onWeft (f : WeftSel → WeftSel) (d : Device) : Device := { d with weft := f d.weft }
def onControl (f : Control → Control) (d : Device) : Device := { d with control := f d.control }
def onPins (f : Pins → Pins) (d : Device) : Device := { d with pins := f d.pins }

/-- `f` where the condition holds, nothing otherwise. -/
def doIf (c : Bool) (f : Device → Device) (d : Device) : Device := if c then f d else d

/-! ## Event flags -/

/-- The number of a flag (12.6). -/
def flagNumber : Flag → Nat
  | .holdSent => 0
  | .holdSeen => 1
  | .retracted => 2
  | .realigned => 3
  | .disagree => 4
  | .weftMismatch => 5
  | .rowDamaged => 6
  | .selectionMissed => 7
  | .overspeed => 8
  | .crowded => 9
  | .fast => 10
  | .historyExhausted => 11
  | .faultListFull => 12
  | .selectorFault => 13
  | .encoderGlitch => 14
  | .angleSlip => 15
  | .indexMissing => 16
  | .lineStuck => 17
  | .duplicateStation => 18
  | .strayPeer => 19
  | .trainDone => 20
  | .trainFailed => 21
  | .trainAbandoned => 22
  | .matchNotice => 23
  | .pieceRestart => 24
  | .substituted => 25
  | .feederStop => 26
  | .weftMissing => 27
  | .weftEarly => 28
  | .retainLost => 29

/-- Sets a flag; a flag already set stays set (R176). -/
def setFlag (f : Flag) (d : Device) : Device :=
  onControl (fun c => { c with flags := c.flags ||| BitVec.twoPow 30 (flagNumber f) }) d

/-- Whether a flag is set. -/
def hasFlag (f : Flag) (d : Device) : Bool := d.control.flags.getLsbD (flagNumber f)

/-- Clears every flag (FLAGS TAKE, R176). -/
def clearFlags (d : Device) : Device := onControl (fun c => { c with flags := 0#30 }) d

/-- Whether a flag under the notice mask is set (R177). -/
def noticePending (d : Device) : Bool := decide (d.control.flags &&& d.control.mask ≠ 0#30)

end Sys2Proof.Machine
end

