-- ==== Sys2Proof/Machine/Ops.lean ====
section
/-! DEFINITION. The shared operations: angle arcs, saturation, bytes and the cyclic check, the pattern memory, the
configuration as the blocks read it, the hold pulse and the own hold, the beacon slot, the retained-record write. -/

namespace Sys2Proof.Machine

/-! ## Angles (00, conventions) -/

/-- The length of the forward arc from `x` to `y`, 0..4,095. -/
def arc (x y : Nat) : Nat := (y % 4096 + 4096 - x % 4096) % 4096

/-- Whether the angle `a` lies in the forward arc from `x` up to but not including `y`. -/
def inArc (a x y : Nat) : Bool := decide (arc x a < arc x y)

/-- The angle one count on in the direction of a step (R1). -/
def stepAngle (dir : Direction) (a : Nat) : Nat :=
  match dir with
  | .forward => (a + 1) % 4096
  | .reverse => (a + 4095) % 4096

/-! ## Counts that saturate (00, conventions) -/

/-- One more, staying at `top`. -/
def satInc (top n : Nat) : Nat := min (n + 1) top

/-- A line counter's increment (R90). -/
def inc16 (n : Nat) : Nat := satInc 65535 n

/-! ## Bytes -/

/-- A number as one byte. -/
def byte (n : Nat) : Byte := BitVec.ofNat 8 n

/-- A field of two bytes, high byte first (5.9). -/
def be16 (n : Nat) : List Byte := [byte (n / 256), byte n]

/-- A field of three bytes, high byte first (5.9). -/
def be24 (n : Nat) : List Byte := [byte (n / 65536), byte (n / 256), byte n]

/-- A field of four bytes, high byte first (5.9). -/
def be32 (n : Nat) : List Byte := [byte (n / 16777216), byte (n / 65536), byte (n / 256), byte n]

/-- The number that bytes spell, high byte first (5.9). -/
def ofBytes (l : List Byte) : Nat := l.foldl (fun acc b => acc * 256 + b.toNat) 0

/-- The field of `n` bytes at byte `i` of a payload (5.9). -/
def fieldAt (p : List Byte) (i n : Nat) : Nat := ofBytes ((p.drop i).take n)

/-! ## The cyclic check (R59) -/

/-- One data bit into the check register. -/
def checkBit (r : CheckWord) (b : Bool) : CheckWord :=
  if r.msb == b then r <<< 1 else (r <<< 1) ^^^ 0x1021#16

/-- One byte into the check register, most significant bit first. -/
def checkByte (r : CheckWord) (x : Byte) : CheckWord :=
  [7, 6, 5, 4, 3, 2, 1, 0].foldl (fun r i => checkBit r (x.getLsbD i)) r

/-- The check over bytes in order, starting at 0FFFFH, with no final inversion. -/
def cyclicCheck (l : List Byte) : CheckWord := l.foldl checkByte 0xFFFF#16

/-! ## The pattern memory (R57) -/

/-- The size of the pattern memory, 4 MiB. -/
def memSize : Nat := 4194304

/-- The byte at an address; an unlisted one reads as `Config.unlistedByte` (log 17). -/
def Memory.read : PatternMemory → Nat → Byte
  | [], _ => Config.unlistedByte
  | (a, b) :: m, x => if a = x then b else Memory.read m x

/-- Puts a byte into the list in its place, keeping the canonical form. -/
def Memory.insert : PatternMemory → Nat → Byte → PatternMemory
  | [], x, v => if v = Config.unlistedByte then [] else [(x, v)]
  | (a, b) :: m, x, v =>
    if x < a then
      if v = Config.unlistedByte then (a, b) :: m else (x, v) :: (a, b) :: m
    else if x = a then
      if v = Config.unlistedByte then m else (x, v) :: m
    else (a, b) :: Memory.insert m x v

/-- Writes one byte; an address outside the memory does not exist and nothing is written there (R57). -/
def Memory.write (m : PatternMemory) (x : Nat) (v : Byte) : PatternMemory :=
  if x < memSize then Memory.insert m x v else m

/-- Writes bytes at rising addresses from `x`. -/
def Memory.writeBytes : PatternMemory → Nat → List Byte → PatternMemory
  | m, _, [] => m
  | m, x, b :: bs => Memory.writeBytes (Memory.write m x b) (x + 1) bs

/-- Writes single cells one after another. -/
def Memory.writeCells (m : PatternMemory) (cells : List Host.Cell) : PatternMemory :=
  cells.foldl (fun m c => Memory.write m c.1 c.2) m

/-- The `n` bytes from address `x`. -/
def Memory.readBytes (m : PatternMemory) (x n : Nat) : List Byte := (List.range n).map fun i => Memory.read m (x + i)

/-- The canonical form from an address on: addresses strictly rising and inside the memory, no listed byte equal to what
an unlisted one reads as. -/
def Memory.wfFrom : Nat → PatternMemory → Bool
  | _, [] => true
  | lo, (a, b) :: m =>
    decide (lo ≤ a) && decide (a < memSize) && decide (b ≠ Config.unlistedByte) && Memory.wfFrom (a + 1) m

/-- The canonical form of the pattern memory. -/
def Memory.wf (m : PatternMemory) : Bool := Memory.wfFrom 0 m

/-! ## The configuration as the blocks read it -/

/-- The hook capacity: that of the configuration in the section role, 0 in the weft role and before CONFIGURE. -/
def capacityOf (d : Device) : Nat :=
  match d.control.role, d.control.config with
  | .sectionRole, some c => c.capacity
  | _, _ => 0

/-- The number of strings the station drives, capacity / 128 (R126). -/
def stringCount (d : Device) : Nat := capacityOf d / 128

/-- Whether the station is in the section role. -/
def isSection (d : Device) : Bool := decide (d.control.role = .sectionRole)

/-- Whether the station is in the weft role. -/
def isWeft (d : Device) : Bool := decide (d.control.role = .weftRole)

/-- Whether the station is in WEAVE. -/
def inWeave (d : Device) : Bool := decide (d.control.state = .weave)

/-- Phase number of a level pair (1.1): 0 low low, 1 high low, 2 high high, 3 low high. -/
def phaseOf (a b : Bool) : BitVec 2 :=
  match a, b with
  | false, false => 0#2
  | true, false => 1#2
  | true, true => 2#2
  | false, true => 3#2

/-! ## Line controller: waits, the beacon slot, the hold pulse -/

/-- The access wait when no attempt has been abandoned: 12 bt, in FAULT 1,000 bt (R83, R92). -/
def restWait (d : Device) : Nat := if d.control.state = .fault then 1000 else 12

/-- The access wait after an abandoned attempt: (station number + 1) x 12 bt, in FAULT 1,000 bt (R83, R92). -/
def backoffWait (d : Device) : Nat := if d.control.state = .fault then 1000 else (d.control.number + 1) * 12

/-- The frame in assembly is not, or no longer, sent whole by this station (R78). -/
def disown : Receiver → Receiver
  | .hunt => .hunt
  | .header f => .header { f with own := false }
  | .payload f => .payload { f with own := false }
  | .check f => .check { f with own := false }
  | .awaitingRun => .awaitingRun

/-- One line counter goes up by one event (R90). -/
def count (f : Counters → Counters) (d : Device) : Device := onLine (fun l => { l with counters := f l.counters }) d

/-- The transmitter leaves a frame unfinished: the line is released at once, the attempt counts stand, the next start needs
the normal wait (R82). -/
def stopSending (d : Device) : Device :=
  onLine (fun l => { l with tx := .idle, rx := disown l.rx, accessWait := restWait d }) d

/-- Whether the transmitter is sending the given slot's frame. -/
def isSending (slot : SlotName) (d : Device) : Bool :=
  match d.line.tx with
  | .sending s _ => decide (s = slot)
  | _ => false

/-- Discards an unsent beacon from its slot, counting it late where R82 says so; a transmission of it ends at once. -/
def discardBeacon (late : Bool) (d : Device) : Device :=
  match d.line.beaconSlot with
  | none => d
  | some _ =>
    onLine (fun l => { l with beaconSlot := none })
      (doIf late (count fun c => { c with beaconsLate := inc16 c.beaconsLate })
        (doIf (isSending .beacon d) stopSending d))

/-- A pulse request (R86): not sent on a STUCK line, merged with a pulse under way, otherwise begun at once; a frame being
sent stops and stays in its slot. The own-pulse mark is set when the run is below 22 bt (R74). Where a pulse is under way on
a line that has become STUCK, both of R86's last sentences apply: the model takes STUCK first and sets nothing (log 43). -/
def requestPulse (d : Device) : Device :=
  if d.line.stuck then d
  else
    match d.line.tx with
    | .pulse _ => setFlag .holdSent d
    | _ =>
      setFlag .holdSent
        (onLine (fun l => { l with
          tx := .pulse 0
          rx := disown l.rx
          recessiveRun := 0
          halfBit := false
          ownPulse := l.ownPulse || decide (l.dominantRun < 22) }) d)

/-- An own hold request (R44): taken in WEAVE, where it voids the pick and asks for the pulse; not taken elsewhere. -/
def ownHold (d : Device) : Device :=
  if d.control.state = .weave then requestPulse (onSeq (fun q => { q with void := true }) d) else d

/-! ## The retained record (R55, R178) -/

/-- The bytes the record check is computed over (R178; their layout is log 13). -/
def recordBytes (p : Position) (identity : BitVec 32) : List Byte :=
  byte p.run :: be16 p.iteration ++ be16 p.row ++ be24 p.piece ++ be32 identity.toNat

/-- The record that a write of a position leaves. -/
def recordOf (p : Position) (identity : BitVec 32) : RetainedRecord :=
  ⟨p.run, p.iteration, p.row, p.piece, identity, cyclicCheck (recordBytes p identity)⟩

/-- The position a record holds. -/
def recordPosition (r : RetainedRecord) : Position := ⟨r.run, r.iteration, r.row, r.piece⟩

/-- Whether the recomputed check of a record matches the stored one. -/
def recordSound (r : RetainedRecord) : Bool :=
  decide (cyclicCheck (recordBytes (recordPosition r) r.identity) = r.check)

/-- Starts a write of the retained record with the position as it stands, after any write in progress (R55). -/
def writeRetained (d : Device) : Device :=
  onControl (fun c => { c with
    writes := c.writes ++ [recordOf d.seq.pos ((c.config.map (·.identity)).getD 0#32)] }) d

/-- Completes the oldest write in progress: the record is replaced whole and the retention state is CURRENT (R178). -/
def completeWrite (c : Control) : Control :=
  match c.writes with
  | [] => c
  | r :: rest => { c with retained := r, retention := .current, writes := rest }

/-- Completes every write in progress (R178; log 14). -/
def completeAllWrites (c : Control) : Control :=
  match c.writes.getLast? with
  | none => c
  | some r => { c with retained := r, retention := .current, writes := [] }

end Sys2Proof.Machine
end

