-- ==== Sys2Proof/Machine/Operands.lean ====
section
/-! DEFINITION. Operand forms: the codes and layouts of frames (5.9), replies, the acceptance table (12.2), row records
and the patterns of strings. -/

namespace Sys2Proof.Machine

/-! ## Codes (5.9) -/

/-- The kind code of a request. -/
def requestCode : Request → Byte
  | .configure => 0xC1#8
  | .rowWrite => 0xC2#8
  | .rowRead => 0xC3#8
  | .runWrite => 0xC4#8
  | .matchWrite => 0xC5#8
  | .weftMapWrite => 0xC6#8
  | .loadDone => 0xC7#8
  | .positionSet => 0xC8#8
  | .positionResume => 0xC9#8
  | .arm => 0xCA#8
  | .disarm => 0xCB#8
  | .testBegin => 0xCC#8
  | .testStep => 0xCD#8
  | .testEnd => 0xCE#8
  | .train => 0xCF#8
  | .status => 0xD0#8
  | .flagsTake => 0xD1#8
  | .faultListRead => 0xD2#8
  | .faultListClear => 0xD3#8
  | .historyRead => 0xD4#8
  | .rosterRead => 0xD5#8
  | .noticeMask => 0xD6#8
  | .reset => 0xD7#8

/-- Whether a kind is one of the request codes 0C1H..0D7H. -/
def isRequestKind (k : Byte) : Bool := decide (0xC1 ≤ k.toNat) && decide (k.toNat ≤ 0xD7)

/-- The kind of a beacon. -/
def beaconKind : Byte := 0xA1#8

/-- The kind of a reply. -/
def replyKind : Byte := 0xA2#8

/-- The node number of the loom terminal. -/
def terminalNode : Byte := 40#8

/-- The destination of all nodes. -/
def allNodes : Byte := 63#8

def resultCode : Result → Nat
  | .done => 0
  | .doneAdjusted => 1
  | .state => 2
  | .range => 3
  | .order => 4
  | .invalid => 5
  | .busy => 6
  | .moving => 7
  | .role => 8
  | .lost => 9
  | .mismatch => 10

def reasonCode : Reason → Nat
  | .none => 0
  | .rowUnwritten => 1
  | .nextUnwritten => 2
  | .startUnwritten => 3
  | .weftUnmapped => 4

def stateCode : StationState → Nat
  | .dormant => 0
  | .load => 1
  | .ready => 2
  | .weave => 3
  | .test => 4
  | .train => 5
  | .fault => 6

/-- The station state of a code of the beacon layout. -/
def stateOfCode (n : Nat) : Option StationState :=
  match n with
  | 0 => some .dormant
  | 1 => some .load
  | 2 => some .ready
  | 3 => some .weave
  | 4 => some .test
  | 5 => some .train
  | 6 => some .fault
  | _ => none

def roleCode : Role → Nat
  | .sectionRole => 0
  | .weftRole => 1

def speedCode : Speed → Nat
  | .stalled => 0
  | .creep => 1
  | .run => 2
  | .fast => 3

def directionCode : Direction → Nat
  | .forward => 0
  | .reverse => 1

def powerCode : Power → Nat
  | .off => 0
  | .waking _ => 1
  | .on => 2

def retentionCode : Retention → Nat
  | .intact => 0
  | .lost => 1
  | .current => 2

def trainCode : TrainResult → Nat
  | .notRun => 0
  | .trained => 1
  | .failed => 2
  | .stuck => 3

def faultCode : SelFault → Nat
  | .openFault => 0
  | .stuckOn => 1

def kindCode : CrossKind → Nat
  | .advance => 0
  | .again => 1

def bit (b : Bool) (place : Nat) : Nat := if b then 2 ^ place else 0

/-- A finger field: 0..7, or 0FFH for none (5.9). -/
def fingerCode (f : Option Nat) : Nat := f.getD 0xFF

/-! ## Frames (R75) -/

/-- The header and payload characters of a frame, over which its check is computed. -/
def frameBody (f : Frame) : List Byte := f.dest :: f.source :: f.kind :: byte f.payload.length :: f.payload

/-- The characters of a frame on the line: mark, header, payload, check. -/
def frameChars (f : Frame) : List Byte :=
  0xB4#8 :: 0x2D#8 :: frameBody f ++ be16 (cyclicCheck (frameBody f)).toNat

/-! ## Replies (5.9, R94) -/

/-- The reason, run, row and code fields of a reply. -/
structure Detail where
  reason : Reason
  run : Nat
  row : Nat
  code : Nat
  deriving DecidableEq, Repr

/-- The fields where a rule names none (R94). -/
def noDetail : Detail := ⟨.none, 0xFF, 0xFFFF, 0xFF⟩

/-- The reply frame of a request. -/
def replyFrame (d : Device) (r : Request) (res : Result) (t : Detail) (data : List Byte) : Frame where
  dest := terminalNode
  source := byte d.control.number
  kind := replyKind
  payload := requestCode r :: byte (resultCode res) :: byte (reasonCode t.reason) :: byte t.run :: be16 t.row
    ++ byte t.code :: data

/-- Places a reply in the reply slot with attempt count 0 (R81). -/
def placeReply (f : Frame) (d : Device) : Device := onLine (fun l => { l with replySlot := some ⟨f, 0⟩ }) d

/-- Answers a request with a result and no data. -/
def answer (r : Request) (res : Result) (d : Device) : Device := placeReply (replyFrame d r res noDetail []) d

/-- Answers a request with a result and its data. -/
def answerData (r : Request) (res : Result) (data : List Byte) (d : Device) : Device :=
  placeReply (replyFrame d r res noDetail data) d

/-- Refuses a request with INVALID and its detail. -/
def answerInvalid (r : Request) (t : Detail) (d : Device) : Device := placeReply (replyFrame d r .invalid t []) d

/-! ## The acceptance table (12.2) -/

/-- The states in which a request is taken. -/
def takenIn : Request → List StationState
  | .configure => [.dormant]
  | .rowWrite => [.load, .ready]
  | .rowRead => [.load, .ready]
  | .runWrite => [.load]
  | .loadDone => [.load]
  | .weftMapWrite => [.load]
  | .matchWrite => [.load, .ready, .weave]
  | .positionSet => [.ready]
  | .positionResume => [.ready]
  | .arm => [.ready]
  | .disarm => [.weave]
  | .testBegin => [.ready]
  | .train => [.ready]
  | .testStep => [.test]
  | .testEnd => [.test]
  | .status => [.dormant, .load, .ready, .weave, .test, .train, .fault]
  | .reset => [.dormant, .load, .ready, .weave, .test, .train, .fault]
  | .flagsTake => [.load, .ready, .weave, .test, .train]
  | .faultListRead => [.load, .ready, .weave, .test]
  | .faultListClear => [.load, .ready, .weave, .test]
  | .noticeMask => [.load, .ready, .weave, .test]
  | .historyRead => [.load, .ready, .weave]
  | .rosterRead => [.load, .ready, .weave]

/-- The result that refuses a request in a station state, or none where it is taken: BUSY in TRAIN, STATE elsewhere. -/
def acceptance (r : Request) (s : StationState) : Option Result :=
  if s ∈ takenIn r then none else if s = .train then some .busy else some .state

/-! ## Row records (R57 to R60) -/

/-- The first byte of a row's slot. -/
def slotAddress (row : Nat) : Nat := row * 256

/-- The bytes of a lift field (R58): capacity / 8, none in the weft role. -/
def liftBytes (d : Device) : Nat := capacityOf d / 8

/-- The row check of a record (R59). -/
def rowCheck (weft : Byte) (field : List Byte) : CheckWord := cyclicCheck (weft :: field)

/-- A record as its slot holds it: weft code, lift field, check (check layout: log 18). -/
def recordImage (weft : Byte) (field : List Byte) : List Byte := weft :: field ++ be16 (rowCheck weft field).toNat

/-- What a read of a slot gives: weft code, lift field, and whether the recomputed check matches. -/
structure RowRead where
  weft : Byte
  field : List Byte
  sound : Bool
  deriving DecidableEq, Repr

/-- Reads the slot of a row and recomputes its check (R63, R64). -/
def readRow (d : Device) (row : Nat) : RowRead :=
  let weft := Memory.read d.store.mem (slotAddress row)
  let field := Memory.readBytes d.store.mem (slotAddress row + 1) (liftBytes d)
  let stored := ofBytes (Memory.readBytes d.store.mem (slotAddress row + 1 + liftBytes d) 2)
  ⟨weft, field, decide ((rowCheck weft field).toNat = stored)⟩

/-- Whether a row's mark is set (R60). -/
def isWritten (d : Device) (row : Nat) : Bool := decide (row ∈ d.store.written)

/-- Sets a row's mark, keeping the list rising. -/
def setMark : Nat → List Nat → List Nat
  | r, [] => [r]
  | r, x :: xs => if r < x then r :: x :: xs else if r = x then x :: xs else x :: setMark r xs

/-- The set bits of a byte. -/
def byteOnes (b : Byte) : Nat := ((List.range 8).filter fun i => b.getLsbD i).length

/-- The lift count: the set bits of a lift field (R58). -/
def liftCount (field : List Byte) : Nat := (field.map byteOnes).sum

/-- The 128 bits of one string: bytes 16 x s to 16 x s + 15, place p in bit p mod 8 of byte p / 8 (R58, 5.9). -/
def stringBits (field : List Byte) (s : Nat) : StringBits :=
  BitVec.ofNat 128 (((field.drop (16 * s)).take 16).foldr (fun b acc => b.toNat + 256 * acc) 0)

/-- The pattern of a test step on every string (R139); ROW takes its pattern from a row and gives none here. -/
def testBits (p : TestPattern) (k : Nat) : StringBits :=
  match p with
  | .allDown => 0#128
  | .allUp => BitVec.allOnes 128
  | .checker =>
    if k % 2 = 0 then BitVec.ofNat 128 0x55555555555555555555555555555555
    else BitVec.ofNat 128 0xAAAAAAAAAAAAAAAAAAAAAAAAAAAAAAAA
  | .walk => BitVec.twoPow 128 (k % 128)
  | .row => 0#128

/-! ## Configured angles -/

/-- The angle G-end, B + G (R7). -/
def guardEnd (c : Configuration) : Nat := (c.b + c.g) % 4096

end Sys2Proof.Machine
end

