-- ==== Sys2Proof/Machine/Programme.lean ====
section
/-! DEFINITION. The pick programme (ch. 2): runs, the valid position, the forward advance, the weft code of a pick, the
validation of LOAD DONE, and the start of a row fetch (R64). -/

namespace Sys2Proof.Machine

/-! ## Runs (R16, R17) -/

/-- The run at a place of the table, or none where the place is unwritten or does not exist. -/
def runAt (runs : List (Option Run)) (i : Nat) : Option Run := (runs[i]?).join

/-- Whether a run is ascending (R17). -/
def ascending (r : Run) : Bool := decide (r.fromRow ≤ r.toRow)

/-- The number of rows of one iteration (R17). -/
def runLength (r : Run) : Nat := if ascending r then r.toRow - r.fromRow + 1 else r.fromRow - r.toRow + 1

/-- The rows of one iteration in the order the run weaves them (R17). -/
def runRows (r : Run) : List Nat :=
  (List.range (runLength r)).map fun i => if ascending r then r.fromRow + i else r.fromRow - i

/-- Whether a row lies in the range of a run (R17). -/
def inRange (r : Run) (row : Nat) : Bool :=
  (decide (r.fromRow ≤ row) && decide (row ≤ r.toRow)) || (decide (r.toRow ≤ row) && decide (row ≤ r.fromRow))

/-- Whether a position is valid for the programme held (R21). -/
def validPosition (runs : List (Option Run)) (p : Position) : Bool :=
  match runAt runs p.run with
  | none => false
  | some r =>
    inRange r p.row && decide (1 ≤ p.iteration) && decide (p.iteration ≤ r.count) && decide (p.piece ≤ 16777215)

/-! ## The forward advance (R22 to R26) -/

/-- The piece count one advance on (R25). -/
def nextPiece (n : Nat) : Nat := (n + 1) % 16777216

/-- The position after one advance. Where the run or the run it names is unwritten there is no position to advance to, and
the run, iteration and row stay (R24: LOAD DONE rules this out; log 32). -/
def advance (runs : List (Option Run)) (p : Position) : Position :=
  let moved : Position :=
    match runAt runs p.run with
    | none => p
    | some r =>
      if p.row ≠ r.toRow then
        { p with row := if ascending r then p.row + 1 else p.row - 1 }
      else if p.iteration < r.count then
        { p with iteration := p.iteration + 1, row := r.fromRow }
      else
        match runAt runs r.next with
        | none => p
        | some r' => { p with run := r.next, iteration := 1, row := r'.fromRow }
  { moved with piece := nextPiece p.piece }

/-! ## The weft code of a pick (R27) -/

/-- The weft override of the position's run, or none. -/
def overrideOf (d : Device) : Option Nat := (runAt d.seq.runs d.seq.pos.run).bind (·.override)

/-- The weft override of the pick under way: while its row is being fetched, the one its fetch began with (a realignment may
have changed the position since, R54, R65); else that of the position's run. -/
def pickOverride (d : Device) : Option Nat :=
  match d.store.fetch with
  | .fetching _ (.pick _ o) _ => o
  | _ => overrideOf d

/-- The weft code recorded or announced for the pick under way: the one handed by its completed fetch, else its run's
override, else 15 (R39, R69). -/
def recordedWeft (d : Device) : Nat :=
  if d.seq.pickLift.isSome then d.seq.pickWeft.getD 15 else (pickOverride d).getD 15

/-- Whether the weft code of the pick under way is known (R109). -/
def weftKnown (d : Device) : Bool := d.seq.pickLift.isSome || (pickOverride d).isSome

/-! ## The start of a row fetch (R64, R65) -/

/-- Starts, or restarts, the fetch of the position's row with purpose PICK: the pick result becomes UNKNOWN, the weft code is
known at once where the run has an override. -/
def startPickFetch (reverse : Bool) (d : Device) : Device :=
  onSeq (fun q => { q with pickWeft := overrideOf d, pickLift := none })
    (onStore (fun s => { s with fetch := .fetching d.seq.pos.row (.pick reverse (overrideOf d)) 0, result := none }) d)

/-- The weft code kept in a restored entry comes back with its position, unless the run has an override (R27). -/
def bringBackWeft (e : HistoryEntry) (d : Device) : Device :=
  onSeq (fun q => { q with pickWeft := some ((overrideOf d).getD e.weft) }) d

/-- Starts, or restarts, a fetch with purpose TEST (R70); the pick result becomes UNKNOWN, and with it the pick's handed
weft code and lift count (R69; log 20). -/
def startTestFetch (row : Nat) (d : Device) : Device :=
  onSeq (fun q => { q with pickWeft := none, pickLift := none })
    (onStore (fun s => { s with fetch := .fetching row .test 0, result := none }) d)

/-- Ends a PICK fetch in flight without completion (R65). -/
def endPickFetch (d : Device) : Device :=
  match d.store.fetch with
  | .fetching _ (.pick _ _) _ => onStore (fun s => { s with fetch := .idle, result := none }) d
  | _ => d

/-- Ends a TEST fetch in flight without completion (R65). -/
def endTestFetch (d : Device) : Device :=
  match d.store.fetch with
  | .fetching _ .test _ => onStore (fun s => { s with fetch := .idle, result := none }) d
  | _ => d

/-! ## Validation at LOAD DONE (R29 to R32) -/

/-- The weft map's entry of a code: none for code 15 and for an unmapped code. -/
def mapEntry (d : Device) (k : Nat) : Option MapEntry := if k < 8 then (d.weft.map[k]?).join else none

/-- Whether a weft code needs a finger the map does not give: 0..7 with no primary finger (R28). -/
def unmapped (d : Device) (k : Nat) : Bool := decide (k < 8) && (mapEntry d k).isNone

/-- What is wrong with one written run: its next run (R30), then its rows (R31). -/
def runFailure (d : Device) (i : Nat) (r : Run) : Option Detail :=
  match runAt d.seq.runs r.next with
  | none => some ⟨.nextUnwritten, i, r.next, 0xFF⟩
  | some _ => ((runRows r).find? fun row => !isWritten d row).map fun row => ⟨.rowUnwritten, i, row, 0xFF⟩

/-- The first failure among the written runs, by run number (R30). -/
def runsFailure (d : Device) : Option Detail :=
  (List.range 64).findSome? fun i => (runAt d.seq.runs i).bind (runFailure d i)

/-- The first unmapped override, by run number (R32, first pass). -/
def overrideFailure (d : Device) : Option Detail :=
  (List.range 64).findSome? fun i =>
    (runAt d.seq.runs i).bind fun r =>
      r.override.bind fun k => if unmapped d k then some ⟨.weftUnmapped, i, 0xFFFF, k⟩ else none

/-- The first written row with an unmapped code, by row number (R32, second pass). No rule says what a damaged slot gives here:
the model takes the weft code byte as it stands in the slot, with no row check (log 44). -/
def rowCodeFailure (d : Device) : Option Detail :=
  d.store.written.findSome? fun row =>
    let k := (readRow d row).weft.toNat
    if unmapped d k then some ⟨.weftUnmapped, 0xFF, row, k⟩ else none

/-- The first failure of the programme held, or none (R29 to R32). -/
def loadFailure (d : Device) : Option Detail :=
  match runAt d.seq.runs d.seq.startRun with
  | none => some ⟨.startUnwritten, d.seq.startRun, 0xFFFF, 0xFF⟩
  | some _ =>
    match runsFailure d with
    | some t => some t
    | none => if isWeft d then (overrideFailure d).or (rowCodeFailure d) else none

/-- The start position (R34). -/
def startPosition (d : Device) : Position :=
  ⟨d.seq.startRun, 1, ((runAt d.seq.runs d.seq.startRun).map (·.fromRow)).getD 0, 0⟩

end Sys2Proof.Machine
end

