-- ==== Sys2Proof/Machine/Weft.lean ====
section
/-! DEFINITION. Weft selection (ch. 10): toggles, the finger choice, the finger output, the arrival check. -/

namespace Sys2Proof.Machine

/-! ## Toggles (R151, R153) -/

/-- Whether a code mixes: mixing flag set and an alternate finger present (R151). -/
def mixes (e : MapEntry) : Bool := e.mixing && e.alternate.isSome

/-- Whether the toggle of a code is set; code 15 has none. -/
def toggleOf (d : Device) (k : Nat) : Bool := decide (k < 8) && d.weft.toggles.getLsbD k

/-- Sets the toggle of a code to a value; code 15 has none. -/
def putToggle (k : Nat) (v : Bool) (d : Device) : Device :=
  if k < 8 then
    onWeft (fun w => { w with
      toggles := if v then w.toggles ||| BitVec.twoPow 8 k else w.toggles &&& ~~~BitVec.twoPow 8 k }) d
  else d

/-- An ADVANCE flips the toggle of the code of the pick being left, if that code mixes (R153). -/
def flipToggle (k : Nat) (d : Device) : Device :=
  match mapEntry d k with
  | some e => if mixes e then putToggle k (!toggleOf d k) d else d
  | none => d

/-! ## Choosing the finger (R154, R155) -/

/-- Whether the feeder-stop input of a finger is active. -/
def stopped (d : Device) (f : Nat) : Bool := d.pins.feederStop.getLsbD f

def setChoice (c : Choice) (d : Device) : Device := onWeft (fun w => { w with choice := c }) d

/-- The other finger of a code's pair, or none (R155 step 4). Where the finger stands at neither place of the pair, which a
restored pick over a rewritten row can bring (R156, R157), the rules give no other finger and the model takes the primary one
(log 45). -/
def otherFinger (e : MapEntry) (f : Nat) : Option Nat := if f = e.primary then e.alternate else some e.primary

/-- The pick has no finger: FEEDER STOP and an own hold (R155 step 5). -/
def noFinger (d : Device) : Device := ownHold (setFlag .feederStop (setChoice (.chosen none) d))

/-- The other finger of the pair replaces a stopped one, if its feeder runs (R155 steps 4 and 5). -/
def substitute (other : Option Nat) (d : Device) : Device :=
  match other with
  | some o => if stopped d o then noFinger d else setFlag .substituted (setChoice (.chosen (some o)) d)
  | none => noFinger d

/-- The nominal finger of a code (R155 step 2). -/
def nominalFinger (d : Device) (k : Nat) (e : MapEntry) : Nat :=
  if mixes e && toggleOf d k then e.alternate.getD e.primary else e.primary

/-- The choice for a weft code (R155). Code 15 has no finger; an unmapped code cannot be met (R28) and is given none. -/
def chooseFinger (k : Nat) (d : Device) : Device :=
  match mapEntry d k with
  | none => setChoice (.chosen none) d
  | some e =>
    let f := nominalFinger d k e
    if stopped d f then substitute (otherFinger e f) d else setChoice (.chosen (some f)) d

/-- Starts the choice for the position as it stands: made at once with an override, PENDING without (R154). -/
def startChoice (d : Device) : Device :=
  match overrideOf d with
  | some k => chooseFinger k d
  | none => setChoice .pending d

/-! ## The arrival check at a boundary (R159) -/

def setArrival (a : Arrival) (d : Device) : Device := onWeft (fun w => { w with arrival := a }) d

/-- WEFT MISSING with its own hold (R159). -/
def weftIsMissing (d : Device) : Device := ownHold (setFlag .weftMissing d)

/-- A check still WAITING or OPEN. -/
def arrivalOutstanding (d : Device) : Bool :=
  decide (d.weft.arrival = .waiting) || decide (d.weft.arrival = .openWindow)

/-- A forward B crossing reports a check still outstanding and makes it IDLE (R159). -/
def arrivalAtForwardB (d : Device) : Device :=
  setArrival .idle (doIf (arrivalOutstanding d) weftIsMissing d)

/-! ## What the crossings and the fetch hand over -/

/-- R40 step 7: the weft selector takes a forward boundary crossing with its kind; `left` is the weft code of the pick
being left, as its history entry records it. -/
def weftForwardBoundary (kind : CrossKind) (left : Nat) (d : Device) : Device :=
  if isWeft d then
    arrivalAtForwardB (startChoice (doIf (decide (kind = .advance)) (flipToggle left) d))
  else d

/-- R156, R153: a reverse pop restores the toggle and takes the entry's finger; the check is IDLE, the stop mark clear. -/
def weftReversePop (e : HistoryEntry) (d : Device) : Device :=
  if isWeft d then
    onWeft (fun w => { w with choice := .chosen e.finger, arrival := .idle, stopMark := false })
      (putToggle e.weft e.toggle d)
  else d

/-- R156: a reverse B crossing with an empty history keeps choice and toggles. -/
def weftReverseEmpty (d : Device) : Device :=
  if isWeft d then onWeft (fun w => { w with arrival := .idle, stopMark := false }) d else d

/-- R49: a retract restores the toggle, ends the check and chooses the finger for the restored position. -/
def weftRetract (e : HistoryEntry) (d : Device) : Device :=
  if isWeft d then startChoice (setArrival .idle (putToggle e.weft e.toggle d)) else d

/-- The finger of a choice. -/
def chosenFinger (c : Choice) : Option Nat :=
  match c with
  | .chosen f => f
  | _ => none

/-- The output takes the finger of the choice as it then stands (R157, R158). -/
def outputChoice (d : Device) : Device := onWeft (fun w => { w with output := chosenFinger w.choice }) d

/-- A choice made after Fa: the output changes at once, and with no finger an outstanding check is SKIPPED (R158). -/
def lateChoice (d : Device) : Device :=
  let d := onWeft (fun w => { w with stopMark := false }) (outputChoice d)
  doIf (decide (d.weft.choice = .chosen none) && arrivalOutstanding d) (setArrival .skipped) d

/-- R66 step 3, R154, R158: the weft code of a completed fetch reaches the weft selector. A PENDING choice is made; where Fa
has been crossed in this pick (the arrival check is not IDLE) the output follows at once. A choice PENDING at the forward Fa
crossing that a reverse B crossing with an empty history then keeps, the check made IDLE (R156), leaves the output as it stands
until the next Fa crossing, where R158 changes it at the completion: DESIGN CHOICE (log 59). -/
def weftCodeArrives (k : Nat) (d : Device) : Device :=
  if isWeft d && decide (d.weft.choice = .pending) then
    doIf (decide (d.weft.arrival ≠ .idle)) lateChoice (chooseFinger k d)
  else d

/-! ## The finger angle and the arrival window (R157 to R159) -/

/-- R157 step 1: a chosen finger whose feeder is now stopped. -/
def reexamine (d : Device) : Device :=
  match d.weft.choice with
  | .chosen (some f) =>
    if stopped d f then substitute ((mapEntry d (d.seq.pickWeft.getD 15)).bind fun e => otherFinger e f) d else d
  | _ => d

/-- R157 step 3: the check after a forward Fa crossing. -/
def armedArrival (c : Choice) : Arrival :=
  match c with
  | .none => .skipped
  | .chosen none => .skipped
  | .chosen (some _) => .waiting
  | .pending => .waiting

/-- R157 steps 1 to 3, in WEAVE. -/
def fingerAngle (d : Device) : Device :=
  onWeft (fun w => { w with arrival := armedArrival w.choice, stopMark := false }) (outputChoice (reexamine d))

/-- A reverse Fa crossing in WEAVE: the output takes the finger of the choice (R158). -/
def reverseFingerAngle (d : Device) : Device := doIf (inWeave d) outputChoice d

/-- A forward Ao crossing: WAITING becomes OPEN (R159). -/
def arrivalOpen (d : Device) : Device :=
  doIf (decide (d.weft.arrival = .waiting)) (setArrival .openWindow) d

/-- A forward Ac crossing: an outstanding check reports WEFT MISSING; it and an arrival end the check (R159). -/
def arrivalClose (d : Device) : Device :=
  if arrivalOutstanding d then setArrival .ended (weftIsMissing d)
  else doIf (decide (d.weft.arrival = .arrived)) (setArrival .ended) d

/-- A detector pulse (R159). -/
def detectorPulse (d : Device) : Device :=
  match d.weft.arrival with
  | .waiting => setFlag .weftEarly d
  | .openWindow => setArrival .arrived d
  | _ => d

/-- A feeder-stop input takes a level (R160). Becoming active on the finger in the output, after Fa in WEAVE, it sets FEEDER
STOP and requests one hold per pick. -/
def feederInput (finger : Nat) (active : Bool) (d : Device) : Device :=
  let was := stopped d finger
  let d := onPins (fun p => { p with
    feederStop := if active then p.feederStop ||| BitVec.twoPow 8 finger
      else p.feederStop &&& ~~~BitVec.twoPow 8 finger }) d
  if isWeft d && inWeave d && active && !was && decide (d.weft.output = some finger)
      && decide (d.weft.arrival ≠ .idle) then
    let d := setFlag .feederStop d
    if d.weft.stopMark then d else onWeft (fun w => { w with stopMark := true }) (ownHold d)
  else d

/-- Leaving WEAVE: every finger off, no choice, check IDLE (R158, R159). -/
def weftLeave (d : Device) : Device :=
  onWeft (fun w => { w with choice := .none, output := none, arrival := .idle }) d

end Sys2Proof.Machine
end

