-- ==== Sys2Proof/Machine/LineControl.lean ====
section
/-! DEFINITION. The line controller (ch. 5) and the beacon due state (6.1): receiver, receive queue, transmitter, slots,
measured runs, and the building of the beacon. -/

namespace Sys2Proof.Machine

/-! ## The measured runs (R74; log 7) -/

/-- Whether this station's hold pulse is under way. -/
def pulsing (d : Device) : Bool :=
  match d.line.tx with
  | .pulse _ => true
  | _ => false

/-- The dominant run ends. A character with a dominant stop bit is then a framing error where the run stayed below 22 bt; where it
reached 22 bt the hold alone discards the frame (R77). -/
def judgeStopBit (l : Line) : Line :=
  match l.rx with
  | .awaitingRun =>
    { l with
      rx := .hunt
      counters := if l.dominantRun < 22 then { l.counters with parityFraming := inc16 l.counters.parityFraming } else l.counters }
  | _ => l

/-- The line has been measured recessive for `n` bt: the dominant run has ended, and its mark with it. While this station drives
its pulse the line is never measured recessive. -/
def measuredRecessive (n : Nat) (d : Device) : Device :=
  if pulsing d then d
  else
    onLine (fun l => { judgeStopBit l with
      recessiveRun := min n 1000, dominantRun := 0, ownPulse := false, halfBit := false }) d

/-- The recessive run has reached `n` bt; one already measured longer stands. -/
def recessiveReaches (n : Nat) (d : Device) : Device := measuredRecessive (max n d.line.recessiveRun) d

/-- The dominant run has reached `n` bt; one already measured longer stands. -/
def measuredDominant (n : Nat) (d : Device) : Device :=
  onLine (fun l => { l with recessiveRun := 0, dominantRun := min (max n l.dominantRun) 2001, halfBit := false }) d

/-- The bits of a character in order of sending, a recessive one as true (R73): start bit, data from bit 0, parity, stop. -/
def charBits (c : LineChar) : List Bool :=
  false :: (List.range 8).map (fun i => c.data.getLsbD i) ++ [c.parity, c.stop]

/-- One bit time of the line at a level (R74). -/
def runBit (l : Line) (recessive : Bool) : Line :=
  if recessive then { l with recessiveRun := min (l.recessiveRun + 1) 1000, dominantRun := 0, ownPulse := false }
  else { l with recessiveRun := 0, dominantRun := min (l.dominantRun + 1) 2001 }

/-- Bit times of the line one after another (R74). -/
def runBits (bits : List Bool) (l : Line) : Line := bits.foldl runBit l

/-- The runs after characters that have passed (R73, R74): those of the last one's bits, since its start bit ended a recessive run.
While this station drives its pulse the line carries no other bits. -/
def passedChars (chars : List LineChar) (d : Device) : Device :=
  match chars.getLast? with
  | some c =>
    if pulsing d then d
    else onLine (fun l => { runBits (charBits c) { l with dominantRun := 0, ownPulse := false } with halfBit := false }) d
  | none => d

/-! ## Receiver (R73, R76 to R79) -/

/-- Whether data bits and parity bit together hold an odd number of ones (R73). -/
def parityGood (c : LineChar) : Bool := decide ((byteOnes c.data + (if c.parity then 1 else 0)) % 2 = 1)

/-- Whether a character has neither a parity nor a framing error. -/
def charGood (c : LineChar) : Bool := parityGood c && c.stop

def setReceiver (r : Receiver) (d : Device) : Device := onLine (fun l => { l with rx := r }) d

/-- A character as a sound transmitter sends it (R73). -/
def soundChar (b : Byte) : LineChar := ⟨b, decide (byteOnes b % 2 = 0), true⟩

/-- The frame in assembly is discarded for a parity or framing error, or a gap (R77). -/
def dropForFraming (d : Device) : Device :=
  count (fun c => { c with parityFraming := inc16 c.parityFraming }) (setReceiver .hunt d)

/-- The frame in assembly is discarded for its length or its check (R77). -/
def dropForCheck (d : Device) : Device :=
  count (fun c => { c with checkErrors := inc16 c.checkErrors }) (setReceiver .hunt d)

/-- The payload length a header gives. -/
def headerLength (bytes : List Byte) : Nat := (bytes.getD 3 0#8).toNat

/-- The frame that assembled characters spell. -/
def assembledFrame (bytes : List Byte) : Frame :=
  ⟨bytes.getD 0 0#8, bytes.getD 1 0#8, bytes.getD 2 0#8, (bytes.drop 4).take (headerLength bytes)⟩

/-- Whether the two check characters match the check recomputed over header and payload (R75). -/
def assembledSound (bytes : List Byte) : Bool :=
  let n := 4 + headerLength bytes
  decide ((cyclicCheck (bytes.take n)).toNat = ofBytes (bytes.drop n))

/-- Whether a good frame is kept (R78): a beacon always, another frame when its destination is this station or all. -/
def keeps (d : Device) (f : Frame) : Bool :=
  decide (f.kind = beaconKind) || decide (f.dest.toNat = d.control.number) || decide (f.dest = allNodes)

/-- A kept frame joins the receive queue, or is lost when the queue holds 4 (R79). -/
def enqueue (f : Frame) (d : Device) : Device :=
  if d.line.queue.length < 4 then onLine (fun l => { l with queue := l.queue ++ [f] }) d
  else count (fun c => { c with overruns := inc16 c.overruns }) d

/-- A good frame at its second check character (R77, R78): this station's own is dropped and not counted, any other is
counted and kept or dropped. -/
def goodFrame (a : Assembly) (d : Device) : Device :=
  let d := setReceiver .hunt d
  if a.own then d
  else
    let d := count (fun c => { c with goodFrames := inc16 c.goodFrames }) d
    let f := assembledFrame a.bytes
    if keeps d f then enqueue f d else d

/-- A character with no error joins the frame in assembly (R76, R77). -/
def takeChar (r : Receiver) (b : Byte) (d : Device) : Device :=
  match r with
  | .hunt => d
  | .awaitingRun => d
  | .header a =>
    let a' : Assembly := { a with bytes := a.bytes ++ [b] }
    if a'.bytes.length < 4 then setReceiver (.header a') d
    else if 160 < headerLength a'.bytes then dropForCheck d
    else if headerLength a'.bytes = 0 then setReceiver (.check a') d
    else setReceiver (.payload a') d
  | .payload a =>
    let a' : Assembly := { a with bytes := a.bytes ++ [b] }
    if a'.bytes.length < 4 + headerLength a'.bytes then setReceiver (.payload a') d else setReceiver (.check a') d
  | .check a =>
    let a' : Assembly := { a with bytes := a.bytes ++ [b] }
    if a'.bytes.length < 6 + headerLength a'.bytes then setReceiver (.check a') d
    else if assembledSound a'.bytes then goodFrame a' d
    else dropForCheck d

/-- The receiver takes one character (R77): characters in HUNT are not acted on; one with a dominant stop bit waits on the dominant
run, which the start bit of the next one has ended; one with a parity error and a recessive stop bit discards the frame. -/
def receiveChar (d : Device) (c : LineChar) : Device :=
  let d := onLine judgeStopBit d
  match d.line.rx with
  | .hunt => d
  | r =>
    if !c.stop then setReceiver .awaitingRun d
    else if parityGood c then takeChar r c.data d
    else dropForFraming d

/-- FRAME_RECEIVED: characters one after another (R77), and the runs their bits leave (R74). -/
def receiveChars (chars : List LineChar) (d : Device) : Device := passedChars chars (chars.foldl receiveChar d)

/-- FRAME_MARK (R76): in HUNT, after at least 12 bt of recessive line, 0B4H then 02DH open a frame; anything else drops the
half mark. While the line is STUCK the receiver stays in HUNT (R89). A frame opened while this station is sending is its
own until the transmitter leaves it (R78; log 9). -/
def receiveMark (recessive : Nat) (first : LineChar) (second : Option LineChar) (d : Device) : Device :=
  let sendingNow := isSending .beacon d || isSending .reply d
  let d := measuredRecessive recessive d
  let opens := decide (d.line.rx = .hunt) && !d.line.stuck && decide (12 ≤ recessive) && charGood first
    && decide (first.data = 0xB4#8) && second.any fun c => charGood c && decide (c.data = 0x2D#8)
  let d := passedChars [first] (doIf opens (setReceiver (.header ⟨[], sendingNow⟩)) d)
  match second with
  | some c => passedChars [c] d
  | none => recessiveReaches 12 d

/-- RECEIVE_GAP (R74, R77): the line has been recessive for 12 bt; a frame in assembly is discarded and counted. -/
def receiveGap (d : Device) : Device :=
  let d := recessiveReaches 12 d
  doIf (decide (d.line.rx ≠ .hunt)) dropForFraming d

/-! ## The stuck line (R89) -/

/-- LINE_STUCK (R89). -/
def lineSticks (d : Device) : Device :=
  setFlag .lineStuck (onLine (fun l => { l with stuck := true, rx := .hunt }) (measuredDominant 2001 d))

/-- LINE_CLEAR (R89): the recessive run reaches 12 bt while STUCK. -/
def lineClears (d : Device) : Device :=
  if d.line.stuck && !pulsing d then onLine (fun l => { l with stuck := false }) (recessiveReaches 12 d) else d

/-! ## The transmitter (R81 to R86) -/

/-- The slot a start would take: the beacon before the reply (R83). -/
def nextSlot (d : Device) : Option (SlotName × Frame) :=
  match d.line.beaconSlot, d.line.replySlot with
  | some s, _ => some (.beacon, s.frame)
  | none, some s => some (.reply, s.frame)
  | none, none => none

/-- FRAME_START (R83): IDLE, a slot holding a frame, the line CLEAR and the measured recessive run at the access wait. The
start bit ends the run, and the wait returns to its normal value. -/
def startFrame (recessive : Nat) (d : Device) : Device :=
  let d := measuredRecessive recessive d
  match nextSlot d with
  | some (slot, f) =>
    if d.line.tx = .idle ∧ d.line.stuck = false ∧ d.line.accessWait ≤ d.line.recessiveRun then
      onLine (fun l => { l with
        tx := .sending slot (frameChars f), held := false, sentBits := 0, recessiveRun := 0, accessWait := restWait d }) d
    else d
  | none => d

/-- Empties a slot. -/
def clearSlot (slot : SlotName) (d : Device) : Device :=
  match slot with
  | .beacon => onLine (fun l => { l with beaconSlot := none }) d
  | .reply => onLine (fun l => { l with replySlot := none }) d

/-- The contents of a slot. -/
def slotOf (slot : SlotName) (d : Device) : Option Slot :=
  match slot with
  | .beacon => d.line.beaconSlot
  | .reply => d.line.replySlot

/-- Raises the attempt count of a slot's frame (R84). -/
def raiseAttempts (slot : SlotName) (d : Device) : Device :=
  match slot with
  | .beacon =>
    onLine (fun l => { l with beaconSlot := l.beaconSlot.map fun s => { s with attempts := s.attempts + 1 } }) d
  | .reply => onLine (fun l => { l with replySlot := l.replySlot.map fun s => { s with attempts := s.attempts + 1 } }) d

/-- PULSE_END (R86): the line is released and the transmitter is IDLE. The runs go on as the line is then measured (R74). -/
def endPulse (d : Device) : Device :=
  if pulsing d then onLine (fun l => { l with tx := .idle, accessWait := restWait d }) d else d

/-- A completion reply enters the reply slot, or waits while the slot or a waiting one is taken (R81). -/
def completeWith (f : Frame) (d : Device) : Device :=
  if d.line.replySlot.isNone && d.line.completion.isNone then placeReply f d
  else onLine (fun l => { l with completion := some f }) d

/-- A completion reply that waited enters the slot as soon as it empties (R81). -/
def admitCompletion (d : Device) : Device :=
  match d.line.completion with
  | some f => onLine (fun l => { l with replySlot := some ⟨f, 0⟩, completion := none }) d
  | none => d

/-! ## The beacon (R95, R96) -/

/-- The fields of the beacon as they stand at the build (R96, beacon layout of 5.9). -/
def beaconPayload (d : Device) : List Byte :=
  [byte (stateCode .weave), byte (roleCode d.control.role),
    byte (bit (noticePending d) 0 + bit (isSection d && !d.strings.faults.isEmpty) 1 + bit d.seq.void 2),
    byte d.seq.pos.run] ++ be16 d.seq.pos.iteration ++ be16 d.seq.pos.row ++ be16 (d.seq.pos.piece % 65536)
    ++ be16 (if isSection d then d.seq.pickLift.getD 0 else 0) ++ be16 (capacityOf d)
    ++ [byte (recordedWeft d), byte (if isWeft d then fingerCode (chosenFinger d.weft.choice) else 0xFF)]

/-- The beacon frame. -/
def beaconFrame (d : Device) : Frame := ⟨allNodes, byte d.control.number, beaconKind, beaconPayload d⟩

/-- A beacon placed in the slot replaces an unsent one, which counts late (R82). -/
def placeBeacon (f : Frame) (d : Device) : Device :=
  onLine (fun l => { l with beaconSlot := some ⟨f, 0⟩ }) (discardBeacon true d)

/-- When both marks are set, the beacon is built and placed in the slot (R95). -/
def buildBeacon (d : Device) : Device :=
  match d.line.beaconDue with
  | .due true true => onLine (fun l => { l with beaconDue := .built }) (placeBeacon (beaconFrame d) d)
  | _ => d

/-- A forward boundary crossing in WEAVE makes the beacon due, the guard-passed mark set at once when G = 0 (R95). -/
def beaconFallsDue (d : Device) : Device :=
  onLine (fun l => { l with beaconDue := .due false (d.control.config.all fun c => decide (c.g = 0)) }) d

/-- The design store reports the completed fetch of a forward pick (R95). -/
def beaconRowReady (d : Device) : Device :=
  match d.line.beaconDue with
  | .due _ g => buildBeacon (onLine (fun l => { l with beaconDue := .due true g }) d)
  | _ => d

/-- The forward G-end crossing (R95). -/
def beaconGuardPassed (d : Device) : Device :=
  match d.line.beaconDue with
  | .due r _ => buildBeacon (onLine (fun l => { l with beaconDue := .due r true }) d)
  | _ => d

/-- A retract clears the row-ready mark (R95). -/
def beaconRetracted (d : Device) : Device :=
  match d.line.beaconDue with
  | .due _ g => onLine (fun l => { l with beaconDue := .due false g }) d
  | _ => d

/-- The pick ends for the beacon (R97). -/
def beaconIdle (d : Device) : Device := onLine (fun l => { l with beaconDue := .idle }) d

end Sys2Proof.Machine
end

