-- ==== Sys2Proof/Machine/Strings.lean ====
section
/-! DEFINITION. The string driver (ch. 8): firing and dropping, string power, the shift with its echo comparison, the fault
list, captures, missed selections, reverse selection and test picks. -/

namespace Sys2Proof.Machine

/-! ## Access to the strings of the station -/

/-- Changes the strings the station drives (R126: numbers below capacity / 128). -/
def mapStrings (f : Nat → SelString → SelString) (d : Device) : Device :=
  onStrings (fun g => { g with
    strings := g.strings.mapIdx fun i s => if i < stringCount d then f i s else s }) d

/-- Changes all eight strings' records. -/
def mapAllStrings (f : SelString → SelString) (d : Device) : Device :=
  onStrings (fun g => { g with strings := g.strings.map f }) d

/-- Whether some string the station drives has a property. -/
def anyString (p : SelString → Bool) (d : Device) : Bool := (d.strings.strings.take (stringCount d)).any p

/-! ## Firing and dropping (R126) -/

/-- No output is energised unless string power is ON and the station is in WEAVE, TEST or TRAIN (R126). -/
def mayEnergise (d : Device) : Bool :=
  decide (d.strings.power = .on) &&
    (decide (d.control.state = .weave) || decide (d.control.state = .test) || decide (d.control.state = .train))

/-- Latches the string if its latched mark is clear, asserts inrush enable, and enters FIRED (R126, R128). -/
def fireString (s : SelString) : SelString :=
  { s with
    outReg := if s.latched then s.outReg else s.shiftReg
    latched := true
    drive := .inrush 0
    chain := .fired
    waiting := false }

/-- Releases both enables; the output register keeps its contents (R126). -/
def dropString (s : SelString) : SelString := { s with drive := .off }

def dropAll (d : Device) : Device := mapAllStrings dropString d

/-- Every string dropped and RESTING. R128, R133 and R136 do not say whether the fire angle it holds goes: the model keeps it until the
next pick is opened, DESIGN CHOICE (log 55). -/
def restAll (d : Device) : Device := mapAllStrings (fun s => { s with chain := .resting, drive := .off }) d

/-- Every string RESTING with its pattern, latched and waiting marks clear and no fire angle. -/
def freshStrings (d : Device) : Device :=
  mapAllStrings (fun s => { s with
    chain := .resting, pattern := false, latched := false, waiting := false, fireAngle := none }) d

/-- A string's report to the fire timer that it has fired (R120), for strings that satisfy `p`. -/
def reportFired (p : Nat → SelString → Bool) (d : Device) : Device :=
  onFire (fun t => { t with
    strings := t.strings.mapIdx fun i r =>
      if decide (i < stringCount d) && (d.strings.strings[i]?).any (p i) then { r with fired := true } else r }) d

/-- Whether the fires are those of the fire timer's angles (R119, R120): in a FORWARD pick, and in WEAVE with the pick mode NONE,
where a close made only after the D crossing has handed its angles (log 47). -/
def firesByAngle (d : Device) : Bool :=
  match d.strings.mode with
  | .forward => true
  | .none => inWeave d
  | _ => false

/-- Fires the strings that satisfy `p`; those that fire by their angles are reported to the fire timer. -/
def fireWhere (p : Nat → SelString → Bool) (d : Device) : Device :=
  mapStrings (fun i s => if p i s then fireString s else s) (doIf (firesByAngle d) (reportFired p) d)

/-- Whether nothing but power and pattern marks decides: pattern shifted, pick not blank, power ON (R131). -/
def readyToFire (d : Device) (s : SelString) : Bool := s.pattern && !d.strings.blank && mayEnergise d

/-- A fire falls due for the PENDING strings that satisfy `p` (R131): fired when ready, left in a blank pick, otherwise
waiting. Where the waiting mark is set already, a fire that falls due again changes nothing (R131). So a string that still waits
with power ON after a turn does not fire at the step onto W, where R120 and R135 say that each PENDING string does: DESIGN CHOICE
(log 52). -/
def fallDue (p : Nat → SelString → Bool) (d : Device) : Device :=
  let due (i : Nat) (s : SelString) : Bool := decide (s.chain = .pending) && !s.waiting && p i s
  mapStrings (fun i s => if due i s && !d.strings.blank then { s with waiting := true } else s)
    (fireWhere (fun i s => due i s && readyToFire d s) d)

/-- Whether a waiting string may fire: PENDING in a FORWARD or TEST pick, RESTING in a REVERSE pick (R128, R131, R136). -/
def mayFireWaiting (d : Device) (s : SelString) : Bool :=
  s.waiting && readyToFire d s && !d.strings.captureDone &&
    match d.strings.mode with
    | .forward => decide (s.chain = .pending)
    | .test => decide (s.chain = .pending)
    | .reverse => decide (s.chain = .resting)
    | .none => false

/-- The waiting strings for which every condition now holds fire. -/
def fireWaiting (d : Device) : Device := fireWhere (fun _ s => mayFireWaiting d s) d

/-! ## String power (R127, R128) -/

def setPower (p : Power) (d : Device) : Device := onStrings (fun g => { g with power := p }) d

/-- String power wakes from OFF, in the section role alone (R127). -/
def wakePower (d : Device) : Device :=
  if decide (d.strings.power = .off) && isSection d then setPower (.waking 0) d else d

/-- Whether a string that loses power has its selection of the pick under way to make again (R128). R128 names the FORWARD, TEST
and REVERSE picks; a string FIRED in the pick mode NONE (log 47) has not: DESIGN CHOICE (log 53). -/
def losesSelection (m : PickMode) (c : Chain) : Bool :=
  match m with
  | .forward => decide (c = .fired) || decide (c = .captured)
  | .test => decide (c = .fired) || decide (c = .captured)
  | .reverse => decide (c = .fired)
  | .none => false

/-- What becomes of one string when power goes OFF (R128): dropped, its echo mark clear, a selection that was made waiting to be
made again. -/
def unpowered (m : PickMode) (s : SelString) : SelString :=
  { s with
    drive := .off
    echo := false
    chain := if losesSelection m s.chain then (if m = .reverse then .resting else .pending) else s.chain
    waiting := s.waiting || losesSelection m s.chain }

/-- String power goes OFF (R128). -/
def powerOff (d : Device) : Device := mapAllStrings (unpowered d.strings.mode) (setPower .off d)

/-- The dwell test (R127): READY or WEAVE, STALLED for the dwell time or longer. -/
def dwellTest (d : Device) : Device :=
  let due := (decide (d.control.state = .ready) || decide (d.control.state = .weave))
    && decide (d.tracker.speed = .stalled)
    && d.control.config.any fun c => decide (c.dwell ≤ d.tracker.stationary)
  if due && decide (d.strings.power ≠ .off) then powerOff d else d

/-! ## The fault list (R130, R137) -/

/-- The faults that a string's echo shows against its expected pattern, in order of place (R130 step 1). -/
def compareString (i : Nat) (s : SelString) : List FaultEntry :=
  match s.echo, s.expected with
  | true, some ex =>
    (List.range 128).filterMap fun p =>
      if ex.getLsbD p && !s.shiftReg.getLsbD p then
        some ⟨i * 128 + p, .openFault, s.capturePos.getD Position.reset, 1⟩
      else if !ex.getLsbD p && s.shiftReg.getLsbD p then
        some ⟨i * 128 + p, .stuckOn, s.capturePos.getD Position.reset, 1⟩
      else none
  | _, _ => []

/-- The faults of one comparison event, string 0 upward. -/
def compareAll (d : Device) : List FaultEntry :=
  ((d.strings.strings.take (stringCount d)).mapIdx compareString).flatten

/-- Whether two entries are of the same hook and kind. -/
def sameFault (a b : FaultEntry) : Bool := decide (a.hook = b.hook) && decide (a.kind = b.kind)

/-- One fault taken into the list (R137). -/
def takeFault (d : Device) (f : FaultEntry) : Device :=
  let d := setFlag .selectorFault d
  if d.strings.faults.any (sameFault f) then
    onStrings (fun g => { g with
      faults := g.faults.map fun e => if sameFault f e then { e with occurrences := satInc 255 e.occurrences } else e }) d
  else if d.strings.faults.length < 32 then
    onStrings (fun g => { g with faults := g.faults ++ [f] }) d
  else
    setFlag .faultListFull (onStrings (fun g => { g with overflow := inc16 g.overflow }) d)

/-- The faults of one comparison event; a new entry or a raised overflow count requests one own hold at its end (R137). -/
def takeFaults (fs : List FaultEntry) (d : Device) : Device :=
  let d' := fs.foldl takeFault d
  doIf (decide (d.strings.faults.length < d'.strings.faults.length) || decide (d.strings.overflow < d'.strings.overflow))
    ownHold d'

/-- The shift of a pattern into every string with its echo comparison (R130), after which waiting strings may fire (R131). -/
def shiftAll (field : Nat → StringBits) (d : Device) : Device :=
  fireWaiting
    (takeFaults (compareAll d)
      (mapStrings (fun i s => { s with echo := false, shiftReg := field i, pattern := true }) d))

/-- The design store tells the string driver to clear every echo-expected mark (R68); in a pick this makes it blank (R134). -/
def clearEchoMarks (d : Device) : Device := mapAllStrings (fun s => { s with echo := false }) d

def setBlank (d : Device) : Device := onStrings (fun g => { g with blank := true }) d

/-! ## Capture and missed selections (R132) -/

/-- A FIRED string is captured: the sense bits load its shift register, its output register becomes the expected pattern. -/
def captureString (pos : Position) (sense : StringBits) (s : SelString) : SelString :=
  if s.chain = .fired then
    { s with
      chain := .captured
      echo := true
      expected := some s.outReg
      capturePos := some pos
      shiftReg := sense }
  else s

/-- The capture strobe of every FIRED string; the capture-done mark is set. -/
def captureAll (d : Device) : Device :=
  onStrings (fun g => { g with captureDone := true })
    (mapStrings (fun i s => captureString d.seq.pos (d.pins.sense.getD i 0#128) s) d)

/-- The test for missed selections (R132, R134). -/
def missTest (d : Device) : Device :=
  let d' := onStrings (fun g => { g with missTested := true }) d
  if d.strings.blank then d'
  else
    let missed := anyString (fun s => decide (s.chain = .pending)) d
    doIf missed (fun d => ownHold (setFlag .selectionMissed d))
      (mapStrings (fun _ s =>
        if s.chain = .pending then { s with waiting := false, fireAngle := none, echo := false } else s) d')

/-- The test where it is still outstanding for a FORWARD pick (R129, R132, R133, R136). -/
def outstandingMissTest (d : Device) : Device :=
  doIf (decide (d.strings.mode = .forward) && !d.strings.missTested) missTest d

/-! ## Crossings in a FORWARD or TEST pick -/

/-- Whether a test pick turns with the shaft: TEST mode with no stepped operation in flight (R140, R141). -/
def turningTest (d : Device) : Bool := decide (d.strings.mode = .test) && decide (d.strings.test.op = .idle)

/-- The capture strobe of a forward K crossing, and the test for missed selections where the capture-done mark is clear. Only a
direction change clears that mark inside a pick (R135, R140), so a K crossing taken again without one strobes and makes no second
test (R132, R128; log 26). -/
def captureAndTest (d : Device) : Device := doIf (!d.strings.captureDone) missTest (captureAll d)

/-- The forward K crossing (R132, R140). -/
def stringsForwardK (d : Device) : Device :=
  doIf (decide (d.strings.mode = .forward) || turningTest d) captureAndTest d

/-- The forward D crossing (R133, R140). -/
def stringsForwardD (d : Device) : Device :=
  doIf (decide (d.strings.mode = .forward) || turningTest d)
    (fun d => onStrings (fun g => { g with mode := .none }) (restAll (outstandingMissTest d))) d

/-- The forward W crossing makes every fire of a test pick fall due (R140). -/
def stringsForwardW (d : Device) : Device := doIf (turningTest d) (fallDue fun _ _ => true) d

/-- The forward counting step onto an angle fires the strings whose fire angle it is (R120, R131). -/
def stringsAtAngle (a : Nat) (d : Device) : Device :=
  doIf (firesByAngle d) (fallDue fun _ s => decide (s.fireAngle = some a)) d

/-- A forward B crossing in WEAVE opens a forward pick (R129). -/
def openForwardPick (d : Device) : Device :=
  onStrings (fun g => { g with mode := .forward, blank := false, captureDone := false, missTested := false })
    (freshStrings (outstandingMissTest (dropAll d)))

/-- A retract keeps the pick and clears its pattern marks and blank mark (R129, R134). -/
def stringsRetracted (d : Device) : Device :=
  onStrings (fun g => { g with blank := false }) (mapAllStrings (fun s => { s with pattern := false }) d)

/-! ## Reverse selection (R136) -/

/-- A reverse B crossing in WEAVE opens a reverse pick. -/
def openReversePick (d : Device) : Device :=
  onStrings (fun g => { g with mode := .reverse, blank := false, captureDone := false, missTested := true })
    (freshStrings (outstandingMissTest (dropAll d)))

/-- The reverse D crossing fires every RESTING string that is ready; the other RESTING ones wait. At a second reverse D crossing of
one pick, which an index correction can bring, a FIRED or CAPTURED string stays as it is, where R136 says every string and R128
that a CAPTURED one stays CAPTURED until W: DESIGN CHOICE (log 57). -/
def stringsReverseD (d : Device) : Device :=
  doIf (decide (d.strings.mode = .reverse))
    (fun d =>
      mapStrings (fun _ s => if s.chain = .resting then { s with waiting := true } else s)
        (fireWhere (fun _ s => decide (s.chain = .resting) && readyToFire d s) d)) d

/-- The reverse K crossing captures the FIRED strings and gives up the waiting ones; no hold is requested, and a blank pick
misses nothing (R134). -/
def stringsReverseK (d : Device) : Device :=
  doIf (decide (d.strings.mode = .reverse))
    (fun d =>
      let d := captureAll d
      let missed := anyString (·.waiting) d && !d.strings.blank
      doIf missed (setFlag .selectionMissed)
        (mapStrings (fun _ s => if s.waiting then { s with waiting := false, echo := false } else s) d)) d

/-- The reverse W crossing ends the reverse pick. -/
def stringsReverseW (d : Device) : Device :=
  doIf (decide (d.strings.mode = .reverse))
    (fun d => onStrings (fun g => { g with mode := .none }) (restAll d)) d

/-! ## Direction changes (R135, R136, R140) -/

/-- A FIRED or CAPTURED string goes back to a chain state, dropped. -/
def takeBack (c : Chain) (s : SelString) : SelString :=
  match s.chain with
  | .fired => { s with drive := .off, chain := c, waiting := false }
  | .captured => { s with drive := .off, chain := c, waiting := false }
  | _ => { s with drive := .off }

/-- The strings of the pick under way are dropped and made ready to be fired again; in a reverse pick the capture-done mark
goes too (log 27). -/
def stringsTurn (d : Device) : Device :=
  match d.strings.mode with
  | .forward => onStrings (fun g => { g with captureDone := false }) (mapAllStrings (takeBack .pending) d)
  | .reverse => onStrings (fun g => { g with captureDone := false }) (mapAllStrings (takeBack .resting) d)
  | .test =>
    doIf (turningTest d)
      (fun d => onStrings (fun g => { g with captureDone := false }) (mapAllStrings (takeBack .pending) d)) d
  | .none => d

/-! ## TEST mode (R139 to R141) -/

/-- The step number after a step, wrapping from 65,535 to 0 (R139). -/
def nextStep (d : Device) : Device :=
  onStrings (fun g => { g with test := { g.test with step := (g.test.step + 1) % 65536 } }) d

/-- A forward B crossing in TEST opens a test pick and makes its step pattern (R140). -/
def openTestPick (w : Nat) (d : Device) : Device :=
  let d := onStrings (fun g => { g with mode := .test, blank := false, captureDone := false, missTested := true })
    (mapStrings (fun _ s => { s with chain := .pending, fireAngle := some w }) (freshStrings (dropAll d)))
  match d.strings.test.pattern with
  | some .row => nextStep (startTestFetch d.strings.test.row d)
  | some p => nextStep (shiftAll (fun _ => testBits p d.strings.test.step) d)
  | none => d

/-- The strings when the station leaves WEAVE, leaves TEST or enters FAULT (R128). -/
def stringsLeave (d : Device) : Device :=
  onStrings (fun g => { g with mode := .none, blank := false, captureDone := false, missTested := true }) (restAll d)

/-- The stepped operation goes on to its firing once power is ON (R141 step 4). -/
def stepFires (d : Device) : Device :=
  if mayEnergise d then
    onStrings (fun g => { g with test := { g.test with op := .inFlight (.energised 0) } })
      (fireWhere (fun _ _ => true) d)
  else onStrings (fun g => { g with test := { g.test with op := .inFlight .power } }) d

/-- INRUSH_END (R126): inrush enable is released and hold enable asserted. -/
def inrushEnds (i : Nat) (d : Device) : Device :=
  onStrings (fun g => { g with
    strings := g.strings.mapIdx fun j s =>
      if j = i then
        match s.drive with
        | .inrush _ => { s with drive := .hold }
        | _ => s
      else s }) d

/-- The training of CONFIGURE and of R142: every L_s at the default with result NOT RUN (R172). -/
def configureStrings (latency : Nat) (d : Device) : Device :=
  mapStrings (fun _ s => { s with latency := some latency, result := .notRun }) d

end Sys2Proof.Machine
end

