-- ==== Sys2Proof/Machine/FireTimer.lean ====
section
/-! DEFINITION. The fire timer (ch. 7): waves, leads, the reciprocal of the span, advances and fire angles, phases and
recomputation, and the handing of angles to the string driver (R120, R131). -/

namespace Sys2Proof.Machine

/-! ## Waves and leads (R113 to R115) -/

/-- The announced count of a peer (R113): a weft-role entry announces none. -/
def announced (e : SnapshotEntry) : Nat :=
  match e.role, e.cls with
  | .weftRole, _ => 0
  | .sectionRole, .heard => e.lift
  | .sectionRole, .absent => e.capacity
  | .sectionRole, .stray => e.capacity
  | .sectionRole, .lapsed => 0

/-- N: the announced counts of the head, the station's own included (R113). -/
def headHooks (s : Snapshot) : Nat := s.ownLift + (s.entries.map announced).sum

/-- c: the announced counts of the stations numbered below this one (R114). -/
def hooksBelow (s : Snapshot) : Nat :=
  ((s.entries.filter fun e => decide (e.station < s.number)).map announced).sum

/-- The wave figures for a wave budget M (R114). -/
def wavesOf (m : Nat) (s : Snapshot) : Waves :=
  let n := headHooks s
  let total := if n = 0 then 1 else (n - 1) / m + 1
  let c := hooksBelow s
  ⟨n, total, c, min (c / m) (total - 1)⟩

/-- The lead of a string in ticks: four times L_s + (W_total - 1 - w) x P us (R115). -/
def leadTicks (v : Waves) (p latency : Nat) : Nat := 4 * (latency + (v.total - 1 - v.wave) * p)

/-! ## Reciprocal and advance (R116, R117) -/

/-- The normalised span and its reciprocal, q saturated at 1,048,575 (R116). -/
def recipOf (s : Nat) : Option Recip :=
  ((List.range 20).find? fun n => decide (524288 ≤ s * 2 ^ n) && decide (s * 2 ^ n < 1048576)).map fun n =>
    ⟨n, s * 2 ^ n, min (2 ^ 39 / (s * 2 ^ n)) 1048575⟩

/-- The advance of a lead (R117): rounded to the nearest whole angle unit, a half up, and kept in 1..4,095. -/
def advanceOf (r : Recip) (lead : Nat) : Nat :=
  let a := (16 * lead * r.q + 2 ^ (38 - r.n)) / 2 ^ (39 - r.n)
  if 4095 < a then 4095 else if a = 0 then 1 else a

/-! ## Fire angles (R118, R119) -/

/-- What one string's computation gives. -/
structure Firing where
  advance : Option Nat
  angle : Nat
  basis : Basis
  crowded : Bool
  overspeed : Bool
  deriving DecidableEq, Repr

/-- W by angle (R119). R117 is not computed then, and the rules do not say whether the advance of an earlier prediction stays in the
record: the model clears it (log 49). -/
def byAngle (c : Configuration) : Firing := ⟨none, c.w, .angle, false, false⟩

/-- The fire angle of a lead from the reciprocal (R117, R118). -/
def byPrediction (c : Configuration) (r : Recip) (lead latency : Nat) : Firing :=
  let a := advanceOf r lead
  let window := arc c.w c.k
  if a ≤ window then ⟨some a, (c.k + 4096 - a) % 4096, .predicted, false, false⟩
  else
    let alone := decide (advanceOf r (4 * latency) ≤ window)
    ⟨some a, c.w, .clamped, alone, !alone⟩

/-- The computation of one string (R119): predicted in FAST, by angle in any other speed state and in HELD. Before a span
has completed there is no reciprocal, and the speed state is not FAST (R116; log 32). -/
def firingOf (d : Device) (c : Configuration) (held : Bool) (lead latency : Nat) : Firing :=
  match d.fire.recip with
  | some r => if !held && decide (d.tracker.speed = .fast) then byPrediction c r lead latency else byAngle c
  | none => byAngle c

/-- The firing of the string numbered `i` from the lead the fire timer holds. -/
def firingAt (d : Device) (c : Configuration) (held : Bool) (i : Nat) (t : FireString) : Firing :=
  firingOf d c held (t.lead.getD 0) (((d.strings.strings[i]?).bind (·.latency)).getD 0)

/-- Writes a firing into the fire timer's record. -/
def withFiring (g : Firing) (t : FireString) : FireString :=
  { t with advance := g.advance, angle := some g.angle, basis := some g.basis }

/-- Whether the string numbered `i` is one the station drives and has not been reported as fired. -/
def unfired (d : Device) (i : Nat) : Bool :=
  decide (i < stringCount d) && (d.fire.strings[i]?).any fun t => !t.fired

/-- The firings of the strings not yet fired. -/
def firings (d : Device) (c : Configuration) (held : Bool) : List Firing :=
  (d.fire.strings.mapIdx fun i t =>
    if unfired d i then [firingAt d c held i t] else []).flatten

/-- A handed angle makes a RESTING string PENDING and replaces the angle of a PENDING one (R131). R131 makes a string PENDING at the
close alone; a recomputation that finds it RESTING, after the D crossing with the phase still SET, does so too: DESIGN CHOICE
(log 56). -/
def handString (a : Nat) (s : SelString) : SelString :=
  match s.chain with
  | .resting => { s with chain := .pending, fireAngle := some a }
  | .pending => { s with fireAngle := some a }
  | _ => s

/-- Computes the strings not yet fired (R117 to R119), sets the flags of R118, and hands the angles to the string driver. -/
def computeStrings (c : Configuration) (held : Bool) (d : Device) : Device :=
  let fs := firings d c held
  let d' :=
    mapStrings (fun i s =>
        match d.fire.strings[i]? with
        | some t => if t.fired then s else handString (firingAt d c held i t).angle s
        | none => s)
      (onFire (fun f => { f with
        strings := f.strings.mapIdx fun i t => if unfired d i then withFiring (firingAt d c held i t) t else t }) d)
  doIf (fs.any (·.overspeed)) (setFlag .overspeed) (doIf (fs.any (·.crowded)) (setFlag .crowded) d')

/-- Strings whose handed angle has been passed in this pick fire at the computation (R120). -/
def firePassed (c : Configuration) (d : Device) : Device :=
  fallDue (fun _ s => s.fireAngle.any fun f => inArc d.tracker.angle f c.k) d

/-! ## Phases (R112, R119 to R123) -/

/-- A recomputation in SET (R121, R122). -/
def recompute (c : Configuration) (d : Device) : Device := firePassed c (computeStrings c false d)

/-- The wave figures and leads of the close (R113 to R115). -/
def takeWaves (c : Configuration) (s : Snapshot) (d : Device) : Device :=
  let v := wavesOf c.m s
  onFire (fun t => { t with
    waves := some v
    strings := t.strings.mapIdx fun i r =>
      if i < stringCount d then
        { r with lead := some (leadTicks v c.p (((d.strings.strings[i]?).bind (·.latency)).getD 0)) }
      else r }) d

def clearFired (d : Device) : Device :=
  onFire (fun t => { t with strings := t.strings.map fun r => { r with fired := false } }) d

/-- The snapshot handed over at the close (R112, R119): the whole computation, then SET, or HELD where the angle hold mark is
set. Another phase than IDLE is not reached. -/
def fireClose (s : Snapshot) (d : Device) : Device :=
  match d.control.config with
  | some c =>
    if d.fire.phase = .idle then
      let held := d.fire.angleHold
      onFire (fun t => { t with phase := if held then .held else .set })
        (computeStrings c held (takeWaves c s (doIf held clearFired d)))
    else d
  | none => d

/-- Entering HELD: fired marks clear, every string handed W (R123). -/
def enterHeld (d : Device) : Device :=
  match d.control.config with
  | some c => onFire (fun t => { t with phase := .held }) (computeStrings c true (clearFired d))
  | none => d

/-- A direction change inside a forward pick (R123). In HELD no angle is handed anew, so a string missed at K, whose angle R132 has
cleared, is not fired again by a further turn: the model's choice against R120 and R135 (log 48). -/
def fireTurn (d : Device) : Device :=
  match d.fire.phase with
  | .idle => onFire (fun t => { t with angleHold := true }) d
  | .set => enterHeld d
  | .past => enterHeld d
  | .held => d

/-- A completed span (R116, R121): q is formed in every phase; in SET with the counter between C and K the strings not yet
fired are recomputed, in SET outside that arc the phase becomes PAST. -/
def fireSpan (s : Nat) (d : Device) : Device :=
  if isSection d then
    let d := onFire (fun t => { t with recip := recipOf s }) d
    match d.control.config with
    | some c =>
      if d.fire.phase = .set then
        if inArc d.tracker.angle c.c c.k then recompute c d else onFire (fun t => { t with phase := .past }) d
      else d
    | none => d
  else d

/-- A fall out of FAST that is not made at a span completion (R122). -/
def fireLeavesFast (d : Device) : Device :=
  match d.control.config with
  | some c => if d.fire.phase = .set then recompute c d else d
  | none => d

/-- The forward K crossing (R112). -/
def fireForwardK (d : Device) : Device :=
  if d.fire.phase = .set then onFire (fun t => { t with phase := .past }) d else d

/-- The move to IDLE: hold mark and fired marks clear, wave figures, leads and fire angles gone (R112, R114, R115). The rules say
nothing of a string's advance and basis; they go too: DESIGN CHOICE (log 51). -/
def fireIdle (d : Device) : Device :=
  onFire (fun t => { t with
    phase := .idle, angleHold := false, waves := none, strings := t.strings.map fun _ => FireString.reset }) d

/-- The station leaves WEAVE (R112): any phase but IDLE goes to IDLE. -/
def fireLeaveWeave (d : Device) : Device := if d.fire.phase = .idle then d else fireIdle d

/-- A direction change as the string driver takes it (R135): the strings turn, and inside a forward pick the fire timer is
told. -/
def turnPick (d : Device) : Device :=
  doIf (decide (d.strings.mode = .forward)) fireTurn (stringsTurn d)

end Sys2Proof.Machine
end

