-- ==== Sys2Proof/Machine/Matches.lean ====
section
/-! DEFINITION. Pick matches (ch. 11): evaluation of the match table at an ADVANCE crossing. -/

namespace Sys2Proof.Machine

/-- Whether a field of an entry accepts a value; ANY accepts every value (R163). -/
def accepts (f : Option Nat) (v : Nat) : Bool := f.all fun x => decide (x = v)

/-- Whether an enabled entry matches a position (R165). -/
def entryMatches (p : Position) (e : MatchEntry) : Bool :=
  e.enabled && accepts e.run p.run && accepts e.iteration p.iteration && accepts e.row p.row && accepts e.piece p.piece

/-- Whether some matching entry carries an action. -/
def actionMatched (d : Device) (a : MatchAction) : Bool :=
  d.seq.table.any fun e => entryMatches d.seq.pos e && decide (e.action = a)

/-- PIECE RESTART (R166). -/
def restartPiece (d : Device) : Device :=
  setFlag .pieceRestart (onSeq (fun q => { q with pos := { q.pos with piece := 0 } }) d)

/-- Evaluates the table: every entry is compared with the position as the advance left it, then each action that matched is
carried out once (R165, R166). -/
def evaluateMatches (d : Device) : Device :=
  doIf (actionMatched d .notice) (setFlag .matchNotice)
    (doIf (actionMatched d .hold) ownHold
      (doIf (actionMatched d .pieceRestart) restartPiece d))

end Sys2Proof.Machine
end

