-- ==== Sys2Proof/Machine/Sequencer.lean ====
section
/-! DEFINITION. The pick sequencer (ch. 3): history, forward and reverse boundary crossings, holds heard on the line, the
retract, realignment. -/

namespace Sys2Proof.Machine

/-! ## The pick history (R38, R39) -/

/-- Pushes an entry on top; a full stack of 24 discards its oldest entry (R38). -/
def pushHistory (e : HistoryEntry) (h : List HistoryEntry) : List HistoryEntry := (e :: h).take 24

/-- The entry for the pick being left by a forward boundary crossing of the given kind (R39): code 15 has no finger, even where
a restored pick still holds the finger of its entry (R156). -/
def entryFor (kind : CrossKind) (d : Device) : HistoryEntry where
  pos := d.seq.pos
  void := d.seq.void
  kind := kind
  weft := recordedWeft d
  lift := if isSection d then d.seq.pickLift.getD 0 else 0
  finger := if isWeft d && decide (recordedWeft d ≠ 15) then chosenFinger d.weft.choice else none
  toggle := isWeft d && toggleOf d (recordedWeft d)

def closeGuard (d : Device) : Device := onSeq (fun q => { q with guardOpen := false }) d

/-! ## Forward boundary crossings (R40, R42) -/

/-- The kind of a forward boundary crossing: REPEAT where the pick is void, else ADVANCE. -/
def crossingKind (d : Device) : CrossKind := if d.seq.void then .again else .advance

/-- R40 steps 1 to 3: the history entry, the position record, the guard state. -/
def crossPosition (d : Device) : Device :=
  let kind := crossingKind d
  let e := entryFor kind d
  onSeq (fun q => { q with
    history := pushHistory e q.history
    pos := if kind = .advance then Sys2Proof.Machine.advance q.runs q.pos else q.pos
    void := false
    guardOpen := true }) d

/-- The window opens and every heard mark is cleared (R98). -/
def openWindow (d : Device) : Device :=
  onRoster (fun r => { r with
    windowOpen := true, entries := r.entries.map fun e => { e with heard := false } }) d

def closeWindow (d : Device) : Device := onRoster (fun r => { r with windowOpen := false }) d

/-- R42: while the line is STUCK a forward boundary crossing ends by setting the void flag. -/
def stuckVoid (d : Device) : Device := doIf d.line.stuck (onSeq fun q => { q with void := true }) d

/-- A forward B crossing at the pick sequencer in WEAVE (R40): steps 1 to 7 in order, with the beacon falling due (R95) and
the window opening (R98), and R42 at the end. -/
def seqForwardB (d : Device) : Device :=
  let kind := crossingKind d
  let left := recordedWeft d
  let d := crossPosition d
  let d := doIf (decide (kind = .advance)) evaluateMatches d
  let d := startPickFetch false (writeRetained d)
  let d := weftForwardBoundary kind left (openWindow (beaconFallsDue d))
  stuckVoid d

/-! ## Reverse boundary crossings (R52, R53) -/

/-- A reverse B crossing with entries in the history: the top entry is popped and restored (R52). -/
def reversePop (e : HistoryEntry) (rest : List HistoryEntry) (d : Device) : Device :=
  let d := onSeq (fun q => { q with pos := e.pos, void := false, history := rest, guardOpen := false }) d
  weftReversePop e (bringBackWeft e (startPickFetch true (writeRetained d)))

/-- A reverse B crossing with an empty history (R53). -/
def reverseExhausted (d : Device) : Device :=
  let d := setFlag .historyExhausted (onSeq (fun q => { q with void := true, guardOpen := false }) d)
  weftReverseEmpty (startPickFetch true (writeRetained (ownHold d)))

/-- A reverse B crossing at the pick sequencer in WEAVE: R52 or R53, with the unsent beacon discarded (R82), no beacon due
(R97) and the window CLOSED with no close (R98). -/
def seqReverseB (d : Device) : Device :=
  let d := match d.seq.history with
    | e :: rest => reversePop e rest d
    | [] => reverseExhausted d
  closeWindow (beaconIdle (discardBeacon false d))

/-! ## Holds heard on the line (R45, R47, R49) -/

/-- Whether a hold detected on the line retracts the last forward boundary crossing (R49). -/
def retracts (d : Device) : Bool :=
  inWeave d && d.seq.guardOpen && d.tracker.referenced
    && d.control.config.any (fun c => inArc d.tracker.angle c.b (guardEnd c))
    && decide (d.tracker.dir = .forward) && decide (d.tracker.speed ≠ .stalled)

/-- The retract of the crossing that pushed `e` (R49): the pop with the void flag set, then the REPEAT of the restored pick,
whose entry takes its weft code, lift count, finger and toggle from `e`. The void flag is clear after it under LINE STUCK too,
where R42 ends every forward boundary crossing by setting it: DESIGN CHOICE (log 50). -/
def retract (e : HistoryEntry) (rest : List HistoryEntry) (d : Device) : Device :=
  let d := setFlag .retracted
    (onSeq (fun q => { q with pos := e.pos, void := true, history := rest, guardOpen := false }) d)
  let d := onSeq (fun q => { q with
    history := pushHistory { e with void := true, kind := .again } q.history, void := false }) d
  let d := bringBackWeft e (startPickFetch false (writeRetained d))
  stringsRetracted (beaconRetracted (weftRetract e d))

/-- A hold of another node at the pick sequencer (R45). -/
def lineHold (d : Device) : Device :=
  if inWeave d then
    match retracts d, d.seq.history with
    | true, e :: rest => retract e rest d
    | _, _ => onSeq (fun q => { q with void := true }) d
  else d

/-! ## Realignment (R54) -/

/-- Realignment adopts a majority position. -/
def adoptPosition (p : Position) (d : Device) : Device :=
  writeRetained (onSeq (fun q => { q with pos := p, void := true, history := [], guardOpen := false }) d)

/-- What POSITION SET and POSITION RESUME leave at the sequencer (R173): the position, not void, an empty history, the guard
CLOSED, and no pick whose row a fetch has given (log 20). -/
def setPosition (p : Position) (d : Device) : Device :=
  onSeq (fun q => { q with
    pos := p, void := false, history := [], guardOpen := false, pickWeft := none, pickLift := none }) d

end Sys2Proof.Machine
end

