-- ==== Sys2Proof/Machine/RosterOps.lean ====
section
/-! DEFINITION. The peer roster (ch. 6): taking a beacon, and the close of the pick with its judgements. -/

namespace Sys2Proof.Machine

/-! ## Taking a beacon (R99, R100) -/

/-- The entry that a beacon's fields make, or none where the length or a field is out of the ranges of the layout (R100
step 3). R100's list of ranges has no finger: the model accepts every finger byte and every flag byte (log 46). The heard mark
and the misses are those of a new entry. -/
def beaconEntry (station : Nat) (p : List Byte) : Option RosterEntry :=
  let run := fieldAt p 3 1
  let iteration := fieldAt p 4 2
  let row := fieldAt p 6 2
  let lift := fieldAt p 10 2
  let capacity := fieldAt p 12 2
  let weft := fieldAt p 14 1
  if p.length ≠ 16 then none
  else
    match stateOfCode (fieldAt p 0 1), fieldAt p 1 1 with
    | some st, 0 =>
      if run ≤ 63 ∧ 1 ≤ iteration ∧ iteration ≤ 4095 ∧ row ≤ 16383 ∧ (weft ≤ 7 ∨ weft = 15)
          ∧ capacity ∈ [256, 512, 768, 1024] ∧ lift ≤ capacity then
        some ⟨station, .sectionRole, st, ⟨run, iteration, row, fieldAt p 8 2⟩, lift, capacity, weft, false, 0, false⟩
      else none
    | some st, 1 =>
      if run ≤ 63 ∧ 1 ≤ iteration ∧ iteration ≤ 4095 ∧ row ≤ 16383 ∧ (weft ≤ 7 ∨ weft = 15)
          ∧ capacity = 0 ∧ lift ≤ capacity then
        some ⟨station, .weftRole, st, ⟨run, iteration, row, fieldAt p 8 2⟩, lift, capacity, weft, false, 0, false⟩
      else none
    | _, _ => none

/-- Puts an entry into the roster in order of station number. A peer already listed keeps its misses, and its heard mark
where the beacon does not set it (R100). -/
def putEntry (heard : Bool) (e : RosterEntry) : List RosterEntry → List RosterEntry
  | [] => [{ e with heard := heard }]
  | x :: xs =>
    if e.station < x.station then { e with heard := heard } :: x :: xs
    else if e.station = x.station then { e with heard := heard || x.heard, misses := x.misses } :: xs
    else x :: putEntry heard e xs

/-- A beacon of another station that passes its checks (R100, R103). -/
def takeBeacon (e : RosterEntry) (d : Device) : Device :=
  let heard := inWeave d && d.roster.windowOpen
  doIf (decide (e.state ≠ .weave)) (setFlag .strayPeer)
    (onRoster (fun r => { r with entries := putEntry heard e r.entries }) d)

/-! ## The close of the pick (R104 to R109) -/

/-- The class of a peer in the snapshot (R106). -/
def peerClass (e : RosterEntry) : PeerClass :=
  if e.lapsed then .lapsed
  else if e.state ≠ .weave then .stray
  else if e.heard then .heard
  else .absent

/-- The snapshot of the head at the close (R106); the own lift count is the capacity while the pick result is UNKNOWN. -/
def takeSnapshot (d : Device) : Snapshot where
  number := d.control.number
  capacity := capacityOf d
  ownLift := d.seq.pickLift.getD (capacityOf d)
  entries := d.roster.entries.map fun e => ⟨e.station, e.role, e.lift, e.capacity, peerClass e⟩

/-- The miss count of one entry at a close (R102). -/
def countMiss (e : RosterEntry) : RosterEntry :=
  let m := if e.heard then 0 else satInc 255 e.misses
  { e with misses := m, lapsed := e.lapsed || decide (16 ≤ m) }

def countMisses (d : Device) : Device := onRoster (fun r => { r with entries := r.entries.map countMiss }) d

/-- Whether a peer votes (R105): heard in this window, weaving, not lapsed. -/
def votes (e : RosterEntry) : Bool := e.heard && decide (e.state = .weave) && !e.lapsed

/-- The station's own position as a beacon announces it (R105). -/
def ownBeaconPos (d : Device) : BeaconPos :=
  ⟨d.seq.pos.run, d.seq.pos.iteration, d.seq.pos.row, d.seq.pos.piece % 65536⟩

/-- The voters for a position among the peers. -/
def votesFor (d : Device) (p : BeaconPos) : Nat :=
  (d.roster.entries.filter fun e => votes e && decide (e.pos = p)).length

/-- The voters for the station's own position: itself and every peer announcing the same. -/
def ownVotes (d : Device) : Nat := votesFor d (ownBeaconPos d) + 1

/-- The rival position with the most voters, announced by the lowest-numbered peer where rivals share the largest count
(R107). -/
def bestRival (d : Device) : Option BeaconPos :=
  ((d.roster.entries.filter fun e => votes e && decide (e.pos ≠ ownBeaconPos d)).map (·.pos)).foldl
    (fun best p =>
      match best with
      | none => some p
      | some b => if votesFor d b < votesFor d p then some p else some b) none

/-- The majority position when the station is outvoted, else none (R105). -/
def outvotedBy (d : Device) : Option BeaconPos :=
  (bestRival d).filter fun p => decide (ownVotes d < votesFor d p)

/-- The piece count nearest to `own` whose low 16 bits are `low` (R108). -/
def rebuildPiece (low own : Nat) : Nat :=
  let t := (low + 65536 - own % 65536) % 65536
  if t < 32768 then (own + t) % 16777216 else (own + t + 16777216 - 65536) % 16777216

/-- The majority position as a full position of this programme (R108). -/
def rebuildPosition (d : Device) (p : BeaconPos) : Position :=
  ⟨p.run, p.iteration, p.row, rebuildPiece p.pieceLow d.seq.pos.piece⟩

def setMinority (b : Bool) (d : Device) : Device := onRoster (fun r => { r with minority := b }) d

/-- A second consecutive minority close (R108): the rebuilt position is adopted where it is valid; otherwise the pick is held
and the mark stays. -/
def realign (p : BeaconPos) (d : Device) : Device :=
  let q := rebuildPosition d p
  if validPosition d.seq.runs q then
    setMinority false (ownHold (setFlag .realigned (adoptPosition q d)))
  else ownHold (setFlag .disagree d)

/-- The agreement judgement (R105, R107). -/
def judgeAgreement (d : Device) : Device :=
  match outvotedBy d with
  | none => setMinority false d
  | some p => if d.roster.minority then realign p d else setMinority true (setFlag .disagree d)

/-- The weft station heard in this window: the lowest-numbered weaving entry of the weft role (R109). -/
def weftPeer (d : Device) : Option RosterEntry :=
  d.roster.entries.find? fun e => decide (e.role = .weftRole) && decide (e.state = .weave) && e.heard

/-- The weft code check (R109). -/
def checkWeftCode (d : Device) : Device :=
  match weftPeer d with
  | none => d
  | some e =>
    if weftKnown d && decide (recordedWeft d ≠ e.weft) then ownHold (setFlag .weftMismatch d) else d

/-- The close of the pick in the section role (R104): snapshot, misses, agreement, weft code check, hand-over. -/
def closeSection (d : Device) : Device :=
  let s := takeSnapshot d
  let d := onRoster (fun r => { r with snapshot := some s }) (beaconIdle d)
  let d := checkWeftCode (judgeAgreement (countMisses d))
  closeWindow (fireClose s d)

/-- The close of the pick in the weft role (R104). -/
def closeWeft (d : Device) : Device := closeWindow (judgeAgreement (countMisses (beaconIdle d)))

/-- The forward C crossing (section role) or forward Fa crossing (weft role) at the roster: an unsent beacon is discarded
late (R82), and in WEAVE with the window OPEN the close is made. -/
def rosterClose (d : Device) : Device :=
  let d := discardBeacon true d
  if inWeave d && d.roster.windowOpen then
    match d.control.role with
    | .sectionRole => closeSection d
    | .weftRole => closeWeft d
  else d

end Sys2Proof.Machine
end

