-- ==== Sys2Proof/Machine/StoreOps.lean ====
section
/-! DEFINITION. The design store (ch. 4): the completion of a row fetch, sound (R66) or damaged (R67, R68), for a pick or for a
test step (R70). -/

namespace Sys2Proof.Machine

/-- Fills the pick result and makes the fetch state IDLE (R66, R68). -/
def fillResult (r : PickResult) (d : Device) : Device :=
  onStore (fun s => { s with fetch := .idle, result := some r }) d

/-- Hands the weft code and the lift count of a pick to the pick sequencer (R66 steps 1 and 2). -/
def handPick (weft lift : Nat) (d : Device) : Device :=
  onSeq (fun q => { q with pickWeft := some weft, pickLift := some lift }) d

/-- Hands the lift field to the string driver in the section role, the weft code to the weft selector in the weft role (R66
step 3). -/
def handRow (weft : Nat) (field : List Byte) (d : Device) : Device :=
  if isSection d then shiftAll (stringBits field) d else weftCodeArrives weft d

/-- Tells the line controller of the completed fetch of a forward pick (R66 step 4). -/
def tellLine (reverse : Bool) (d : Device) : Device := if reverse then d else beaconRowReady d

/-- A sound PICK fetch (R66): the sequencer keeps the override, and the weft selector is handed the row's code, where a choice
left PENDING can meet an override too: DESIGN CHOICE (log 54). -/
def soundPick (row : Nat) (reverse : Bool) (override : Option Nat) (r : RowRead) (d : Device) : Device :=
  let code := r.weft.toNat
  let d := fillResult ⟨row, code, liftCount r.field, r.field, true⟩ d
  tellLine reverse (handRow code r.field (handPick (override.getD code) (liftCount r.field) d))

/-- The all-zero lift field of a damaged row (R68). -/
def zeroField (d : Device) : List Byte := List.replicate (liftBytes d) 0#8

/-- ROW DAMAGED and the last damaged row (R68 step 1). -/
def markDamaged (row : Nat) (d : Device) : Device :=
  setFlag .rowDamaged (onStore (fun s => { s with lastDamaged := some row }) d)

/-- A damaged row in a PICK fetch (R68, R71): flag, hold, result, echo marks cleared and the pick blank (R134), the all-zero
field, the line. The weft selector acts on code 15 or on the override (R71). -/
def damagedPick (row : Nat) (reverse : Bool) (override : Option Nat) (d : Device) : Device :=
  let code := override.getD 15
  let d := ownHold (markDamaged row d)
  let d := handPick code 0 (fillResult ⟨row, code, 0, zeroField d, false⟩ d)
  let d := if isSection d then setBlank (clearEchoMarks d) else d
  tellLine reverse (handRow code (zeroField d) d)

/-- After the shift of a ROW test step: a stepped operation waiting for its fetch goes on (R141). -/
def stepFetched (d : Device) : Device :=
  match d.strings.test.op with
  | .inFlight .fetch => stepFires d
  | _ => d

/-- A TEST fetch (R70): its lift field, or the all-zero field of a damaged row, is shifted; the step is not blank (R140). -/
def testFetched (row : Nat) (sound : Bool) (r : RowRead) (d : Device) : Device :=
  if sound then
    let d := fillResult ⟨row, r.weft.toNat, liftCount r.field, r.field, true⟩ d
    stepFetched (shiftAll (stringBits r.field) d)
  else
    let d := ownHold (markDamaged row d)
    let d := clearEchoMarks (fillResult ⟨row, 15, 0, zeroField d, false⟩ d)
    stepFetched (shiftAll (stringBits (zeroField d)) d)

/-- FETCH_COMPLETE (R66): what faults of the memory have overwritten is in it first (log 19); a row whose mark is clear is
damaged without a read (R67). -/
def fetchCompletes (upset : List Host.Cell) (d : Device) : Device :=
  let d := onStore (fun s => { s with mem := Memory.writeCells s.mem upset }) d
  match d.store.fetch with
  | .idle => d
  | .fetching row purpose _ =>
    let r := readRow d row
    let sound := isWritten d row && r.sound
    match purpose with
    | .pick reverse override =>
      if sound then soundPick row reverse override r d else damagedPick row reverse override d
    | .test => testFetched row sound r d

end Sys2Proof.Machine
end

