-- ==== Sys2Proof/Machine/Station.lean ====
section
/-! DEFINITION. Changes of the station state (R169): leaving WEAVE and TEST, entering READY and FAULT, latency training
(ch. 9), and the resets (R180). -/

namespace Sys2Proof.Machine

def setState (st : StationState) (d : Device) : Device := onControl (fun c => { c with state := st }) d

/-- Entering READY, where the dwell test is made (R127, R169). -/
def enterReady (d : Device) : Device := dwellTest (setState .ready d)

/-- What every block does when the station leaves WEAVE (R169; R48, R65, R82, R97, R98, R107, R112, R128, R158, R159). -/
def leaveWeave (d : Device) : Device :=
  weftLeave (closeGuard (stringsLeave (fireLeaveWeave (endPickFetch
    (setMinority false (closeWindow (beaconIdle (discardBeacon false d))))))))

/-- What the blocks do when the station leaves TEST (R65, R128, R139): a stepped operation in flight is abandoned. -/
def leaveTest (d : Device) : Device :=
  onStrings (fun g => { g with test := { g.test with op := .idle } }) (stringsLeave (endTestFetch d))

/-! ## Latency training (ch. 9) -/

/-- The string under training. -/
def onCurrent (f : SelString → SelString) (d : Device) : Device :=
  mapStrings (fun i s => if i = d.trainer.cur then f s else s) d

/-- The end of a training run with every string dropped and RESTING and the trainer IDLE (R147, R148). -/
def trainerIdle (d : Device) : Device := onTrainer (fun t => { t with phase := .idle, timer := 0 }) (restAll d)

/-- The training run completes (R147). -/
def trainComplete (d : Device) : Device :=
  let failed := anyString (fun s => decide (s.result ≠ .trained)) d
  enterReady (trainerIdle (setFlag (if failed then .trainFailed else .trainDone) d))

/-- A training run is abandoned (R148): TRAIN ABANDONED, every string dropped, the trainer IDLE. -/
def abandonTraining (d : Device) : Device := setFlag .trainAbandoned (trainerIdle d)

/-- A trial begins: the string is energised (R145). -/
def startTrial (d : Device) : Device :=
  onTrainer (fun t => { t with phase := .trial, timer := 0 }) (onCurrent (fun s => { s with drive := .inrush 0 }) d)

/-- The pre-check of the current string and, where it is STUCK, of those after it (R144, R146); `fuel` bounds the strings
left. -/
def preCheck : Nat → Device → Device
  | 0, d => trainComplete d
  | fuel + 1, d =>
    let d := onTrainer (fun t => { t with phase := .preCheck })
      (onCurrent (fun s => { s with shiftReg := 1#128, outReg := 1#128, drive := .off }) d)
    if d.pins.armature.getLsbD d.trainer.cur then
      let d := onCurrent (fun s => { s with result := .stuck }) d
      if d.trainer.cur + 1 < stringCount d then
        preCheck fuel (onTrainer (fun t => { t with cur := t.cur + 1 }) d)
      else trainComplete d
    else startTrial (onTrainer (fun t => { t with delay := 100, trial := 1, ones := 0 }) d)

/-- The trainer turns to the next string, or the run completes (R146). -/
def nextTrained (d : Device) : Device :=
  if d.trainer.cur + 1 < stringCount d then
    preCheck 8 (onTrainer (fun t => { t with cur := t.cur + 1 }) d)
  else trainComplete d

/-- Writes the result of the current string and goes on (R146). -/
def endString (f : SelString → SelString) (d : Device) : Device := nextTrained (onCurrent f d)

/-- TRIAL_SAMPLE (R145): the sample is recorded, the output dropped, and a rest begins. -/
def sampleTrial (held : Bool) (d : Device) : Device :=
  if d.trainer.phase = .trial then
    onTrainer (fun t => { t with phase := .rest, timer := 0, ones := if held then t.ones + 1 else t.ones })
      (onCurrent dropString d)
  else d

/-- REST_END (R145, R146). -/
def endRest (armature : BitVec 8) (d : Device) : Device :=
  if d.trainer.phase = .rest then
    let d := onPins (fun p => { p with armature := armature }) d
    let t := d.trainer
    if armature.getLsbD t.cur then endString (fun s => { s with result := .stuck }) d
    else if t.trial < 4 then startTrial (onTrainer (fun t => { t with trial := t.trial + 1 }) d)
    else if 3 ≤ t.ones then
      endString (fun s => { s with result := .trained, latency := some (min (t.delay + 200) 9999) }) d
    else if t.delay < 9975 then
      startTrial (onTrainer (fun t => { t with delay := t.delay + 25, trial := 1, ones := 0 }) d)
    else endString (fun s => { s with result := .failed }) d
  else d

/-- An accepted TRAIN (R143). -/
def startTraining (armature : BitVec 8) (d : Device) : Device :=
  let d := onPins (fun p => { p with armature := armature }) (setState .train d)
  let d := mapAllStrings (fun s => { s with
    chain := .resting, pattern := false, latched := false, waiting := false, echo := false, drive := .off
    result := .notRun }) d
  let d := wakePower (onStrings (fun g => { g with mode := .none }) d)
  let d := onTrainer (fun t => { t with cur := 0 }) d
  if d.strings.power = .on then preCheck 8 d else onTrainer (fun t => { t with phase := .waking }) d

/-- WAKE_TIME_END (R127, R128): power is ON; a training run goes on to its first pre-check (R143), a stepped operation to its
firing (R141), waiting strings fire, and the dwell test is made. -/
def powerComesOn (armature : BitVec 8) (d : Device) : Device :=
  match d.strings.power with
  | .waking _ =>
    let d := onPins (fun p => { p with armature := armature }) (setPower .on d)
    let d := fireWaiting d
    let d := match d.strings.test.op with
      | .inFlight .power => stepFires d
      | _ => d
    let d := if d.trainer.phase = .waking then preCheck 8 d else d
    dwellTest d
  | _ => d

/-- TEST_STEP_CAPTURE (R141 steps 5 to 7): capture, drop, step number, and the completion reply with the step number used. -/
def stepCaptured (sense : List StringBits) (d : Device) : Device :=
  match d.strings.test.op with
  | .inFlight (.energised _) =>
    let d := onPins (fun p => { p with sense := sense }) d
    let used := d.strings.test.step
    let d := restAll (captureAll d)
    let d := onStrings (fun g => { g with mode := .none, test := { g.test with op := .idle } }) d
    completeWith (replyFrame d .testStep .done noDetail (be16 used)) (nextStep d)
  | _ => d

/-! ## FAULT (R91, R92, R101) -/

/-- Entry into FAULT: each block acts as its chapter gives, string power goes OFF, the beacon slot is emptied, the access wait
is 1,000 bt. -/
def enterFault (d : Device) : Device :=
  let d := match d.control.state with
    | .weave => leaveWeave d
    | .test => leaveTest d
    | .train => abandonTraining d
    | _ => d
  let d := discardBeacon false (setState .fault d)
  let d := powerOff (stringsLeave d)
  onLine (fun l => { l with accessWait := 1000 }) d

/-- A beacon bearing this station's number (R101). -/
def duplicateFound (d : Device) : Device :=
  let d := setFlag .duplicateStation d
  match d.control.state with
  | .dormant => d
  | .fault => d
  | _ => enterFault (requestPulse d)

/-- BEACON_TAKEN: the roster takes a BEACON frame from the head of the receive queue (R79, R100). -/
def takeBeaconFrame (d : Device) : Device :=
  match d.line.queue with
  | [] => d
  | f :: rest =>
    if f.kind = beaconKind then
      let d := onLine (fun l => { l with queue := rest }) d
      let station := f.source.toNat
      if 31 < station then d
      else if station = d.control.number then duplicateFound d
      else
        match beaconEntry station f.payload with
        | some e => takeBeacon e d
        | none => d
    else d

/-! ## Resets (R180) -/

/-- Every block in its reset condition, over what a reset keeps: pattern memory, backup domain, pins (R15, R37, R56, R72, R93,
R111, R125, R142, R150, R162, R163, R180); the idle ticks are numbered on, so that each has a free value of its own (log 7). -/
def resetTo (number : Nat) (role : Role) (phase : BitVec 2) (d : Device) : Device where
  tracker := Tracker.reset phase
  seq := Sequencer.reset
  store := Store.reset d.store.mem
  line := { Line.reset with idleTicks := d.line.idleTicks }
  roster := Roster.reset
  fire := FireTimer.reset
  strings := StringDriver.reset
  trainer := Trainer.reset
  weft := WeftSel.reset
  control := Control.reset number role 0#30 d.control.retained d.control.retention d.control.writes
  pins := { d.pins with strapNumber := number, strapRole := role }

/-- The commanded reset (R179, R180): the strap pins are sampled as they stand, the channels as the decoder last took them, which
is as they stand, since every change of theirs is an event (log 25). -/
def commandedReset (d : Device) : Device := resetTo d.pins.strapNumber d.pins.strapRole d.tracker.phase d

/-- A reply leaves the reply slot (R81, R179): a reset waiting for it is made, otherwise a waiting completion reply enters. -/
def replyLeaves (d : Device) : Device :=
  if d.control.resetPending.isSome then commandedReset d else admitCompletion (clearSlot .reply d)

/-- FRAME_SENT (R84); the runs then are those that the last character sent leaves (R74). -/
def frameSent (d : Device) : Device :=
  match d.line.tx with
  | .sending slot chars =>
    let d := onLine (fun l => { l with tx := .idle, accessWait := restWait d }) d
    let d := passedChars [soundChar (chars.getLastD 0#8)] d
    match slot with
    | .beacon => clearSlot .beacon d
    | .reply => replyLeaves d
  | _ => d

/-- ATTEMPT_ABANDONED (R84, R85): a bit has been read dominant, so the line stands at a dominant run (R74); the eighth abandoned attempt
discards the frame. -/
def attemptAbandoned (d : Device) : Device :=
  match d.line.tx with
  | .sending slot _ =>
    let d := onLine (fun l => { l with
      tx := .idle, rx := disown l.rx, accessWait := backoffWait d, held := false }) (measuredDominant 1 d)
    let d := count (fun c => { c with abandoned := inc16 c.abandoned }) (raiseAttempts slot d)
    if (slotOf slot d).any fun s => decide (8 ≤ s.attempts) then
      let d := count (fun c => { c with collisionLimits := inc16 c.collisionLimits }) d
      match slot with
      | .beacon => clearSlot .beacon d
      | .reply => replyLeaves d
    else d
  | _ => d

/-- RESET_REPLY_TIMEOUT (R179): the reply is discarded and the reset made. -/
def resetTimesOut (d : Device) : Device :=
  if d.control.resetPending.isSome then commandedReset d else d

/-- RESET_PIN (R180): straps and channels sampled; record and retention state unchanged. -/
def pinReset (number : Nat) (role : Role) (a b : Bool) (d : Device) : Device := resetTo number role (phaseOf a b) d

/-- The retention state judged at power-on (R178). -/
def judged (backupHeld : Bool) (r : RetainedRecord) : Retention :=
  if backupHeld && recordSound r then .intact else .lost

/-- POWER_ON (R178, R180): writes in progress have completed on backup power; the backup domain shows what the operand says,
or the record last written; the pattern memory holds what the operand says (R57; log 16). -/
def powerOnReset (number : Nat) (role : Role) (a b backupHeld : Bool) (backup : Option RetainedRecord)
    (sram : List Host.Cell) (d : Device) : Device :=
  let record := backup.getD (completeAllWrites d.control).retained
  let d := resetTo number role (phaseOf a b)
    (onStore (fun s => { s with mem := Memory.writeCells [] sram }) d)
  let d := onControl (fun c => { c with retained := record, retention := judged backupHeld record, writes := [] }) d
  doIf (decide (judged backupHeld record = .lost)) (setFlag .retainLost) d

/-- POWER_FAIL (R178): a write in progress completes on backup power; main power is gone until POWER_ON (log 15). -/
def powerFails (d : Device) : Device := onControl (fun c => { completeAllWrites c with powered := false }) d

/-- RETAINED_WRITE_DONE (R178). -/
def retainedWritten (d : Device) : Device := onControl completeWrite d

end Sys2Proof.Machine
end

