-- ==== Sys2Proof/Machine/Requests.lean ====
section
/-! DEFINITION. The terminal's requests (ch. 12; R18, R61, R63, R138, R139, R141, R143, R152, R164): taking a request from
the receive queue (R79, R80), its checks in the order of its rule, its effect and its reply. -/

namespace Sys2Proof.Machine

/-! ## Taking a request (R79, R80, R170) -/

/-- The frame leaves the head of the receive queue. -/
def popQueue (d : Device) : Device := onLine (fun l => { l with queue := l.queue.drop 1 }) d

/-- Whether a reply cannot be placed: the reply slot is taken, or a completion reply waits for it (R80 step 4, R81). -/
def replyTaken (d : Device) : Bool := d.line.replySlot.isSome || d.line.completion.isSome

/-- Whether the frame at the head of the queue is a request of this kind from the terminal, and no RESET waits for its reply to
leave (R80, R179). -/
def standsFor (r : Request) (d : Device) : Bool :=
  d.control.resetPending.isNone
    && (d.line.queue.head?).any fun f => decide (f.kind = requestCode r) && decide (f.source = terminalNode)

/-- The frame at the head of the queue. -/
def headFrame (d : Device) : Frame := d.line.queue.headD ⟨0#8, 0#8, 0#8, []⟩

/-- A request discarded because the reply slot is taken (R80 step 4). -/
def dropRequest (d : Device) : Device := count (fun c => { c with requestsDropped := inc16 c.requestsDropped }) d

/-- A request addressed to this station: dropped, refused by the table of 12.2, or run. -/
def takeAddressed (r : Request) (run : List Byte → Device → Device) (p : List Byte) (d : Device) : Device :=
  if replyTaken d then dropRequest d
  else
    match acceptance r d.control.state with
    | some res => answer r res d
    | none => run p d

/-- Takes the request `r` from the head of the queue: addressed to all nodes, what R170 gives; otherwise as addressed. Where no
such request stands there, nothing happens (log 5, log 6). -/
def takeRequest (r : Request) (broadcast : Device → Device) (run : List Byte → Device → Device) (d : Device) : Device :=
  if standsFor r d then
    if (headFrame d).dest = allNodes then broadcast (popQueue d)
    else takeAddressed r run (headFrame d).payload (popQueue d)
  else d

/-- A request that is discarded when addressed to 63 (R170). -/
def discarded (d : Device) : Device := d

/-- The request goes on where its payload has the length of its layout, and is refused with RANGE otherwise (R170). -/
def withLength (r : Request) (n : Nat) (f : Device → Device) (p : List Byte) (d : Device) : Device :=
  if p.length = n then f d else answer r .range d

def stalledNow (d : Device) : Bool := decide (d.tracker.speed = .stalled)

/-- Whether a request addressed to all nodes is executed (R170). -/
def broadcastActs (kind : Byte) (d : Device) : Bool :=
  (decide (kind = requestCode .arm) && decide (d.control.state = .ready))
    || (decide (kind = requestCode .disarm) && inWeave d && stalledNow d)
    || decide (kind = requestCode .reset)

/-- What becomes of a frame that is no beacon and is discarded where it stands (R80, R170): one that is no request of the terminal
and a broadcast that is not executed leave the queue without a trace, a request with no room for its reply is counted. Any
other request stays for its own command. -/
def discardHead (f : Frame) (d : Device) : Device :=
  if !(isRequestKind f.kind && decide (f.source = terminalNode)) then popQueue d
  else if f.dest = allNodes then doIf (!broadcastActs f.kind d) popQueue d
  else doIf (replyTaken d) (fun d => dropRequest (popQueue d)) d

/-- FRAME_DISCARDED (R80): station control takes the frame at the head, where it is no beacon, and discards it. -/
def discardFrame (d : Device) : Device :=
  if d.control.resetPending.isSome then d
  else
    match d.line.queue with
    | [] => d
    | f :: _ => if f.kind = beaconKind then d else discardHead f d

/-! ## CONFIGURE (R171, R172) -/

/-- The length of the CONFIGURE payload of a role (R94). -/
def configLength : Role → Nat
  | .sectionRole => 34
  | .weftRole => 22

def otherRole : Role → Role
  | .sectionRole => .weftRole
  | .weftRole => .sectionRole

/-- The fields of a CONFIGURE payload by the form of the role (5.9). -/
def configFields (role : Role) (p : List Byte) : Configuration :=
  match role with
  | .sectionRole =>
    { capacity := fieldAt p 0 2, index := fieldAt p 2 2, b := fieldAt p 4 2, c := fieldAt p 6 2, w := fieldAt p 8 2
      k := fieldAt p 10 2, d := fieldAt p 12 2, fa := 0, ao := 0, ac := 0, g := fieldAt p 14 2, p := fieldAt p 16 2
      m := fieldAt p 18 2, latency := fieldAt p 20 2, sCreep := fieldAt p 22 3, sFast := fieldAt p 25 3
      dwell := fieldAt p 28 2, identity := BitVec.ofNat 32 (fieldAt p 30 4) }
  | .weftRole =>
    { capacity := 0, index := fieldAt p 0 2, b := fieldAt p 2 2, c := 0, w := 0, k := 0, d := 0, fa := fieldAt p 4 2
      ao := fieldAt p 6 2, ac := fieldAt p 8 2, g := fieldAt p 10 2, p := 0, m := 0, latency := 0
      sCreep := fieldAt p 12 3, sFast := fieldAt p 15 3, dwell := 0, identity := BitVec.ofNat 32 (fieldAt p 18 4) }

/-- The configured angles of a role, going forward from B (R171 step 4). -/
def roleAngles (role : Role) (c : Configuration) : List Nat :=
  match role with
  | .sectionRole => [c.b, c.c, c.w, c.k, c.d]
  | .weftRole => [c.b, c.fa, c.ao, c.ac]

/-- R171 step 2. -/
def fieldsInRange (role : Role) (c : Configuration) : Bool :=
  (decide (role = .weftRole) || decide (c.capacity ∈ [256, 512, 768, 1024]))
    && decide (c.index ≤ 4095) && (roleAngles role c).all fun a => decide (a ≤ 4095)

def clampTo (lo hi n : Nat) : Nat := max lo (min n hi)

/-- R171 step 3: the numeric fields of the role clamped to their ranges. -/
def clamped (role : Role) (c : Configuration) : Configuration :=
  let sCreep := clampTo 1000 1048575 c.sCreep
  let common := { c with g := min c.g 256, sCreep := sCreep, sFast := clampTo 100 sCreep c.sFast }
  match role with
  | .sectionRole =>
    { common with
      p := clampTo 100 2000 c.p
      m := clampTo 64 32768 c.m
      latency := clampTo 100 9999 c.latency
      dwell := clampTo 10 600 c.dwell }
  | .weftRole => common

/-- The forward arcs from each angle to the next, the last back to B (R171 step 4). -/
def neighbourArcs (angles : List Nat) : List Nat :=
  List.zipWith arc angles (angles.drop 1 ++ angles.take 1)

/-- R171 step 4. -/
def anglesInOrder (role : Role) (c : Configuration) : Bool :=
  let arcs := neighbourArcs (roleAngles role c)
  arcs.all (fun x => decide (32 ≤ x)) && decide (arcs.sum = 4096) &&
    match role with
    | .sectionRole => decide (c.g + 64 ≤ arc c.b c.c)
    | .weftRole => decide (c.g + 32 ≤ arc c.b c.fa)

/-- The configuration as taken, in the order of the CONFIGURE payload (5.9, R172). -/
def configData (role : Role) (c : Configuration) : List Byte :=
  match role with
  | .sectionRole =>
    be16 c.capacity ++ be16 c.index ++ be16 c.b ++ be16 c.c ++ be16 c.w ++ be16 c.k ++ be16 c.d ++ be16 c.g ++ be16 c.p
      ++ be16 c.m ++ be16 c.latency ++ be24 c.sCreep ++ be24 c.sFast ++ be16 c.dwell ++ be32 c.identity.toNat
  | .weftRole =>
    be16 c.index ++ be16 c.b ++ be16 c.fa ++ be16 c.ao ++ be16 c.ac ++ be16 c.g ++ be24 c.sCreep ++ be24 c.sFast
      ++ be32 c.identity.toNat

/-- An accepted CONFIGURE (R172): the configuration is stored, the station is in LOAD with string power OFF (R127), and every
string has the default latency and NOT RUN. -/
def storeConfig (c : Configuration) (d : Device) : Device :=
  let d := setState .load (onControl (fun k => { k with config := some c }) d)
  configureStrings c.latency (doIf (decide (d.strings.power ≠ .off)) powerOff d)

/-- CONFIGURE past the state test (R171). -/
def runConfigure (p : List Byte) (d : Device) : Device :=
  let role := d.control.role
  if p.length = configLength (otherRole role) then answer .configure .role d
  else if p.length ≠ configLength role then answer .configure .range d
  else
    let sent := configFields role p
    let taken := clamped role sent
    if fieldsInRange role sent = false then answer .configure .range d
    else if anglesInOrder role taken = false then answer .configure .order d
    else
      answerData .configure (if taken = sent then .done else .doneAdjusted) (configData role taken) (storeConfig taken d)

/-! ## ROW WRITE and ROW READ (R28, R61, R63) -/

/-- A weft code of the layouts: 0..7 or 15. -/
def weftCodeGood (k : Nat) : Bool := decide (k ≤ 7) || decide (k = 15)

/-- Writes a row's record and sets its mark (R61). -/
def storeRow (row : Nat) (weft : Byte) (field : List Byte) (d : Device) : Device :=
  onStore (fun s => { s with
    mem := Memory.writeBytes s.mem (slotAddress row) (recordImage weft field)
    written := setMark row s.written }) d

/-- ROW WRITE past the state test (R61). -/
def runRowWrite (p : List Byte) (d : Device) : Device :=
  let row := fieldAt p 0 2
  let weft := p.getD 2 0#8
  if p.length ≠ 3 + liftBytes d ∨ 16383 < row ∨ weftCodeGood weft.toNat = false then answer .rowWrite .range d
  else if d.control.state = .ready ∧ isWeft d ∧ unmapped d weft.toNat then
    answerInvalid .rowWrite ⟨.weftUnmapped, 0xFF, 0xFFFF, weft.toNat⟩ d
  else answer .rowWrite .done (storeRow row weft (p.drop 3) d)

/-- The record that ROW READ returns of a written row (R63). -/
def rowReadRecord (r : RowRead) : List Byte := r.weft :: r.field ++ [byte (if r.sound then 0 else 1)]

/-- ROW READ past the state test (R63). -/
def runRowRead (p : List Byte) (d : Device) : Device :=
  let row := fieldAt p 0 2
  if p.length ≠ 2 ∨ 16383 < row then answer .rowRead .range d
  else
    answerData .rowRead .done
      (be16 row ++ byte (bit (isWritten d row) 0) :: (if isWritten d row then rowReadRecord (readRow d row) else [])) d

/-! ## RUN WRITE, MATCH WRITE, WEFT MAP WRITE (R18, R152, R164) -/

/-- The run of a RUN WRITE payload (5.9). -/
def runFields (p : List Byte) : Run where
  fromRow := fieldAt p 1 2
  toRow := fieldAt p 3 2
  count := fieldAt p 5 2
  next := fieldAt p 7 1
  override := if fieldAt p 8 1 = 0xFF then none else some (fieldAt p 8 1)

/-- Whether the fields of a run are in range (R18). -/
def runInRange (r : Run) : Bool :=
  decide (r.fromRow ≤ 16383) && decide (r.toRow ≤ 16383) && decide (1 ≤ r.count) && decide (r.count ≤ 4095)
    && decide (r.next ≤ 63) && r.override.all weftCodeGood

/-- Writes a run, and the start run where the start mark is set (R18). -/
def storeRun (i : Nat) (r : Run) (start : Bool) (d : Device) : Device :=
  onSeq (fun q => { q with runs := q.runs.set i (some r), startRun := if start then i else q.startRun }) d

/-- Bit 0 of a byte of a payload. -/
def markAt (p : List Byte) (i place : Nat) : Bool := (p.getD i 0#8).getLsbD place

/-- RUN WRITE past the state test (R18). -/
def runRunWrite (p : List Byte) (d : Device) : Device :=
  if p.length ≠ 10 ∨ 63 < fieldAt p 0 1 ∨ runInRange (runFields p) = false then answer .runWrite .range d
  else answer .runWrite .done (storeRun (fieldAt p 0 1) (runFields p) (markAt p 9 0) d)

/-- The action of a code (5.9), or none. -/
def actionOf (n : Nat) : Option MatchAction :=
  match n with
  | 0 => some .notice
  | 1 => some .hold
  | 2 => some .pieceRestart
  | _ => none

/-- A comparison field of a MATCH WRITE: ANY, or the value sent (5.9). -/
def matchField (p : List Byte) (place i n : Nat) : Option Nat :=
  if markAt p 1 place then none else some (fieldAt p i n)

/-- The entry of a MATCH WRITE payload with an action (5.9). -/
def matchFields (p : List Byte) (a : MatchAction) : MatchEntry where
  run := matchField p 0 2 1
  iteration := matchField p 1 3 2
  row := matchField p 2 5 2
  piece := matchField p 3 7 3
  action := a
  enabled := markAt p 11 0

/-- Whether the values of an entry are in range; a field marked ANY is not checked (R164). -/
def matchInRange (e : MatchEntry) : Bool :=
  e.run.all (fun x => decide (x ≤ 63)) && e.iteration.all (fun x => decide (1 ≤ x) && decide (x ≤ 4095))
    && e.row.all (fun x => decide (x ≤ 16383)) && e.piece.all (fun x => decide (x ≤ 16777215))

def storeMatch (i : Nat) (e : MatchEntry) (d : Device) : Device := onSeq (fun q => { q with table := q.table.set i e }) d

/-- MATCH WRITE past the state test (R164). -/
def runMatchWrite (p : List Byte) (d : Device) : Device :=
  match actionOf (fieldAt p 10 1) with
  | none => answer .matchWrite .range d
  | some a =>
    if p.length ≠ 12 ∨ 11 < fieldAt p 0 1 ∨ matchInRange (matchFields p a) = false then answer .matchWrite .range d
    else answer .matchWrite .done (storeMatch (fieldAt p 0 1) (matchFields p a) d)

/-- The entry of a WEFT MAP WRITE payload (5.9). -/
def mapFields (p : List Byte) : MapEntry where
  primary := fieldAt p 1 1
  alternate := if fieldAt p 2 1 = 0xFF then none else some (fieldAt p 2 1)
  mixing := markAt p 3 0

/-- Whether the fingers of an entry are in range and differ (R152). -/
def mapInRange (e : MapEntry) : Bool :=
  decide (e.primary ≤ 7) && e.alternate.all fun f => decide (f ≤ 7) && decide (f ≠ e.primary)

def storeMap (k : Nat) (e : MapEntry) (d : Device) : Device :=
  onWeft (fun w => { w with map := w.map.set k (some e) }) d

/-- WEFT MAP WRITE past the state test (R152). -/
def runWeftMapWrite (p : List Byte) (d : Device) : Device :=
  if isSection d then answer .weftMapWrite .role d
  else if p.length ≠ 4 ∨ 7 < fieldAt p 0 1 ∨ mapInRange (mapFields p) = false then answer .weftMapWrite .range d
  else answer .weftMapWrite .done (storeMap (fieldAt p 0 1) (mapFields p) d)

/-! ## LOAD DONE, POSITION SET, POSITION RESUME (R33, R34, R173) -/

/-- A LOAD DONE that passes (R34): start position, empty history, toggles cleared in the weft role, READY. -/
def finishLoad (d : Device) : Device :=
  enterReady (doIf (isWeft d) (onWeft fun w => { w with toggles := 0#8 }) (setPosition (startPosition d) d))

/-- LOAD DONE past the state test (R29 to R34). -/
def runLoadDone (p : List Byte) (d : Device) : Device :=
  withLength .loadDone 0 (fun d =>
    match loadFailure d with
    | some t => answerInvalid .loadDone t d
    | none => answer .loadDone .done (finishLoad d)) p d

/-- The position of a POSITION SET payload (5.9). -/
def positionFields (p : List Byte) : Position := ⟨fieldAt p 0 1, fieldAt p 1 2, fieldAt p 3 2, fieldAt p 5 3⟩

/-- POSITION SET past the state test (R173). -/
def runPositionSet (p : List Byte) (d : Device) : Device :=
  if p.length ≠ 8 ∨ validPosition d.seq.runs (positionFields p) = false then answer .positionSet .range d
  else answer .positionSet .done (writeRetained (setPosition (positionFields p) d))

/-- POSITION RESUME past the state test (R173). While a write of the record is in progress it reads record and retention state as the
last completed write has left them: DESIGN CHOICE (log 58). -/
def runPositionResume (p : List Byte) (d : Device) : Device :=
  withLength .positionResume 0 (fun d =>
    if d.control.retention = .lost then answer .positionResume .lost d
    else if d.control.config.all (fun c => decide (c.identity ≠ d.control.retained.identity)) then
      answer .positionResume .mismatch d
    else if validPosition d.seq.runs (recordPosition d.control.retained) = false then answer .positionResume .range d
    else answer .positionResume .done (setPosition (recordPosition d.control.retained) d)) p d

/-! ## ARM and DISARM (R170, R174) -/

/-- An accepted ARM: WEAVE with the void flag set, where the dwell test is made (R127, R174). -/
def armStation (d : Device) : Device := dwellTest (setState .weave (onSeq (fun q => { q with void := true }) d))

def runArm (p : List Byte) (d : Device) : Device := withLength .arm 0 (fun d => answer .arm .done (armStation d)) p d

/-- ARM addressed to 63 (R170). -/
def broadcastArm (d : Device) : Device := doIf (decide (d.control.state = .ready)) armStation d

/-- An accepted DISARM: READY, with the effects of leaving WEAVE (R169, R174). -/
def disarmStation (d : Device) : Device := enterReady (leaveWeave d)

def runDisarm (p : List Byte) (d : Device) : Device :=
  withLength .disarm 0 (fun d =>
    if stalledNow d then answer .disarm .done (disarmStation d) else answer .disarm .moving d) p d

/-- DISARM addressed to 63 (R170). -/
def broadcastDisarm (d : Device) : Device := doIf (inWeave d && stalledNow d) disarmStation d

/-! ## TEST BEGIN, TEST STEP, TEST END, TRAIN (R139, R141, R143) -/

/-- The test pattern of a code (5.9), or none. -/
def patternOf (n : Nat) : Option TestPattern :=
  match n with
  | 0 => some .allDown
  | 1 => some .allUp
  | 2 => some .checker
  | 3 => some .walk
  | 4 => some .row
  | _ => none

/-- An accepted TEST BEGIN (R139). -/
def beginTest (t : TestPattern) (row : Nat) (d : Device) : Device :=
  setState .test (onStrings (fun g => { g with test := ⟨some t, row, 0, .idle⟩ }) (freshStrings (dropAll d)))

/-- TEST BEGIN past the state test (R139). -/
def runTestBegin (p : List Byte) (d : Device) : Device :=
  if isWeft d then answer .testBegin .role d
  else
    match patternOf (fieldAt p 0 1) with
    | none => answer .testBegin .range d
    | some t =>
      if p.length ≠ 3 ∨ (t = .row ∧ 16383 < fieldAt p 1 2) then answer .testBegin .range d
      else answer .testBegin .done (beginTest t (fieldAt p 1 2) d)

/-- Whether a stepped operation is in flight (R141). -/
def stepInFlight (d : Device) : Bool := decide (d.strings.test.op ≠ .idle)

/-- Steps 1 to 4 of an accepted TEST STEP (R141; log 28). -/
def startStep (d : Device) : Device :=
  let d := wakePower (onStrings (fun g => { g with
      mode := .test, blank := false, captureDone := false, missTested := true
      test := { g.test with op := .inFlight .fetch } }) (freshStrings (dropAll d)))
  match d.strings.test.pattern with
  | some .row => startTestFetch d.strings.test.row d
  | some t => stepFires (shiftAll (fun _ => testBits t d.strings.test.step) d)
  | none => d

/-- TEST STEP past the state test (R141): an accepted one is answered at its completion. -/
def runTestStep (p : List Byte) (d : Device) : Device :=
  withLength .testStep 0 (fun d =>
    if stalledNow d = false then answer .testStep .moving d
    else if stepInFlight d then answer .testStep .busy d
    else startStep d) p d

/-- TEST END past the state test (R139). -/
def runTestEnd (p : List Byte) (d : Device) : Device :=
  withLength .testEnd 0 (fun d => answer .testEnd .done (enterReady (leaveTest d))) p d

/-- TRAIN past the state test (R143). -/
def runTrain (armature : BitVec 8) (p : List Byte) (d : Device) : Device :=
  if isWeft d then answer .train .role d
  else
    withLength .train 0 (fun d =>
      if stalledNow d then answer .train .done (startTraining armature d) else answer .train .moving d) p d

/-! ## Reading the station (R14, R110, R138, R175 to R177) -/

/-- L_s and the training result of one of eight strings as STATUS reports them (R175 item 7). -/
def stringStatus (d : Device) (i : Nat) : List Byte :=
  match d.strings.strings[i]? with
  | some s => if i < stringCount d then be16 (s.latency.getD 0) ++ [byte (trainCode s.result)] else [0#8, 0#8, 0#8]
  | none => [0#8, 0#8, 0#8]

/-- The nine line counters in their order (R90). -/
def counterBytes (c : Counters) : List Byte :=
  be16 c.goodFrames ++ be16 c.checkErrors ++ be16 c.parityFraming ++ be16 c.overruns ++ be16 c.abandoned
    ++ be16 c.collisionLimits ++ be16 c.beaconsLate ++ be16 c.requestsDropped ++ be16 c.holdsSeen

/-- A position as replies carry it: run, iteration, row, whole piece count. -/
def positionBytes (p : Position) : List Byte := byte p.run :: be16 p.iteration ++ be16 p.row ++ be24 p.piece

/-- The 70 bytes of STATUS (R175, 5.9). -/
def statusData (d : Device) : List Byte :=
  [byte (stateCode d.control.state), byte (roleCode d.control.role), byte d.control.number]
    ++ be16 d.tracker.angle
    ++ [byte (bit d.tracker.referenced 0), byte (speedCode d.tracker.speed)]
    ++ be24 (d.tracker.span.getD 0)
    ++ [byte (directionCode d.tracker.dir)] ++ be16 d.tracker.stationary
    ++ [byte (powerCode d.strings.power)]
    ++ positionBytes d.seq.pos
    ++ [byte (bit d.seq.void 0), byte d.seq.history.length, byte d.roster.entries.length, byte d.strings.faults.length,
      byte (retentionCode d.control.retention)]
    ++ ((List.range 8).map (stringStatus d)).flatten
    ++ counterBytes d.line.counters
    ++ [byte (bit d.line.stuck 0)]

def runStatus (p : List Byte) (d : Device) : Device :=
  withLength .status 0 (fun d => answerData .status .done (statusData d) d) p d

/-- The data of FLAGS TAKE (R176). -/
def flagsData (d : Device) : List Byte := be32 d.control.flags.toNat ++ be16 (d.store.lastDamaged.getD 0xFFFF)

def runFlagsTake (p : List Byte) (d : Device) : Device :=
  withLength .flagsTake 0 (fun d => answerData .flagsTake .done (flagsData d) (clearFlags d)) p d

/-- One entry of FAULT LIST READ (5.9). -/
def faultBytes (e : FaultEntry) : List Byte :=
  be16 e.hook ++ byte (faultCode e.kind) :: positionBytes e.pos ++ [byte e.occurrences]

/-- The data of FAULT LIST READ (R138). -/
def faultListData (first : Nat) (d : Device) : List Byte :=
  byte d.strings.faults.length :: be16 d.strings.overflow
    ++ (((d.strings.faults.drop first).take 12).map faultBytes).flatten

/-- FAULT LIST READ past the state test (R138). -/
def runFaultListRead (p : List Byte) (d : Device) : Device :=
  if isWeft d then answer .faultListRead .role d
  else if p.length ≠ 1 ∨ 31 < fieldAt p 0 1 then answer .faultListRead .range d
  else answerData .faultListRead .done (faultListData (fieldAt p 0 1) d) d

def clearFaultList (d : Device) : Device := onStrings (fun g => { g with faults := [], overflow := 0 }) d

/-- FAULT LIST CLEAR past the state test (R138). -/
def runFaultListClear (p : List Byte) (d : Device) : Device :=
  if isWeft d then answer .faultListClear .role d
  else withLength .faultListClear 0 (fun d => answer .faultListClear .done (clearFaultList d)) p d

/-- One entry of HISTORY READ (5.9). -/
def historyBytes (e : HistoryEntry) : List Byte :=
  positionBytes e.pos ++ [byte (bit e.void 0 + bit (decide (e.kind = .again)) 1 + bit e.toggle 2), byte e.weft]
    ++ be16 e.lift ++ [byte (fingerCode e.finger)]

/-- The data of HISTORY READ (R175). -/
def historyData (first : Nat) (d : Device) : List Byte :=
  byte d.seq.history.length :: (((d.seq.history.drop first).take 11).map historyBytes).flatten

/-- HISTORY READ past the state test (R175). -/
def runHistoryRead (p : List Byte) (d : Device) : Device :=
  if p.length ≠ 1 ∨ 23 < fieldAt p 0 1 then answer .historyRead .range d
  else answerData .historyRead .done (historyData (fieldAt p 0 1) d) d

/-- One entry of ROSTER READ (5.9, R110). -/
def rosterBytes (e : RosterEntry) : List Byte :=
  [byte e.station, byte (roleCode e.role), byte (stateCode e.state), byte e.pos.run] ++ be16 e.pos.iteration
    ++ be16 e.pos.row ++ be16 e.pos.pieceLow ++ be16 e.lift ++ be16 e.capacity
    ++ [byte e.weft, byte e.misses, byte (bit e.heard 0 + bit e.lapsed 1 + bit (decide (e.state ≠ .weave)) 2)]

/-- The data of ROSTER READ (R175). -/
def rosterData (first : Nat) (d : Device) : List Byte :=
  byte d.roster.entries.length
    :: (((d.roster.entries.filter fun e => decide (first ≤ e.station)).take 8).map rosterBytes).flatten

/-- ROSTER READ past the state test (R175). -/
def runRosterRead (p : List Byte) (d : Device) : Device :=
  if p.length ≠ 1 ∨ 31 < fieldAt p 0 1 then answer .rosterRead .range d
  else answerData .rosterRead .done (rosterData (fieldAt p 0 1) d) d

/-- NOTICE MASK past the state test (R177). -/
def runNoticeMask (p : List Byte) (d : Device) : Device :=
  if p.length ≠ 4 ∨ 2 ^ 30 ≤ fieldAt p 0 4 then answer .noticeMask .range d
  else answer .noticeMask .done (onControl (fun c => { c with mask := BitVec.ofNat 30 (fieldAt p 0 4) }) d)

/-! ## RESET (R179) -/

/-- RESET addressed to the station: DONE, and the reset waits for that reply to leave the slot. -/
def runReset (p : List Byte) (d : Device) : Device :=
  withLength .reset 0 (fun d =>
    onControl (fun c => { c with resetPending := some 0 }) (answer .reset .done d)) p d

end Sys2Proof.Machine
end

