-- ==== Sys2Proof/Machine/Time.lean ====
section
/-! DEFINITION. Fine time (00, units: ticks of 0.25 us): what `dt` ticks do to the timers of the station, and the commands
that fall due when a timer is at its end. Every timer stops at its end (log 2, log 4). -/

namespace Sys2Proof.Machine

/-! ## The ends of the timers, in ticks -/

/-- The stall expiry (R8, R11). -/
def stallTicks : Nat := 1048576

/-- One second (R11). -/
def secondTicks : Nat := 4000000

/-- A row fetch, 50 us (R64). -/
def fetchTicks : Nat := 200

/-- A hold pulse, 32 bt (R86). -/
def pulseTicks : Nat := 64

/-- The wake time of string power, 20 ms (R127). -/
def wakeTicks : Nat := 80000

/-- From energising to capture in a stepped test, 50 ms (R141). -/
def stepTicks : Nat := 200000

/-- The rest between trials, 5 ms (R145). -/
def restTicks : Nat := 20000

/-- From the execution of RESET to the reset at the latest, 100 ms (R179). -/
def replyTicks : Nat := 400000

/-- The pulse time P (R126), in ticks. -/
def inrushTicks (d : Device) : Nat := 4 * (d.control.config.map (·.p)).getD 0

/-! ## Letting time pass -/

/-- `dt` more ticks on a timer that stops at `top`. -/
def runTimer (top dt t : Nat) : Nat := min (t + dt) top

/-- The span timer, or in STALLED the second of the stationary time (R8, R11). -/
def elapseTracker (dt : Nat) (t : Tracker) : Tracker :=
  if t.speed = .stalled then { t with secondTimer := runTimer secondTicks dt t.secondTimer }
  else { t with spanTimer := runTimer stallTicks dt t.spanTimer }

def elapseFetch (dt : Nat) : Fetch → Fetch
  | .idle => .idle
  | .fetching row purpose t => .fetching row purpose (runTimer fetchTicks dt t)

def elapseTx (dt : Nat) : Tx → Tx
  | .pulse t => .pulse (runTimer pulseTicks dt t)
  | .idle => .idle
  | .sending slot chars => .sending slot chars

/-- The whole bit times in `t` ticks, and whether half a one is left. -/
def bitTimes (half : Bool) (t : Nat) : Nat × Bool :=
  let t' := t + (if half then 1 else 0)
  (t' / 2, decide (t' % 2 = 1))

/-- The line is measured for the bit times of a run (R74): the first recessive one ends a dominant run, and its mark with it. -/
def measureRun (l : Line) : LineRun → Line
  | .dominant n => if n = 0 then l else { l with recessiveRun := 0, dominantRun := min (l.dominantRun + n) 2001 }
  | .recessive n =>
    if n = 0 then l
    else { judgeStopBit l with recessiveRun := min (l.recessiveRun + n) 1000, dominantRun := 0, ownPulse := false }

/-- The line is measured over runs one after another. -/
def measureRuns (rs : List LineRun) (l : Line) : Line := rs.foldl measureRun l

/-- What the other nodes do in the first `n` bit times; they leave the line recessive after their last run. -/
def takeRuns (n : Nat) : List LineRun → List LineRun
  | [] => [.recessive n]
  | .recessive k :: rs => if k < n then .recessive k :: takeRuns (n - k) rs else [.recessive n]
  | .dominant k :: rs => if k < n then .dominant k :: takeRuns (n - k) rs else [.dominant n]

/-- What they do after the first `n` bit times. -/
def dropRuns (n : Nat) : List LineRun → List LineRun
  | [] => []
  | .recessive k :: rs => if k < n then dropRuns (n - k) rs else .recessive (k - n) :: rs
  | .dominant k :: rs => if k < n then dropRuns (n - k) rs else .dominant (k - n) :: rs

/-- Whether another node drives the line in the next bit time. -/
def othersDominant : List LineRun → Bool
  | [] => false
  | .recessive k :: rs => k = 0 && othersDominant rs
  | .dominant k :: rs => k ≠ 0 || othersDominant rs

/-- `n` bit times of this station's frame, of which `bits` are still to be driven, against the other nodes (R84): a bit that passes
is counted; from a recessive bit that another node holds dominant on, and after the last one, the line is theirs. -/
def sendBits : List Bool → Nat → List LineRun → Line → Line
  | _, 0, _, l => l
  | [], n, others, l => measureRuns (takeRuns n others) l
  | b :: bits, n + 1, others, l =>
    if b && othersDominant others then measureRuns (takeRuns (n + 1) others) { l with held := true }
    else
      let l := measureRun l (if b then .recessive 1 else .dominant 1)
      sendBits bits n (dropRuns 1 others) { l with sentBits := l.sentBits + 1 }

/-- The bits of the frame being sent that have not passed. -/
def bitsToSend (chars : List Byte) (l : Line) : List Bool :=
  ((chars.map soundChar).flatMap charBits).drop l.sentBits

/-- The line as it stands over `n` bit times (R74), whoever drives it: dominant where another node or this station does. -/
def measureLine (n pulse : Nat) (others : List LineRun) (l : Line) : Line :=
  match l.tx with
  | .idle => measureRuns (takeRuns n others) l
  | .pulse _ => measureRuns (takeRuns n (.dominant pulse :: dropRuns pulse others)) l
  | .sending _ chars =>
    if l.held then measureRuns (takeRuns n others) l else sendBits (bitsToSend chars l) n others l

/-- The bit times of `dt` ticks in which this station's pulse is still driven (R86). -/
def pulseBits (dt : Nat) (l : Line) : Nat :=
  match l.tx with
  | .pulse t => (bitTimes l.halfBit (runTimer pulseTicks dt t - t)).1
  | _ => 0

/-- The runs over `dt` ticks, in which the other nodes do as `others` says (R74; log 7). -/
def elapseRuns (dt : Nat) (others : List LineRun) (l : Line) : Line :=
  { measureLine (bitTimes l.halfBit dt).1 (pulseBits dt l) others l with halfBit := (bitTimes l.halfBit dt).2 }

def elapsePower (dt : Nat) : Power → Power
  | .waking t => .waking (runTimer wakeTicks dt t)
  | .off => .off
  | .on => .on

def elapseDrive (top dt : Nat) : Drive → Drive
  | .inrush t => .inrush (runTimer top dt t)
  | .off => .off
  | .hold => .hold

def elapseStep (dt : Nat) : SteppedOp → SteppedOp
  | .inFlight (.energised t) => .inFlight (.energised (runTimer stepTicks dt t))
  | op => op

/-- The end of the trial or rest under way (R145). -/
def trainerEnd (t : Trainer) : Nat :=
  match t.phase with
  | .trial => 4 * t.delay
  | .rest => restTicks
  | _ => 0

def elapseTrainer (dt : Nat) (t : Trainer) : Trainer :=
  match t.phase with
  | .trial => { t with timer := runTimer (trainerEnd t) dt t.timer }
  | .rest => { t with timer := runTimer (trainerEnd t) dt t.timer }
  | _ => t

/-- `dt` ticks pass at every block, in which the other nodes of the line do as `others` says. -/
def elapse (dt : Nat) (others : List LineRun) (d : Device) : Device :=
  onControl (fun c => { c with resetPending := c.resetPending.map (runTimer replyTicks dt) })
    (onTrainer (elapseTrainer dt)
      (onStrings (fun g => { g with
          power := elapsePower dt g.power
          strings := g.strings.map fun s => { s with drive := elapseDrive (inrushTicks d) dt s.drive }
          test := { g.test with op := elapseStep dt g.test.op } })
        (onLine (fun l => { elapseRuns dt others l with tx := elapseTx dt l.tx })
          (onStore (fun s => { s with fetch := elapseFetch dt s.fetch })
            (onTracker (elapseTracker dt) d)))))

/-- What has passed since the last event: the ticks at every block, with the line as the other nodes drove it, and the strap pins
where they have been changed. -/
def pass (p : Lapse) (d : Device) : Device :=
  let d := elapse p.ticks p.line d
  match p.straps with
  | some x => onPins (fun q => { q with strapNumber := x.1, strapRole := x.2 }) d
  | none => d

/-! ## What falls due -/

def dueWhen (c : Bool) (i : Instr) : List Instr := if c then [i] else []

/-- The strings whose inrush has run its P (R126). -/
def inrushDue (d : Device) : List Instr :=
  (d.strings.strings.mapIdx fun i s =>
    match s.drive with
    | .inrush t => dueWhen (decide (inrushTicks d ≤ t)) (.inrushEnd i)
    | _ => []).flatten

/-- The events of the shaft's, the store's, the line's and the reset's timers that stand at their end. -/
def timersDue (d : Device) : List Instr :=
  dueWhen (decide (d.tracker.speed ≠ .stalled) && decide (stallTicks ≤ d.tracker.spanTimer)) .stallExpiry
    ++ dueWhen (decide (d.tracker.speed = .stalled) && decide (secondTicks ≤ d.tracker.secondTimer)) .stationarySecond
    ++ (match d.store.fetch with
      | .fetching _ _ t => dueWhen (decide (fetchTicks ≤ t)) (.fetchComplete [])
      | .idle => [])
    ++ (match d.line.tx with
      | .pulse t => dueWhen (decide (pulseTicks ≤ t)) .pulseEnd
      | _ => [])
    ++ dueWhen (d.control.resetPending.any fun t => decide (replyTicks ≤ t)) .resetReplyTimeout

/-- The events of the strings' timers that stand at their end, with the inputs as the pins hold them. -/
def stringsDue (d : Device) : List Instr :=
  (match d.strings.power with
    | .waking t => dueWhen (decide (wakeTicks ≤ t)) (.wakeTimeEnd d.pins.armature)
    | _ => [])
    ++ inrushDue d
    ++ (match d.strings.test.op with
      | .inFlight (.energised t) => dueWhen (decide (stepTicks ≤ t)) (.testStepCapture d.pins.sense)
      | _ => [])
    ++ (match d.trainer.phase with
      | .trial =>
        dueWhen (decide (trainerEnd d.trainer ≤ d.trainer.timer)) (.trialSample (d.pins.armature.getLsbD d.trainer.cur))
      | .rest => dueWhen (decide (trainerEnd d.trainer ≤ d.trainer.timer)) (.restEnd d.pins.armature)
      | _ => [])

/-- The commands fallen due, in this order (log 34). -/
def due (d : Device) : List Instr := timersDue d ++ stringsDue d

end Sys2Proof.Machine
end

