-- ==== Sys2Proof/Machine/TrackerOps.lean ====
section
/-! DEFINITION. The shaft tracker (ch. 1): counting steps, spans, speed states, crossings, the index check, the stall; and
the order in which a counting step reaches the other blocks (R1; log 22, 24, 31, 36). -/

namespace Sys2Proof.Machine

/-! ## Spans and speed states (R8 to R12) -/

/-- The fall of RUN and FAST to CREEP at a direction change or a new reference (R3, R4, R9). -/
def slowed : Speed → Speed
  | .stalled => .stalled
  | _ => .creep

/-- Two unsettled spans remain, and RUN or FAST is CREEP (R3, R4, R9). -/
def unsettle (t : Tracker) : Tracker := { t with unsettled := 2, speed := slowed t.speed }

/-- The step is the anchor of a new span (R8). -/
def anchored (t : Tracker) : Tracker := { t with spanCounts := some 0, spanTimer := 0 }

/-- The speed state at a completed span (R10); `before` is the unsettled count before it. -/
def speedAfter (cfg : Option Configuration) (before s : Nat) : Speed :=
  match cfg with
  | none => .creep
  | some c =>
    if 0 < before then .creep
    else if c.sCreep < s then .creep
    else if s < c.sFast then .fast
    else .run

/-- The measured span: the ticks from the anchor, taken as 1 if fewer, below the stall expiry (R8). -/
def spanOf (t : Tracker) : Nat := min (max t.spanTimer 1) 1048575

/-- The sixteenth count completes the span (R8, R9, R10). -/
def completeSpan (cfg : Option Configuration) (t : Tracker) : Tracker :=
  anchored { t with
    span := some (spanOf t)
    unsettled := t.unsettled - 1
    speed := speedAfter cfg t.unsettled (spanOf t) }

/-- A counting step in the direction held, outside STALLED: an anchor where no span is in progress, else one count (R8). -/
def countSpan (cfg : Option Configuration) (t : Tracker) : Tracker :=
  match t.spanCounts with
  | none => anchored t
  | some n => if n + 1 < 16 then { t with spanCounts := some (n + 1) } else completeSpan cfg t

/-- Whether a counting step is a direction change (R1). -/
def turns (dir : Direction) (t : Tracker) : Bool := decide (dir ≠ t.dir)

/-- Whether a counting step completes a span (R8). -/
def completes (dir : Direction) (t : Tracker) : Bool :=
  decide (t.speed ≠ .stalled) && !turns dir t && t.spanCounts.any fun n => decide (16 ≤ n + 1)

/-- The first counting step after a stall (R12). -/
def endStall (t : Tracker) : Tracker := anchored { t with speed := .creep, stationary := 0, secondTimer := 0 }

/-- Span, unsettled count, speed state and direction after a counting step (R8, R9, R12). -/
def stepSpan (cfg : Option Configuration) (dir : Direction) (t : Tracker) : Tracker :=
  let t' := { t with dir := dir }
  if t.speed = .stalled then endStall (if turns dir t then unsettle t' else t')
  else if turns dir t then anchored (unsettle t')
  else countSpan cfg t'

/-- The index distance after a counting step: kept while REFERENCED (R5). -/
def stepDistance (dir : Direction) (t : Tracker) : Int :=
  if t.referenced then
    match dir with
    | .forward => t.indexDist + 1
    | .reverse => t.indexDist - 1
  else t.indexDist

/-- R1 steps 1 and 2: the counter moves, then direction, index distance and span are brought up to date. -/
def stepTracker (cfg : Option Configuration) (dir : Direction) (t : Tracker) : Tracker :=
  stepSpan cfg dir { t with
    angle := stepAngle dir t.angle
    phase := (match dir with
      | .forward => t.phase + 1#2
      | .reverse => t.phase - 1#2)
    indexDist := stepDistance dir t }

/-! ## Crossing events (R6, R7) -/

/-- A forward B crossing. In WEAVE the pick sequencer takes it first, then the string driver, which opens its pick, and the
fire timer (R40, R112, R129; log 21); in TEST the string driver opens a test pick (R140). -/
def forwardB (c : Configuration) (d : Device) : Device :=
  match d.control.state with
  | .weave =>
    let d := seqForwardB d
    doIf (isSection d) (fun d => fireIdle (openForwardPick d)) d
  | .test => doIf (decide (d.strings.test.op = .idle)) (openTestPick c.w) d
  | _ => d

/-- A reverse B crossing, in WEAVE (R52, R53, R112, R136). The sequencer restores its pick first, so the hold of an outstanding
test for missed selections voids the restored pick (R46; log 21). -/
def reverseB (d : Device) : Device :=
  if inWeave d then
    let d := seqReverseB d
    doIf (isSection d) (fun d => fireIdle (openReversePick d)) d
  else d

/-- The forward G-end crossing (R48, R95). -/
def forwardGuardEnd (d : Device) : Device := beaconGuardPassed (closeGuard d)

/-- The forward K crossing at the string driver and the fire timer (R112, R132). -/
def forwardK (d : Device) : Device := fireForwardK (stringsForwardK d)

/-- The forward Fa crossing at the weft selector and, as the end of the beacon window, at the roster (R104, R157). -/
def forwardFa (d : Device) : Device := rosterClose (doIf (inWeave d) fingerAngle d)

/-- The crossings of a forward step onto the angle `a`; B before G-end where G = 0 (R7; log 31). -/
def forwardCrossings (c : Configuration) (role : Role) (a : Nat) (d : Device) : Device :=
  let d := doIf (decide (a = c.b)) (forwardB c) d
  let d := doIf (decide (a = guardEnd c)) forwardGuardEnd d
  match role with
  | .sectionRole =>
    let d := doIf (decide (a = c.c)) rosterClose d
    let d := doIf (decide (a = c.w)) stringsForwardW d
    let d := doIf (decide (a = c.k)) forwardK d
    doIf (decide (a = c.d)) stringsForwardD d
  | .weftRole =>
    let d := doIf (decide (a = c.fa)) forwardFa d
    let d := doIf (decide (a = c.ao)) arrivalOpen d
    doIf (decide (a = c.ac)) arrivalClose d

/-- The crossings of a reverse step onto the angle `a`. -/
def reverseCrossings (c : Configuration) (role : Role) (a : Nat) (d : Device) : Device :=
  let d := doIf (decide (a = c.b)) reverseB d
  match role with
  | .sectionRole =>
    let d := doIf (decide (a = c.d)) stringsReverseD d
    let d := doIf (decide (a = c.k)) stringsReverseK d
    doIf (decide (a = c.w)) stringsReverseW d
  | .weftRole => doIf (decide (a = c.fa)) reverseFingerAngle d

/-- The crossing events of a step: raised while REFERENCED and after CONFIGURE (R6). -/
def crossings (dir : Direction) (d : Device) : Device :=
  match d.control.config with
  | none => d
  | some c =>
    if d.tracker.referenced then
      match dir with
      | .forward => forwardCrossings c d.control.role d.tracker.angle d
      | .reverse => reverseCrossings c d.control.role d.tracker.angle d
    else d

/-! ## The index (R3, R4, R5) -/

/-- A change of the tracker that sets two unsettled spans, handed to the fire timer when it leaves FAST (R122). -/
def unsettling (f : Tracker → Tracker) (d : Device) : Device :=
  doIf (decide (d.tracker.speed = .fast)) fireLeavesFast (onTracker (fun t => unsettle (f t)) d)

/-- The first index edge while UNREFERENCED: a new reference (R3). -/
def reference (i : Nat) (d : Device) : Device :=
  unsettling (fun t => { t with angle := i, referenced := true, indexDist := 0 }) d

/-- The difference between the counter and I, the shorter way round (R4). -/
def indexError (i a : Nat) : Nat := min (arc a i) (arc i a)

/-- An index edge while REFERENCED (R4, R48). -/
def checkIndex (i : Nat) (d : Device) : Device :=
  let e := indexError i d.tracker.angle
  let d := onTracker (fun t => { t with indexDist := 0 }) d
  if e = 0 then d
  else if e ≤ 2 then closeGuard (onTracker (fun t => { t with angle := i }) d)
  else ownHold (setFlag .angleSlip (closeGuard (unsettling (fun t => { t with angle := i }) d)))

/-- An index edge (R3, R4): not acted on before CONFIGURE. -/
def takeIndexEdge (d : Device) : Device :=
  match d.control.config with
  | none => d
  | some c => if d.tracker.referenced then checkIndex c.index d else reference c.index d

/-- INDEX MISSING when a step brings the index distance to 8,256 either way (R5, R48). -/
def checkDistance (d : Device) : Device :=
  if d.tracker.referenced && decide (8256 ≤ d.tracker.indexDist.natAbs) then
    ownHold (setFlag .indexMissing (closeGuard
      (onTracker (fun t => { t with referenced := false, indexDist := 0 }) d)))
  else d

/-! ## The counting step (R1) -/

/-- The change of speed state of a step, handed to the fire timer: the completed span (R116, R121), or the fall from FAST
(R122); and the FAST flag (R10). -/
def handSpeed (before : Speed) (completed : Bool) (d : Device) : Device :=
  let d := doIf (decide (before ≠ .fast) && decide (d.tracker.speed = .fast)) (setFlag .fast) d
  if completed then
    match d.tracker.span with
    | some s => fireSpan s d
    | none => d
  else doIf (decide (before = .fast) && decide (d.tracker.speed ≠ .fast)) fireLeavesFast d

/-- The counting step at the string driver and the trainer: string power wakes in READY, WEAVE and TEST (R127), in TRAIN the
run is abandoned and the station is READY (R148). -/
def handMotion (d : Device) : Device :=
  match d.control.state with
  | .ready => wakePower d
  | .weave => wakePower d
  | .test => wakePower d
  | .train => enterReady (abandonTraining d)
  | _ => d

/-- A counting step handed to the blocks (R1 steps 3 and 4), `before` being the tracker as the step found it. -/
def handStep (before : Tracker) (dir : Direction) (index : Bool) (d : Device) : Device :=
  let d := doIf (turns dir before) turnPick d
  let d := handSpeed before.speed (completes dir before) d
  let d := handMotion d
  let d := doIf (decide (dir = .forward)) (stringsAtAngle d.tracker.angle) d
  let d := checkDistance (crossings dir d)
  doIf index takeIndexEdge d

/-- A counting step in a direction (R1). -/
def takeStep (dir : Direction) (index : Bool) (d : Device) : Device :=
  handStep d.tracker dir index (onTracker (stepTracker d.control.config dir) d)

/-- The direction that a new phase gives against the decoder state, or none where it is no single-channel change (R1, R2). -/
def directionOf (old new : BitVec 2) : Option Direction :=
  if new = old + 1#2 then some .forward else if new = old - 1#2 then some .reverse else none

/-- A change of the level pair: a counting step, or nothing where the levels are no neighbours of those last accepted (log 5);
`dt` has passed since the last event and the sense inputs stand as given (log 3, 10). -/
def shaftStep (a b index : Bool) (dt : Lapse) (sense : List StringBits) (d : Device) : Device :=
  match directionOf d.tracker.phase (phaseOf a b) with
  | some dir => takeStep dir index (onPins (fun p => { p with sense := sense }) (pass dt d))
  | none => d

/-- An encoder glitch (R2). -/
def glitch (dt : Lapse) (d : Device) : Device :=
  setFlag .encoderGlitch
    (onTracker (fun t => { t with phase := t.phase + 2#2, spanCounts := none, spanTimer := 0 }) (pass dt d))

/-! ## The stall (R11) -/

/-- The stall expiry, outside STALLED (R11, R122). -/
def stalls (d : Device) : Device :=
  if d.tracker.speed = .stalled then d
  else
    doIf (decide (d.tracker.speed = .fast)) fireLeavesFast
      (onTracker (fun t => { t with
        speed := .stalled, spanCounts := none, unsettled := 2, stationary := 0, secondTimer := 0 }) d)

/-- A second of the stationary time, in STALLED, with the dwell test (R11, R127). -/
def stationaryRises (d : Device) : Device :=
  if d.tracker.speed = .stalled then
    dwellTest (onTracker (fun t => { t with stationary := satInc 600 t.stationary, secondTimer := 0 }) d)
  else d

end Sys2Proof.Machine
end

