-- ==== Sys2Proof/Machine/Commands.lean ====
section
/-! DEFINITION. How a command acts: on the station while main power is present, on nothing without it (log 15). -/

namespace Sys2Proof.Machine

/-- A command's effect on the station, while main power is present. -/
def act (f : Device → Device) (s : State) : State := if s.dev.control.powered then { s with dev := f s.dev } else s

/-- A command completes: its effect, and nothing stops. -/
def completed (f : Device → Device) (s : State) : Host.Outcome State Fault Refusal := .next (act f s)

end Sys2Proof.Machine
end

