-- ==== Sys2Proof/Machine/LineCommands.lean ====
section
/-! DEFINITION. The meanings of the head line's commands and of the frames taken from the receive queue that are no requests
(ch. 5, 6). -/

namespace Sys2Proof.Machine

/-- Another node's hold is counted, flagged and handed to the pick sequencer (R45, R87). -/
def othersHold (d : Device) : Device :=
  lineHold (setFlag .holdSeen (count (fun c => { c with holdsSeen := inc16 c.holdsSeen }) d))

/-- A dominant run reaches 22 bt (R77, R87): the frame in assembly is discarded with no error count, and where the run's own-pulse
mark is clear the hold is another node's. That one run is detected at most once is the sender's to keep (log 8). -/
def detectHold (d : Device) : Device :=
  doIf (!d.line.ownPulse) othersHold (setReceiver .hunt (measuredDominant 22 d))

/-- FRAME_MARK (R76). -/
def execFrameMark (recessive : Nat) (first : LineChar) (second : Option LineChar) (s : State) :
    Host.Outcome State Fault Refusal := completed (receiveMark recessive first second) s

/-- FRAME_RECEIVED (R77, R78, R79). -/
def execFrameReceived (chars : List LineChar) (s : State) : Host.Outcome State Fault Refusal :=
  completed (receiveChars chars) s

/-- RECEIVE_GAP (R77). -/
def execReceiveGap (s : State) : Host.Outcome State Fault Refusal := completed receiveGap s

/-- HOLD_DETECTED (R87). -/
def execHoldDetected (s : State) : Host.Outcome State Fault Refusal := completed detectHold s

/-- LINE_STUCK (R89). -/
def execLineStuck (s : State) : Host.Outcome State Fault Refusal := completed lineSticks s

/-- LINE_CLEAR (R89). -/
def execLineClear (s : State) : Host.Outcome State Fault Refusal := completed lineClears s

/-- FRAME_START (R83). -/
def execFrameStart (recessive : Nat) (s : State) : Host.Outcome State Fault Refusal := completed (startFrame recessive) s

/-- ATTEMPT_ABANDONED (R84, R85). -/
def execAttemptAbandoned (s : State) : Host.Outcome State Fault Refusal := completed attemptAbandoned s

/-- FRAME_SENT (R84). -/
def execFrameSent (s : State) : Host.Outcome State Fault Refusal := completed frameSent s

/-- PULSE_END (R86). -/
def execPulseEnd (s : State) : Host.Outcome State Fault Refusal := completed endPulse s

/-- BEACON_TAKEN (R100, R101). -/
def execBeaconTaken (s : State) : Host.Outcome State Fault Refusal := completed takeBeaconFrame s

/-- FRAME_DISCARDED (R80). -/
def execFrameDiscarded (s : State) : Host.Outcome State Fault Refusal := completed discardFrame s

end Sys2Proof.Machine
end

