-- ==== Sys2Proof/Machine/OutputCommands.lean ====
section
/-! DEFINITION. The meanings of the commands of the design store, the strings, the trainer and the weft selector (ch. 4, 8, 9,
10). -/

namespace Sys2Proof.Machine

/-- FETCH_COMPLETE (R66). -/
def execFetchComplete (upset : List Host.Cell) (s : State) : Host.Outcome State Fault Refusal :=
  completed (fetchCompletes upset) s

/-- WAKE_TIME_END (R127). -/
def execWakeTimeEnd (armature : BitVec 8) (s : State) : Host.Outcome State Fault Refusal :=
  completed (powerComesOn armature) s

/-- INRUSH_END (R126). -/
def execInrushEnd (string : Nat) (s : State) : Host.Outcome State Fault Refusal := completed (inrushEnds string) s

/-- TEST_STEP_CAPTURE (R141). -/
def execTestStepCapture (sense : List StringBits) (s : State) : Host.Outcome State Fault Refusal :=
  completed (stepCaptured sense) s

/-- TRIAL_SAMPLE (R145). -/
def execTrialSample (held : Bool) (s : State) : Host.Outcome State Fault Refusal := completed (sampleTrial held) s

/-- REST_END (R145). -/
def execRestEnd (armature : BitVec 8) (s : State) : Host.Outcome State Fault Refusal := completed (endRest armature) s

/-- WEFT_DETECTOR_PULSE (R159). -/
def execWeftDetectorPulse (s : State) : Host.Outcome State Fault Refusal := completed detectorPulse s

/-- FEEDER_STOP_INPUT (R160). -/
def execFeederStopInput (finger : Nat) (active : Bool) (s : State) : Host.Outcome State Fault Refusal :=
  completed (feederInput finger active) s

end Sys2Proof.Machine
end

