-- ==== Sys2Proof/Machine/PowerCommands.lean ====
section
/-! DEFINITION. The meanings of the commands of power, reset and the backup domain (12.7, 12.8). -/

namespace Sys2Proof.Machine

/-- POWER_ON (R178, R180), the one command that acts without main power. -/
def execPowerOn (number : Nat) (role : Role) (a b backupHeld : Bool) (backup : Option RetainedRecord)
    (sram : List Host.Cell) (s : State) : Host.Outcome State Fault Refusal :=
  .next { s with dev := powerOnReset number role a b backupHeld backup sram s.dev }

/-- RESET_PIN (R180). -/
def execResetPin (number : Nat) (role : Role) (a b : Bool) (s : State) : Host.Outcome State Fault Refusal :=
  completed (pinReset number role a b) s

/-- RESET_REPLY_TIMEOUT (R179). -/
def execResetReplyTimeout (s : State) : Host.Outcome State Fault Refusal := completed resetTimesOut s

/-- POWER_FAIL (R178). -/
def execPowerFail (s : State) : Host.Outcome State Fault Refusal := completed powerFails s

/-- RETAINED_WRITE_DONE (R178). -/
def execRetainedWriteDone (s : State) : Host.Outcome State Fault Refusal := completed retainedWritten s

end Sys2Proof.Machine
end

