-- ==== Sys2Proof/Machine/RequestCommands.lean ====
section
/-! DEFINITION. The meanings of the terminal's requests (ch. 12): each takes its frame from the head of the receive queue. -/

namespace Sys2Proof.Machine

/-- CONFIGURE (R171, R172). -/
def execConfigure (s : State) : Host.Outcome State Fault Refusal :=
  completed (takeRequest .configure discarded runConfigure) s

/-- ROW_WRITE (R61). -/
def execRowWrite (s : State) : Host.Outcome State Fault Refusal :=
  completed (takeRequest .rowWrite discarded runRowWrite) s

/-- ROW_READ (R63). -/
def execRowRead (s : State) : Host.Outcome State Fault Refusal :=
  completed (takeRequest .rowRead discarded runRowRead) s

/-- RUN_WRITE (R18). -/
def execRunWrite (s : State) : Host.Outcome State Fault Refusal :=
  completed (takeRequest .runWrite discarded runRunWrite) s

/-- MATCH_WRITE (R164). -/
def execMatchWrite (s : State) : Host.Outcome State Fault Refusal :=
  completed (takeRequest .matchWrite discarded runMatchWrite) s

/-- WEFT_MAP_WRITE (R152). -/
def execWeftMapWrite (s : State) : Host.Outcome State Fault Refusal :=
  completed (takeRequest .weftMapWrite discarded runWeftMapWrite) s

/-- LOAD_DONE (R29 to R34). -/
def execLoadDone (s : State) : Host.Outcome State Fault Refusal :=
  completed (takeRequest .loadDone discarded runLoadDone) s

/-- POSITION_SET (R173). -/
def execPositionSet (s : State) : Host.Outcome State Fault Refusal :=
  completed (takeRequest .positionSet discarded runPositionSet) s

/-- POSITION_RESUME (R173). -/
def execPositionResume (s : State) : Host.Outcome State Fault Refusal :=
  completed (takeRequest .positionResume discarded runPositionResume) s

/-- ARM (R174). -/
def execArm (s : State) : Host.Outcome State Fault Refusal :=
  completed (takeRequest .arm broadcastArm runArm) s

/-- DISARM (R174). -/
def execDisarm (s : State) : Host.Outcome State Fault Refusal :=
  completed (takeRequest .disarm broadcastDisarm runDisarm) s

/-- TEST_BEGIN (R139). -/
def execTestBegin (s : State) : Host.Outcome State Fault Refusal :=
  completed (takeRequest .testBegin discarded runTestBegin) s

/-- TEST_STEP (R141). -/
def execTestStep (s : State) : Host.Outcome State Fault Refusal :=
  completed (takeRequest .testStep discarded runTestStep) s

/-- TEST_END (R139). -/
def execTestEnd (s : State) : Host.Outcome State Fault Refusal :=
  completed (takeRequest .testEnd discarded runTestEnd) s

/-- TRAIN (R143). -/
def execTrain (armature : BitVec 8) (s : State) : Host.Outcome State Fault Refusal :=
  completed (takeRequest .train discarded (runTrain armature)) s

/-- STATUS (R175). -/
def execStatus (s : State) : Host.Outcome State Fault Refusal :=
  completed (takeRequest .status discarded runStatus) s

/-- FLAGS_TAKE (R176). -/
def execFlagsTake (s : State) : Host.Outcome State Fault Refusal :=
  completed (takeRequest .flagsTake discarded runFlagsTake) s

/-- FAULT_LIST_READ (R138). -/
def execFaultListRead (s : State) : Host.Outcome State Fault Refusal :=
  completed (takeRequest .faultListRead discarded runFaultListRead) s

/-- FAULT_LIST_CLEAR (R138). -/
def execFaultListClear (s : State) : Host.Outcome State Fault Refusal :=
  completed (takeRequest .faultListClear discarded runFaultListClear) s

/-- HISTORY_READ (R175). -/
def execHistoryRead (s : State) : Host.Outcome State Fault Refusal :=
  completed (takeRequest .historyRead discarded runHistoryRead) s

/-- ROSTER_READ (R175). -/
def execRosterRead (s : State) : Host.Outcome State Fault Refusal :=
  completed (takeRequest .rosterRead discarded runRosterRead) s

/-- NOTICE_MASK (R177). -/
def execNoticeMask (s : State) : Host.Outcome State Fault Refusal :=
  completed (takeRequest .noticeMask discarded runNoticeMask) s

/-- RESET (R179). -/
def execReset (s : State) : Host.Outcome State Fault Refusal :=
  completed (takeRequest .reset commandedReset runReset) s

end Sys2Proof.Machine
end

