-- ==== Sys2Proof/Machine/ShaftCommands.lean ====
section
/-! DEFINITION. The meanings of the shaft's commands (ch. 1). -/

namespace Sys2Proof.Machine

/-- COUNTING_STEP (R1). -/
def execCountingStep (a b index : Bool) (dt : Lapse) (sense : List StringBits) (s : State) :
    Host.Outcome State Fault Refusal := completed (shaftStep a b index dt sense) s

/-- ENCODER_GLITCH (R2). -/
def execEncoderGlitch (dt : Lapse) (s : State) : Host.Outcome State Fault Refusal := completed (glitch dt) s

/-- INDEX_EDGE (R3, R4). -/
def execIndexEdge (s : State) : Host.Outcome State Fault Refusal := completed takeIndexEdge s

/-- STALL_EXPIRY (R11). -/
def execStallExpiry (s : State) : Host.Outcome State Fault Refusal := completed stalls s

/-- STATIONARY_SECOND (R11). -/
def execStationarySecond (s : State) : Host.Outcome State Fault Refusal := completed stationaryRises s

end Sys2Proof.Machine
end

