-- ==== Sys2Proof/Machine/Dispatch.lean ====
section
/-! DEFINITION. The dispatch: one arm for each command, each a direct call of that command's meaning. -/

namespace Sys2Proof.Machine

def exec (i : Instr) (s : State) : Host.Outcome State Fault Refusal :=
  match i with
  | .countingStep a b index dt sense => Sys2Proof.Machine.execCountingStep a b index dt sense s
  | .encoderGlitch dt => Sys2Proof.Machine.execEncoderGlitch dt s
  | .indexEdge => Sys2Proof.Machine.execIndexEdge s
  | .stallExpiry => Sys2Proof.Machine.execStallExpiry s
  | .stationarySecond => Sys2Proof.Machine.execStationarySecond s
  | .pulseEnd => Sys2Proof.Machine.execPulseEnd s
  | .fetchComplete upset => Sys2Proof.Machine.execFetchComplete upset s
  | .frameReceived chars => Sys2Proof.Machine.execFrameReceived chars s
  | .receiveGap => Sys2Proof.Machine.execReceiveGap s
  | .holdDetected => Sys2Proof.Machine.execHoldDetected s
  | .lineStuck => Sys2Proof.Machine.execLineStuck s
  | .lineClear => Sys2Proof.Machine.execLineClear s
  | .frameStart recessive => Sys2Proof.Machine.execFrameStart recessive s
  | .attemptAbandoned => Sys2Proof.Machine.execAttemptAbandoned s
  | .frameSent => Sys2Proof.Machine.execFrameSent s
  | .resetReplyTimeout => Sys2Proof.Machine.execResetReplyTimeout s
  | .beaconTaken => Sys2Proof.Machine.execBeaconTaken s
  | .frameDiscarded => Sys2Proof.Machine.execFrameDiscarded s
  | .configure => Sys2Proof.Machine.execConfigure s
  | .rowWrite => Sys2Proof.Machine.execRowWrite s
  | .rowRead => Sys2Proof.Machine.execRowRead s
  | .runWrite => Sys2Proof.Machine.execRunWrite s
  | .matchWrite => Sys2Proof.Machine.execMatchWrite s
  | .weftMapWrite => Sys2Proof.Machine.execWeftMapWrite s
  | .loadDone => Sys2Proof.Machine.execLoadDone s
  | .positionSet => Sys2Proof.Machine.execPositionSet s
  | .positionResume => Sys2Proof.Machine.execPositionResume s
  | .arm => Sys2Proof.Machine.execArm s
  | .disarm => Sys2Proof.Machine.execDisarm s
  | .testBegin => Sys2Proof.Machine.execTestBegin s
  | .testStep => Sys2Proof.Machine.execTestStep s
  | .testStepCapture sense => Sys2Proof.Machine.execTestStepCapture sense s
  | .testEnd => Sys2Proof.Machine.execTestEnd s
  | .train armature => Sys2Proof.Machine.execTrain armature s
  | .trialSample held => Sys2Proof.Machine.execTrialSample held s
  | .restEnd armature => Sys2Proof.Machine.execRestEnd armature s
  | .status => Sys2Proof.Machine.execStatus s
  | .flagsTake => Sys2Proof.Machine.execFlagsTake s
  | .faultListRead => Sys2Proof.Machine.execFaultListRead s
  | .faultListClear => Sys2Proof.Machine.execFaultListClear s
  | .historyRead => Sys2Proof.Machine.execHistoryRead s
  | .rosterRead => Sys2Proof.Machine.execRosterRead s
  | .noticeMask => Sys2Proof.Machine.execNoticeMask s
  | .reset => Sys2Proof.Machine.execReset s
  | .wakeTimeEnd armature => Sys2Proof.Machine.execWakeTimeEnd armature s
  | .inrushEnd string => Sys2Proof.Machine.execInrushEnd string s
  | .weftDetectorPulse => Sys2Proof.Machine.execWeftDetectorPulse s
  | .feederStopInput finger active => Sys2Proof.Machine.execFeederStopInput finger active s
  | .powerOn number role a b backupHeld backup sram => Sys2Proof.Machine.execPowerOn number role a b backupHeld backup sram s
  | .resetPin number role a b => Sys2Proof.Machine.execResetPin number role a b s
  | .powerFail => Sys2Proof.Machine.execPowerFail s
  | .retainedWriteDone => Sys2Proof.Machine.execRetainedWriteDone s
  | .frameMark recessive first second => Sys2Proof.Machine.execFrameMark recessive first second s

end Sys2Proof.Machine
end

