-- ==== Sys2Proof/Machine/Tick.lean ====
section
/-! DEFINITION. The idle step: with no command waiting, one tick of fine time passes and the commands whose timers have come to
their end join the queue (log 2). -/

namespace Sys2Proof.Machine

/-- What the other nodes do in an idle tick: no command says it, so it is the free value of that tick (log 7). -/
def idleLine (d : Device) : List LineRun := if Config.othersDrive d.line.idleTicks then [.dominant 1] else []

/-- The device after an idle tick. -/
def tickDevice (d : Device) : Device :=
  onLine (fun l => { l with idleTicks := l.idleTicks + 1 }) (elapse 1 (idleLine d) d)

/-- One tick of 0.25 us on an empty queue; without main power nothing runs (log 15). -/
def idleTick (s : State) : State :=
  if s.dev.control.powered then ⟨tickDevice s.dev, due (tickDevice s.dev)⟩ else s

end Sys2Proof.Machine
end

