-- ==== Sys2Proof/Safety.lean ====
section
/-! DEFINITION. What a safe run is, and the words the statements use: a request that waits to be executed, the line after a
reply, the characters of a frame as they arrive, and the invariants that every step keeps. -/

namespace Sys2Proof.Machine

/-! ## Requests -/

/-- The command that takes a request (`armature` are the inputs a TRAIN samples). -/
def requestInstr (armature : BitVec 8) : Request → Instr
  | .configure => .configure
  | .rowWrite => .rowWrite
  | .rowRead => .rowRead
  | .runWrite => .runWrite
  | .matchWrite => .matchWrite
  | .weftMapWrite => .weftMapWrite
  | .loadDone => .loadDone
  | .positionSet => .positionSet
  | .positionResume => .positionResume
  | .arm => .arm
  | .disarm => .disarm
  | .testBegin => .testBegin
  | .testStep => .testStep
  | .testEnd => .testEnd
  | .train => .train armature
  | .status => .status
  | .flagsTake => .flagsTake
  | .faultListRead => .faultListRead
  | .faultListClear => .faultListClear
  | .historyRead => .historyRead
  | .rosterRead => .rosterRead
  | .noticeMask => .noticeMask
  | .reset => .reset

/-- Main power is present, no RESET waits for its reply to leave, and the frame at the head of the receive queue is the request
`r` from the terminal to the node `dest` with payload `p` (R79, R80). -/
def requestAt (r : Request) (dest : Byte) (p : List Byte) (d : Device) : Bool :=
  d.control.powered && d.control.resetPending.isNone
    && decide (d.line.queue.head? = some ⟨dest, terminalNode, requestCode r, p⟩)

/-- Such a request is addressed to this station and a reply to it can be placed (R80 step 5). -/
def asked (r : Request) (p : List Byte) (d : Device) : Bool :=
  decide (d.control.number < 32) && requestAt r (byte d.control.number) p d && !replyTaken d

/-- The line after the request at the head has been executed and its reply placed (R80, R81, R94). -/
def answered (r : Request) (res : Result) (t : Detail) (data : List Byte) (d : Device) : Line :=
  { d.line with queue := d.line.queue.tail, replySlot := some ⟨replyFrame d r res t data, 0⟩ }

/-- The dwell test turns string power OFF (R127). -/
def dwellDue (d : Device) : Bool :=
  decide (d.tracker.speed = .stalled) && d.control.config.any fun c => decide (c.dwell ≤ d.tracker.stationary)

/-! ## The line -/

/-- The characters of a frame after its mark, as they arrive (R75). -/
def frameArriving (f : Frame) : List LineChar := ((frameChars f).drop 2).map soundChar

/-! ## Configurations -/

/-- The configured angles and fields are ones that CONFIGURE accepts (R171). -/
def soundConfig (role : Role) (c : Configuration) : Bool :=
  fieldsInRange role c && anglesInOrder role c && decide (c.g ≤ 256) && decide (clamped role c = c)

/-! ## The shaft -/

/-- The level pair makes one counting step in a direction, and the counter then stands at `x` (R1). -/
def stepsOnto (dir : Direction) (a b : Bool) (x : Nat) (d : Device) : Bool :=
  decide (directionOf d.tracker.phase (phaseOf a b) = some dir) && decide (stepAngle dir d.tracker.angle = x)

/-- A station that weaves or tests with its angle known: main power, a configuration that CONFIGURE accepts, the angle REFERENCED,
and the index distance short of its limit (R5, R6). -/
def referencedBy (c : Configuration) (d : Device) : Bool :=
  d.control.powered && decide (d.control.config = some c) && soundConfig d.control.role c && d.tracker.referenced
    && decide (d.tracker.indexDist.natAbs < 8255)

/-- The next step goes on in the direction held and completes no span: it reaches the other blocks by its crossings alone (R1,
R8). -/
def goesOn (dir : Direction) (d : Device) : Bool :=
  decide (d.tracker.dir = dir)
    && (decide (d.tracker.speed = .stalled) || d.tracker.spanCounts.all fun n => decide (n + 1 < 16))

/-- No string holds the angle `x` as its fire angle. -/
def noFireAt (x : Nat) (d : Device) : Bool := d.strings.strings.all fun s => decide (s.fireAngle ≠ some x)

/-- Some string that the station drives is PENDING in a pick that is not blank (R132, R134). -/
def someMissed (d : Device) : Bool :=
  !d.strings.blank && (d.strings.strings.take (stringCount d)).any fun s => decide (s.chain = .pending)

/-- The pick of WEAVE or of a test that the shaft turns: the ones that K captures and D ends (R132, R133, R140). -/
def capturesAtK (d : Device) : Bool :=
  (decide (d.control.state = .weave) && decide (d.strings.mode = .forward))
    || (decide (d.control.state = .test) && decide (d.strings.mode = .test) && decide (d.strings.test.op = .idle))

/-- What becomes of a station `d` when FAST is left in SET and no span is completed, the counter then standing at `x` (R119, R122):
every string not reported as fired is handed W with basis ANGLE, its lead kept; a PENDING one, dropped and not waiting, fires at
once where W has been passed and it is ready, waits where it is not, and otherwise holds W. -/
def FiresByW (c : Configuration) (x : Nat) (d t : Device) : Prop :=
  t.fire.phase = .set ∧ t.fire.waves = d.fire.waves ∧ t.fire.strings.length = d.fire.strings.length ∧
  t.strings.strings.length = d.strings.strings.length ∧
  (∀ (i : Nat) (r : FireString), i < stringCount d → d.fire.strings[i]? = some r →
    (r.fired = true → t.fire.strings[i]? = some r) ∧
    (r.fired = false →
      (∃ y, t.fire.strings[i]? = some y ∧ y.lead = r.lead ∧ y.angle = some c.w ∧ y.basis = some .angle) ∧
      (∀ z, d.strings.strings[i]? = some z → z.chain = .pending → z.drive = .off → z.waiting = false →
        (inArc x c.w c.k = false ∨ d.strings.blank = true →
          t.strings.strings[i]? = some { z with fireAngle := some c.w }) ∧
        (inArc x c.w c.k = true → d.strings.blank = false → z.pattern = false ∨ d.strings.power ≠ .on →
          t.strings.strings[i]? = some { z with fireAngle := some c.w, waiting := true }) ∧
        (inArc x c.w c.k = true → d.strings.blank = false → z.pattern = true → d.strings.power = .on →
          t.strings.strings[i]? = some { z with
            fireAngle := some c.w, outReg := if z.latched then z.outReg else z.shiftReg
            latched := true, drive := .inrush 0, chain := .fired } ∧
          (d.strings.mode = .forward ∨ d.strings.mode = .none → t.fire.strings[i]?.any (·.fired) = true)))))

/-! ## Training -/

/-- What the pre-checks from the string numbered `k` on leave of a station `d`, with the armature inputs `armature` (R144, R146,
R147): the first string whose input is 0 begins its first trial with place 0 alone in its output register, those before it
are STUCK; where every input is 1 the run is complete, with TRAIN DONE where every string is TRAINED, else TRAIN FAILED. -/
def PreChecked (k : Nat) (armature : BitVec 8) (d t : Device) : Prop :=
  t = { d with control := t.control, trainer := t.trainer, strings := t.strings } ∧
  t.strings.strings.length = d.strings.strings.length ∧
  (∀ (i : Nat) (x : SelString), i < k → d.strings.strings[i]? = some x →
    ∃ y, t.strings.strings[i]? = some y ∧ y.result = x.result ∧ y.latency = x.latency) ∧
  (∀ j : Nat, k ≤ j → j < stringCount d → armature.getLsbD j = false →
    (∀ i, i < j → k ≤ i → armature.getLsbD i = true) →
    t.control = d.control ∧ t.trainer = ⟨.trial, j, 100, 1, 0, 0⟩ ∧
    (∀ (i : Nat) (x : SelString), i < j → d.strings.strings[i]? = some x → k ≤ i →
      ∃ y, t.strings.strings[i]? = some y ∧ y.result = .stuck ∧ y.latency = x.latency) ∧
    (∀ x, d.strings.strings[j]? = some x →
      t.strings.strings[j]? = some { x with shiftReg := 1#128, outReg := 1#128, drive := .inrush 0 })) ∧
  ((∀ i, i < stringCount d → k ≤ i → armature.getLsbD i = true) →
    t.trainer.phase = .idle ∧
    (∀ (i : Nat) (x : SelString), i < stringCount d → d.strings.strings[i]? = some x → k ≤ i →
      ∃ y, t.strings.strings[i]? = some y ∧ y.result = .stuck ∧ y.latency = x.latency) ∧
    (t.strings.strings.all fun x => decide (x.drive = .off) && decide (x.chain = .resting)) = true ∧
    t.control = { d.control with
      state := .ready
      flags := d.control.flags ||| BitVec.twoPow 30
        (if (t.strings.strings.take (stringCount d)).all (fun x => decide (x.result = .trained)) then 20 else 21) })

/-! ## Invariants -/

/-- The pattern memory is in its canonical form (R57). -/
def memoryCanonical (d : Device) : Bool := Memory.wf d.store.mem

/-- A training run is under way in TRAIN alone, and past WAKING only with string power ON (R143, R147, R148). -/
def trainingSound (d : Device) : Bool :=
  match d.trainer.phase with
  | .idle => true
  | .waking => decide (d.control.state = .train)
  | _ => decide (d.control.state = .train) && decide (d.strings.power = .on)

/-- No selector output is energised while string power is not ON, or outside WEAVE, TEST and TRAIN (R126). -/
def outputsSafe (d : Device) : Bool :=
  trainingSound d && (mayEnergise d || d.strings.strings.all fun s => decide (s.drive = .off))

/-- The pick mode is TEST in the station state TEST alone (R128, R140, R141). -/
def testPickSound (d : Device) : Bool := decide (d.strings.mode = .test → d.control.state = .test)

/-- The stores of fixed size hold no more than they can, the tables keep their places, the counts lie in their ranges, and roster
and written-row map stand in order of their numbers, none twice (R16, R38, R60, R74, R79, R99, R125, R126, R137, R151, R163; ch. 1). -/
def withinBounds (d : Device) : Bool :=
  decide (d.seq.history.length ≤ 24) && decide (d.line.queue.length ≤ 4) && decide (d.strings.faults.length ≤ 32)
    && decide (d.tracker.angle < 4096) && d.control.config.all (fun c => decide (c.index < 4096))
    && decide (d.tracker.unsettled ≤ 2) && decide (d.tracker.stationary ≤ 600)
    && decide (d.line.recessiveRun ≤ 1000) && decide (d.line.dominantRun ≤ 2001)
    && decide (d.strings.overflow ≤ 65535) && decide (d.strings.strings.length = 8) && decide (d.fire.strings.length = 8)
    && decide (d.seq.runs.length = 64) && decide (d.seq.table.length = 12) && decide (d.weft.map.length = 8)
    && decide ((d.roster.entries.map (·.station)).Pairwise (· < ·)) && d.roster.entries.all (fun e => decide (e.station < 32))
    && decide (d.store.written.Pairwise (· < ·)) && d.store.written.all (fun r => decide (r < 16384))

/-- A station state in which a programme is held (R20). -/
def holdsProgramme (s : StationState) : Bool :=
  decide (s = .ready) || decide (s = .weave) || decide (s = .test) || decide (s = .train)

/-- Every written run has an iteration count of at least 1 (R18). -/
def runsCounted (runs : List (Option Run)) : Bool := runs.all fun o => o.all fun r => decide (1 ≤ r.count)

/-- Every written run names a written run as its next (R24). -/
def runsChained (runs : List (Option Run)) : Bool :=
  runs.all fun o => o.all fun r => (runAt runs r.next).isSome

/-- While the station is in READY, WEAVE, TEST or TRAIN, its position and every position of its history are valid for the
programme held, and every advance finds its next run written (R20, R21, R24). -/
def positionSound (d : Device) : Bool :=
  decide (d.seq.runs.length = 64) && runsCounted d.seq.runs &&
    (!holdsProgramme d.control.state ||
      (runsChained d.seq.runs && validPosition d.seq.runs d.seq.pos
        && d.seq.history.all fun e => validPosition d.seq.runs e.pos))

/-- The changes of station state that R169 gives, other than a reset. -/
def stateEdge (a b : StationState) : Bool :=
  decide ((a, b) ∈ [(.dormant, .load), (.load, .ready), (.ready, .weave), (.weave, .ready), (.ready, .test),
    (.test, .ready), (.ready, .train), (.train, .ready), (.load, .fault), (.ready, .fault), (.weave, .fault),
    (.test, .fault), (.train, .fault)])

end Sys2Proof.Machine
end

