-- ==== Sys2Proof/Certificates/Slice0/Obligations.lean ====
section
/-! DEFINITION. The statements for the provers, each from the numbered rules it names (OBLIGATIONS.json lists them). -/

open Sys2Proof Sys2Proof.Machine

/-- A step executes the command at the front of the queue. (95_what_each_step_holds, 00_scope) -/
def Obligations.StepRunsFrontCommand : Prop :=
  ∀ (c : Instr) (rest : List Instr) (s : State), s.pending = c :: rest → step s = exec c { s with pending := rest }

/-- On an empty queue one tick passes: the tracker's events fall due and the runs of the line go on (the model's choice,
logs 2, 7). (R8, R11, R74, R77, R84, 00_scope) What the other nodes do in the tick is a free value,
Config.othersDrive (log 7). -/
def Obligations.IdleStepLetsATickPass : Prop :=
  ∀ s : State, s.pending = [] → s.dev.control.powered = true →
    ∃ t, step s = .next t ∧
      t.dev.tracker = (if s.dev.tracker.speed = .stalled
        then { s.dev.tracker with secondTimer := min (s.dev.tracker.secondTimer + 1) 4000000 }
        else { s.dev.tracker with spanTimer := min (s.dev.tracker.spanTimer + 1) 1048576 }) ∧
      t.dev.seq = s.dev.seq ∧ t.dev.roster = s.dev.roster ∧ t.dev.fire = s.dev.fire ∧ t.dev.weft = s.dev.weft ∧
      t.dev.pins = s.dev.pins ∧ t.dev.store.mem = s.dev.store.mem ∧ t.dev.store.written = s.dev.store.written ∧
      t.dev.line.idleTicks = s.dev.line.idleTicks + 1 ∧ t.dev.line.halfBit = !s.dev.line.halfBit ∧
      (s.dev.line.halfBit = false →
        t.dev.line.recessiveRun = s.dev.line.recessiveRun ∧ t.dev.line.dominantRun = s.dev.line.dominantRun ∧
        t.dev.line.ownPulse = s.dev.line.ownPulse ∧ t.dev.line.sentBits = s.dev.line.sentBits) ∧
      (∀ drives : Bool, s.dev.line.halfBit = true →
        (drives = true ↔ (∃ n, s.dev.line.tx = .pulse n ∧ n < 64) ∨
          (∃ slot chars, s.dev.line.tx = .sending slot chars ∧ s.dev.line.held = false ∧
            ((chars.map soundChar).flatMap charBits)[s.dev.line.sentBits]? = some false)) →
        ((drives || Config.othersDrive s.dev.line.idleTicks) = true →
          t.dev.line.recessiveRun = 0 ∧ t.dev.line.dominantRun = min (s.dev.line.dominantRun + 1) 2001 ∧
          t.dev.line.ownPulse = s.dev.line.ownPulse ∧ t.dev.line.rx = s.dev.line.rx ∧
          t.dev.line.counters = s.dev.line.counters) ∧
        ((drives || Config.othersDrive s.dev.line.idleTicks) = false →
          t.dev.line.recessiveRun = min (s.dev.line.recessiveRun + 1) 1000 ∧ t.dev.line.dominantRun = 0 ∧
          t.dev.line.ownPulse = false ∧
          (s.dev.line.rx ≠ .awaitingRun → t.dev.line.rx = s.dev.line.rx ∧ t.dev.line.counters = s.dev.line.counters) ∧
          (s.dev.line.rx = .awaitingRun → t.dev.line.rx = .hunt ∧ (s.dev.line.dominantRun < 22 →
            t.dev.line.counters =
              { s.dev.line.counters with parityFraming := min (s.dev.line.counters.parityFraming + 1) 65535 })))) ∧
      (∀ slot chars b, s.dev.line.tx = .sending slot chars → s.dev.line.halfBit = true → s.dev.line.held = false →
          ((chars.map soundChar).flatMap charBits)[s.dev.line.sentBits]? = some b →
        ((b && Config.othersDrive s.dev.line.idleTicks) = false →
          t.dev.line.sentBits = s.dev.line.sentBits + 1 ∧ t.dev.line.held = false) ∧
        ((b && Config.othersDrive s.dev.line.idleTicks) = true →
          t.dev.line.sentBits = s.dev.line.sentBits ∧ t.dev.line.held = true)) ∧
      (s.dev.tracker.speed ≠ .stalled → 1048575 ≤ s.dev.tracker.spanTimer → .stallExpiry ∈ t.pending) ∧
      (s.dev.tracker.speed = .stalled → 3999999 ≤ s.dev.tracker.secondTimer → .stationarySecond ∈ t.pending)

/-- Every command answers a next state and leaves the queue; without main power only POWER_ON acts (log 15). (00_scope,
R180, 12.7) -/
def Obligations.EveryCommandCompletes : Prop :=
  ∀ (i : Instr) (s : State),
    (∃ t, exec i s = .next t ∧ t.pending = s.pending) ∧
    (s.dev.control.powered = false →
      (∀ number role a b held backup sram, i ≠ .powerOn number role a b held backup sram) → exec i s = .next s)

/-- A counting step moves the counter one unit, sets direction and decoder state; an index edge with it is taken at its
end (order: log 24). (R1, R6, R15, R3) Where the step brings the index distance to 8,256 either way, the distance is
tested before the edge that comes with it: the model's order (log 24). -/
def Obligations.CountingStepCounts : Prop :=
  ∀ (a b : Bool) (dt : Lapse) (sense : List StringBits) (s : State),
      s.dev.control.powered = true →
      phaseOf a b = s.dev.tracker.phase + 1#2 ∨ phaseOf a b = s.dev.tracker.phase - 1#2 →
      ∃ t, exec (.countingStep a b false dt sense) s = .next t ∧ t.pending = s.pending ∧
      t.dev.tracker.phase = phaseOf a b ∧
      (phaseOf a b = s.dev.tracker.phase + 1#2 →
        t.dev.tracker.angle = (s.dev.tracker.angle + 1) % 4096 ∧ t.dev.tracker.dir = .forward) ∧
      (phaseOf a b = s.dev.tracker.phase - 1#2 →
        t.dev.tracker.angle = (s.dev.tracker.angle + 4095) % 4096 ∧ t.dev.tracker.dir = .reverse) ∧
      t.dev.store.mem = s.dev.store.mem ∧ t.dev.store.written = s.dev.store.written ∧
      t.dev.seq.runs = s.dev.seq.runs ∧ t.dev.seq.table = s.dev.seq.table ∧ t.dev.weft.map = s.dev.weft.map ∧
      t.dev.line.queue = s.dev.line.queue ∧ t.dev.line.replySlot = s.dev.line.replySlot ∧
      t.dev.control.role = s.dev.control.role ∧ t.dev.control.number = s.dev.control.number ∧
      t.dev.control.config = s.dev.control.config ∧
      exec (.countingStep a b true dt sense) s = exec .indexEdge t

/-- The sixteenth count completes the span, forward or reverse, decides the speed state and sets FAST on entering it.
(R8, R9, R10) -/
def Obligations.SpanCompletionDecidesSpeed : Prop :=
  ∀ (a b : Bool) (dt : Lapse) (sense : List StringBits) (s : State) (c : Configuration),
      s.dev.control.powered = true →
      s.dev.control.config = some c ∨ s.dev.control.config = none →
      s.dev.tracker.speed ≠ .stalled →
      (phaseOf a b = s.dev.tracker.phase + 1#2 ∧ s.dev.tracker.dir = .forward) ∨
        (phaseOf a b = s.dev.tracker.phase - 1#2 ∧ s.dev.tracker.dir = .reverse) →
      s.dev.tracker.spanCounts = some 15 →
      ∃ t, exec (.countingStep a b false dt sense) s = .next t ∧ t.pending = s.pending ∧
      t.dev.tracker.span = some (min (max (s.dev.tracker.spanTimer + dt.ticks) 1) 1048575) ∧
      t.dev.tracker.spanCounts = some 0 ∧ t.dev.tracker.spanTimer = 0 ∧
      t.dev.tracker.unsettled = s.dev.tracker.unsettled - 1 ∧
      t.dev.tracker.speed =
        (if s.dev.control.config = none ∨ 0 < s.dev.tracker.unsettled then .creep
         else if c.sCreep < min (max (s.dev.tracker.spanTimer + dt.ticks) 1) 1048575 then .creep
         else if min (max (s.dev.tracker.spanTimer + dt.ticks) 1) 1048575 < c.sFast then .fast
         else .run) ∧
      t.dev.control.flags.getLsbD 10 = (s.dev.control.flags.getLsbD 10 ||
        (decide (t.dev.tracker.speed = .fast) && decide (s.dev.tracker.speed ≠ .fast)))

/-- A direction change either way discards the span and leaves CREEP; the first step after a stall leaves CREEP. (R9,
R12) -/
def Obligations.DirectionChangeAndStallEnd : Prop :=
  (∀ (a b : Bool) (dt : Lapse) (sense : List StringBits) (s : State),
      s.dev.control.powered = true →
      (phaseOf a b = s.dev.tracker.phase - 1#2 ∧ s.dev.tracker.dir = .forward) ∨
        (phaseOf a b = s.dev.tracker.phase + 1#2 ∧ s.dev.tracker.dir = .reverse) →
      ∃ t, exec (.countingStep a b false dt sense) s = .next t ∧ t.pending = s.pending ∧
      t.dev.tracker.spanCounts = some 0 ∧ t.dev.tracker.spanTimer = 0 ∧ t.dev.tracker.unsettled = 2 ∧
        t.dev.tracker.speed = .creep ∧ t.dev.tracker.span = s.dev.tracker.span ∧
        (s.dev.tracker.speed = .stalled → t.dev.tracker.stationary = 0)) ∧
  (∀ (a b : Bool) (dt : Lapse) (sense : List StringBits) (s : State),
      s.dev.control.powered = true →
      s.dev.tracker.speed = .stalled →
      (phaseOf a b = s.dev.tracker.phase + 1#2 ∧ s.dev.tracker.dir = .forward) ∨
        (phaseOf a b = s.dev.tracker.phase - 1#2 ∧ s.dev.tracker.dir = .reverse) →
      ∃ t, exec (.countingStep a b false dt sense) s = .next t ∧ t.pending = s.pending ∧
      t.dev.tracker.spanCounts = some 0 ∧ t.dev.tracker.spanTimer = 0 ∧ t.dev.tracker.speed = .creep ∧
        t.dev.tracker.stationary = 0 ∧ t.dev.tracker.unsettled = s.dev.tracker.unsettled ∧
        t.dev.tracker.span = s.dev.tracker.span)

/-- An encoder glitch keeps angle, direction, distance and speed, discards the span and sets its flag. (R2, R74) That
the lapse operand says what the other nodes do on the line is logs 3 and 7. -/
def Obligations.EncoderGlitchLosesNoAngle : Prop :=
  ∀ (dt : Lapse) (s : State), s.dev.control.powered = true →
    ∃ t, exec (.encoderGlitch dt) s = .next t ∧ t.pending = s.pending ∧
      t.dev.tracker.angle = s.dev.tracker.angle ∧ t.dev.tracker.dir = s.dev.tracker.dir ∧
      t.dev.tracker.indexDist = s.dev.tracker.indexDist ∧ t.dev.tracker.referenced = s.dev.tracker.referenced ∧
      t.dev.tracker.span = s.dev.tracker.span ∧ t.dev.tracker.unsettled = s.dev.tracker.unsettled ∧
      t.dev.tracker.speed = s.dev.tracker.speed ∧ t.dev.tracker.phase = s.dev.tracker.phase + 2#2 ∧
      t.dev.tracker.spanCounts = none ∧ t.dev.tracker.spanTimer = 0 ∧
      t.dev.control.flags = s.dev.control.flags ||| BitVec.twoPow 30 14 ∧
      t.dev.seq = s.dev.seq ∧ t.dev.roster = s.dev.roster ∧ t.dev.fire = s.dev.fire ∧ t.dev.weft = s.dev.weft ∧
      t.dev.pins.feederStop = s.dev.pins.feederStop ∧ t.dev.pins.sense = s.dev.pins.sense ∧
      t.dev.pins.armature = s.dev.pins.armature ∧ t.dev.line.queue = s.dev.line.queue ∧
      t.dev.line.replySlot = s.dev.line.replySlot ∧ t.dev.line.beaconSlot = s.dev.line.beaconSlot ∧
      t.dev.store.mem = s.dev.store.mem ∧ t.dev.control.state = s.dev.control.state ∧
      (∀ n k, dt.ticks = 2 * n → 0 < n → n ≤ k → s.dev.line.halfBit = false → s.dev.line.tx = .idle →
        (dt.line = [.dominant k] → t.dev.line.recessiveRun = 0 ∧
          t.dev.line.dominantRun = min (s.dev.line.dominantRun + n) 2001 ∧ t.dev.line.ownPulse = s.dev.line.ownPulse ∧
          t.dev.line.rx = s.dev.line.rx ∧ t.dev.line.counters = s.dev.line.counters) ∧
        (dt.line = [] → t.dev.line.recessiveRun = min (s.dev.line.recessiveRun + n) 1000 ∧
          t.dev.line.dominantRun = 0 ∧ t.dev.line.ownPulse = false)) ∧
      (∀ n e, dt.ticks = 2 * n → 0 < n → e + 2 * n ≤ 64 → s.dev.line.halfBit = false → s.dev.line.tx = .pulse e →
        t.dev.line.tx = .pulse (e + 2 * n) ∧ t.dev.line.recessiveRun = 0 ∧
        t.dev.line.dominantRun = min (s.dev.line.dominantRun + n) 2001 ∧ t.dev.line.ownPulse = s.dev.line.ownPulse)

/-- An index edge references or checks the angle; two revolutions without one make it UNREFERENCED with INDEX MISSING
(leaving FAST in mode NONE: log 47). (R3, R4, R5, R48, R44, R122, R119) That strings fire and are reported with the
pick mode NONE in SET is log 47 (the rules do not say). -/
def Obligations.IndexReferencesChecksAndGoesMissing : Prop :=
  (∀ s : State, s.dev.control.powered = true →
    (s.dev.control.config = none → exec .indexEdge s = .next s) ∧
    (∀ c, s.dev.control.config = some c → s.dev.tracker.referenced = false →
      ∃ t, exec .indexEdge s = .next t ∧ t.pending = s.pending ∧
        t.dev.tracker = { s.dev.tracker with
          angle := c.index, referenced := true, indexDist := 0, unsettled := 2
          speed := if s.dev.tracker.speed = .stalled then .stalled else .creep } ∧
        t.dev.seq = s.dev.seq ∧ t.dev.line = s.dev.line ∧ t.dev.roster = s.dev.roster ∧ t.dev.store = s.dev.store ∧
        t.dev.weft = s.dev.weft ∧ t.dev.trainer = s.dev.trainer)) ∧
  (∀ (s : State) (c : Configuration), s.dev.control.powered = true → s.dev.control.config = some c →
    s.dev.tracker.referenced = true →
    (indexError c.index s.dev.tracker.angle = 0 →
      exec .indexEdge s = .next { s with dev := { s.dev with tracker := { s.dev.tracker with indexDist := 0 } } }) ∧
    (indexError c.index s.dev.tracker.angle = 1 ∨ indexError c.index s.dev.tracker.angle = 2 →
      exec .indexEdge s = .next { s with dev := { s.dev with
        tracker := { s.dev.tracker with indexDist := 0, angle := c.index }
        seq := { s.dev.seq with guardOpen := false } } }) ∧
    (2 < indexError c.index s.dev.tracker.angle →
      ∃ t, exec .indexEdge s = .next t ∧ t.pending = s.pending ∧
        t.dev.tracker = { s.dev.tracker with
          angle := c.index, indexDist := 0, unsettled := 2
          speed := if s.dev.tracker.speed = .stalled then .stalled else .creep } ∧
        t.dev.seq = { s.dev.seq with
          guardOpen := false, void := s.dev.seq.void || decide (s.dev.control.state = .weave) } ∧
        t.dev.control.flags.getLsbD 15 = true ∧ t.dev.roster = s.dev.roster ∧ t.dev.store = s.dev.store ∧
        t.dev.weft = s.dev.weft ∧ t.dev.trainer = s.dev.trainer)) ∧
  (∀ (a b : Bool) (dt : Lapse) (sense : List StringBits) (s : State),
      s.dev.control.powered = true →
      s.dev.tracker.referenced = true →
      (phaseOf a b = s.dev.tracker.phase + 1#2 ∧ 8255 ≤ s.dev.tracker.indexDist) ∨
        (phaseOf a b = s.dev.tracker.phase - 1#2 ∧ s.dev.tracker.indexDist ≤ -8255) →
      ∃ t, exec (.countingStep a b false dt sense) s = .next t ∧ t.pending = s.pending ∧
      t.dev.tracker.referenced = false ∧ t.dev.tracker.indexDist = 0 ∧
      t.dev.tracker.angle = stepAngle t.dev.tracker.dir s.dev.tracker.angle ∧ t.dev.seq.guardOpen = false ∧
      t.dev.control.flags.getLsbD 16 = true ∧ (s.dev.control.state = .weave → t.dev.seq.void = true)) ∧
  (∀ (s : State) (c : Configuration), s.dev.control.powered = true → s.dev.control.config = some c →
    s.dev.tracker.speed = .fast → s.dev.fire.phase = .set → s.dev.control.state = .weave →
    s.dev.tracker.referenced = false ∨ 2 < indexError c.index s.dev.tracker.angle →
    ∃ t, exec .indexEdge s = .next t ∧ t.pending = s.pending ∧ FiresByW c c.index s.dev t.dev)

/-- The stall expiry stalls the shaft; each second in STALLED raises the stationary time and may turn string power OFF
(leaving FAST in mode NONE: log 47). (R11, R127, R122, R119) That strings fire and are reported with the pick mode
NONE in SET is log 47 (the rules do not say). -/
def Obligations.StallAndStationarySeconds : Prop :=
  ∀ s : State, s.dev.control.powered = true →
    (s.dev.tracker.speed = .stalled → exec .stallExpiry s = .next s) ∧
    (s.dev.tracker.speed ≠ .stalled →
      ∃ t, exec .stallExpiry s = .next t ∧ t.pending = s.pending ∧
        t.dev.tracker = { s.dev.tracker with
          speed := .stalled, spanCounts := none, unsettled := 2, stationary := 0, secondTimer := 0 } ∧
        (¬(s.dev.tracker.speed = .fast ∧ s.dev.fire.phase = .set) →
          t.dev = { s.dev with tracker := t.dev.tracker }) ∧
        (∀ c, s.dev.tracker.speed = .fast → s.dev.fire.phase = .set → s.dev.control.config = some c →
          s.dev.control.state = .weave → FiresByW c s.dev.tracker.angle s.dev t.dev)) ∧
    (s.dev.tracker.speed ≠ .stalled → exec .stationarySecond s = .next s) ∧
    (s.dev.tracker.speed = .stalled →
      ∃ t, exec .stationarySecond s = .next t ∧ t.pending = s.pending ∧
        t.dev = { s.dev with
          tracker := { s.dev.tracker with stationary := min (s.dev.tracker.stationary + 1) 600, secondTimer := 0 }
          strings := t.dev.strings } ∧
        ((s.dev.control.state = .ready ∨ s.dev.control.state = .weave) → dwellDue t.dev = true →
          t.dev.strings.power = .off) ∧
        (s.dev.control.state ≠ .ready → s.dev.control.state ≠ .weave → t.dev.strings = s.dev.strings) ∧
        (dwellDue t.dev = false → t.dev.strings = s.dev.strings))

/-- A forward boundary crossing advances or repeats, records the pick left, evaluates the match table at an ADVANCE,
starts the fetch. (R40, R38, R39, R42, R165, R166, R55, R64, R27, R98, R48, R129) That the guard is CLOSED after a
crossing with G = 0 is the model's order of B before G-end (log 31; R48 leaves both). That the new position's
override is kept with the fetch, and the weft code and lift count of the pick left with the sequencer
(recordedWeft), is log 20. That the sequencer crosses before the string driver's test for missed selections that is
still outstanding, so that its hold voids the new pick and not the one left, is log 21 (R46 leaves both orders). -/
def Obligations.ForwardBoundaryCrossing : Prop :=
  ∀ (a b : Bool) (dt : Lapse) (sense : List StringBits) (s : State) (c : Configuration) (crossed : Device),
      s.dev.control.powered = true →
      s.dev.control.config = some c →
      soundConfig s.dev.control.role c = true →
      s.dev.control.state = .weave →
      s.dev.tracker.referenced = true →
      -8257 < s.dev.tracker.indexDist →
      s.dev.tracker.indexDist < 8255 →
      phaseOf a b = s.dev.tracker.phase + 1#2 →
      (s.dev.tracker.angle + 1) % 4096 = c.b →
      crossed = { s.dev with seq := { s.dev.seq with pos := advance s.dev.seq.runs s.dev.seq.pos } } →
      ∃ t, exec (.countingStep a b false dt sense) s = .next t ∧ t.pending = s.pending ∧
      t.dev.seq.history =
        ⟨s.dev.seq.pos, s.dev.seq.void, if s.dev.seq.void then .again else .advance, recordedWeft s.dev,
          if s.dev.control.role = .sectionRole then s.dev.seq.pickLift.getD 0 else 0,
          if s.dev.control.role = .weftRole ∧ recordedWeft s.dev ≠ 15 then chosenFinger s.dev.weft.choice else none,
          decide (s.dev.control.role = .weftRole) && decide (recordedWeft s.dev < 8)
            && s.dev.weft.toggles.getLsbD (recordedWeft s.dev)⟩ :: s.dev.seq.history.take 23 ∧
      (s.dev.seq.void = true → t.dev.seq.pos = s.dev.seq.pos ∧
        t.dev.control.flags.getLsbD 23 = s.dev.control.flags.getLsbD 23 ∧
        t.dev.control.flags.getLsbD 24 = s.dev.control.flags.getLsbD 24) ∧
      (s.dev.seq.void = false →
        t.dev.seq.pos = { crossed.seq.pos with
          piece := if actionMatched crossed .pieceRestart then 0 else crossed.seq.pos.piece } ∧
        (actionMatched crossed .notice = true → t.dev.control.flags.getLsbD 23 = true) ∧
        (actionMatched crossed .pieceRestart = true → t.dev.control.flags.getLsbD 24 = true) ∧
        (actionMatched crossed .hold = true → t.dev.seq.void = true)) ∧
      (s.dev.line.stuck = true → t.dev.seq.void = true) ∧
      (s.dev.control.role = .sectionRole → s.dev.strings.mode ≠ .forward ∨ s.dev.strings.missTested = true →
        t.dev.seq.void = (s.dev.line.stuck || (!s.dev.seq.void && actionMatched crossed .hold))) ∧
      t.dev.seq.guardOpen = decide (c.g ≠ 0) ∧
      t.dev.control.writes = s.dev.control.writes ++ [recordOf t.dev.seq.pos c.identity] ∧
      t.dev.store.fetch = .fetching t.dev.seq.pos.row (.pick false (overrideOf t.dev)) 0 ∧ t.dev.store.result = none ∧
      t.dev.seq.pickWeft = overrideOf t.dev ∧ t.dev.seq.pickLift = none ∧
      t.dev.roster.windowOpen = true ∧
      t.dev.roster.entries = s.dev.roster.entries.map (fun e => { e with heard := false }) ∧
      t.dev.line.beaconDue = .due false (decide (c.g = 0)) ∧ t.dev.control.state = .weave ∧
      (s.dev.control.role = .sectionRole → t.dev.strings.mode = .forward ∧ t.dev.strings.captureDone = false ∧
        t.dev.fire.phase = .idle ∧ t.dev.fire.angleHold = false ∧
        (t.dev.strings.strings.all fun x => decide (x.drive = .off) && decide (x.chain = .resting)) = true)

/-- A reverse boundary crossing in WEAVE restores the pick on top of the history, or reports HISTORY EXHAUSTED. (R52,
R53, R55, R64, R27, R82, R97, R98, R112, R136, R153, R156) The order of the pop before an outstanding test for
missed selections is the model's (log 21; R46 leaves both); the override kept with the fetch is log 20. -/
def Obligations.ReverseBoundaryPops : Prop :=
  (∀ (a b : Bool) (dt : Lapse) (sense : List StringBits) (s : State) (c : Configuration) (e : HistoryEntry)
      (rest : List HistoryEntry),
      s.dev.control.powered = true →
      s.dev.control.config = some c →
      soundConfig s.dev.control.role c = true →
      s.dev.control.state = .weave →
      s.dev.tracker.referenced = true →
      -8255 < s.dev.tracker.indexDist →
      s.dev.tracker.indexDist < 8257 →
      phaseOf a b = s.dev.tracker.phase - 1#2 →
      (s.dev.tracker.angle + 4095) % 4096 = c.b →
      s.dev.seq.history = e :: rest →
      ∃ t, exec (.countingStep a b false dt sense) s = .next t ∧ t.pending = s.pending ∧
      t.dev.seq.pos = e.pos ∧ t.dev.seq.history = rest ∧ t.dev.seq.guardOpen = false ∧
      t.dev.control.writes = s.dev.control.writes ++ [recordOf e.pos c.identity] ∧
      t.dev.store.fetch = .fetching e.pos.row (.pick true (overrideOf t.dev)) 0 ∧ t.dev.store.result = none ∧
      t.dev.seq.pickWeft = some ((overrideOf t.dev).getD e.weft) ∧ t.dev.seq.pickLift = none ∧
      t.dev.roster.windowOpen = false ∧ t.dev.line.beaconSlot = none ∧ t.dev.line.beaconDue = .idle ∧
      t.dev.line.counters.beaconsLate = s.dev.line.counters.beaconsLate ∧
      (s.dev.strings.mode ≠ .forward ∨ s.dev.strings.missTested = true ∨ s.dev.control.role = .weftRole →
        t.dev.seq.void = false) ∧
      (s.dev.control.role = .weftRole → t.dev.weft.choice = .chosen e.finger ∧ t.dev.weft.arrival = .idle ∧
        t.dev.weft.stopMark = false ∧ (e.weft < 8 → t.dev.weft.toggles.getLsbD e.weft = e.toggle)) ∧
      (s.dev.control.role = .sectionRole → t.dev.strings.mode = .reverse ∧ t.dev.fire.phase = .idle ∧
        (t.dev.strings.strings.all fun x => decide (x.drive = .off) && decide (x.chain = .resting)) = true)) ∧
  (∀ (a b : Bool) (dt : Lapse) (sense : List StringBits) (s : State) (c : Configuration),
      s.dev.control.powered = true →
      s.dev.control.config = some c →
      soundConfig s.dev.control.role c = true →
      s.dev.control.state = .weave →
      s.dev.tracker.referenced = true →
      -8255 < s.dev.tracker.indexDist →
      s.dev.tracker.indexDist < 8257 →
      phaseOf a b = s.dev.tracker.phase - 1#2 →
      (s.dev.tracker.angle + 4095) % 4096 = c.b →
      s.dev.seq.history = [] →
      ∃ t, exec (.countingStep a b false dt sense) s = .next t ∧ t.pending = s.pending ∧
      t.dev.seq.pos = s.dev.seq.pos ∧ t.dev.seq.history = [] ∧ t.dev.seq.void = true ∧ t.dev.seq.guardOpen = false ∧
      t.dev.control.flags.getLsbD 11 = true ∧
      t.dev.control.writes = s.dev.control.writes ++ [recordOf s.dev.seq.pos c.identity] ∧
      t.dev.store.fetch = .fetching s.dev.seq.pos.row (.pick true (overrideOf t.dev)) 0 ∧ t.dev.store.result = none ∧
      t.dev.seq.pickWeft = overrideOf t.dev ∧ t.dev.seq.pickLift = none ∧
      (s.dev.line.stuck = false → ∃ n, t.dev.line.tx = .pulse n) ∧
      t.dev.roster.windowOpen = false ∧ t.dev.line.beaconSlot = none ∧ t.dev.line.beaconDue = .idle ∧
      (s.dev.control.role = .weftRole → t.dev.weft = { s.dev.weft with arrival := .idle, stopMark := false }))

/-- The forward advance weaves the rows of a run in order, iteration after iteration, and then enters its next run.
(R22, R23) -/
def Obligations.AdvanceFollowsTheRun : Prop :=
  ∀ (runs : List (Option Run)) (p : Position) (r : Run), runAt runs p.run = some r →
    ((advance runs p).piece = (p.piece + 1) % 16777216) ∧
    (inRange r p.row = true → p.row ≠ r.toRow →
      (advance runs p).row = (if r.fromRow ≤ r.toRow then p.row + 1 else p.row - 1) ∧
      inRange r (advance runs p).row = true ∧ (advance runs p).run = p.run ∧
      (advance runs p).iteration = p.iteration) ∧
    (p.row = r.toRow → p.iteration < r.count →
      (advance runs p).iteration = p.iteration + 1 ∧ (advance runs p).row = r.fromRow ∧
      (advance runs p).run = p.run) ∧
    (∀ r', p.row = r.toRow → p.iteration = r.count → runAt runs r.next = some r' →
      (advance runs p).run = r.next ∧ (advance runs p).iteration = 1 ∧ (advance runs p).row = r'.fromRow) ∧
    (r.fromRow = r.toRow → inRange r p.row = true → p.row = r.toRow) ∧
    (p.row = r.fromRow → p.iteration = 1 → ∀ i, i < runLength r * r.count →
      ((advance runs)^[i] p).run = p.run ∧ ((advance runs)^[i] p).iteration = 1 + i / runLength r ∧
      some ((advance runs)^[i] p).row = (runRows r)[i % runLength r]?)

/-- The match table is compared with the new position as the advance left it, and each matched action is carried out
once. (R165, R166, R44) -/
def Obligations.MatchActionsAtAnAdvance : Prop :=
  ∀ d : Device, d.control.state = .weave →
    (evaluateMatches d).seq =
      { d.seq with
        pos := { d.seq.pos with piece := if actionMatched d .pieceRestart then 0 else d.seq.pos.piece }
        void := d.seq.void || actionMatched d .hold } ∧
    (actionMatched d .notice = true → (evaluateMatches d).control.flags.getLsbD 23 = true) ∧
    (actionMatched d .pieceRestart = true → (evaluateMatches d).control.flags.getLsbD 24 = true) ∧
    (∀ act, actionMatched d act = true ↔
      ∃ e ∈ d.seq.table, e.enabled = true ∧ e.action = act ∧
        (∀ x, e.run = some x → x = d.seq.pos.run) ∧ (∀ x, e.iteration = some x → x = d.seq.pos.iteration) ∧
        (∀ x, e.row = some x → x = d.seq.pos.row) ∧ (∀ x, e.piece = some x → x = d.seq.pos.piece))

/-- An own hold in WEAVE voids the pick and begins a pulse; at its end the line is released (wait in FAULT: log 41).
(R44, R86, R74, R92) In FAULT the access wait after the pulse is the 1,000 bt of R92, against the 12 bt of R86: the
model's reading (log 41). On a STUCK line nothing is set even while a pulse is under way, where the merging sentence
of R86 would set HOLD SENT: the model's choice (log 43). -/
def Obligations.OwnHoldAndPulseEnd : Prop :=
  (∀ d : Device, d.control.state = .weave → d.line.stuck = false →
      (ownHold d).seq = { d.seq with void := true } ∧ (∃ n, (ownHold d).line.tx = .pulse n) ∧
      (ownHold d).control.flags = d.control.flags ||| BitVec.twoPow 30 0 ∧
      (ownHold d).line.beaconSlot = d.line.beaconSlot ∧ (ownHold d).line.replySlot = d.line.replySlot ∧
      ((∀ n, d.line.tx ≠ .pulse n) → (ownHold d).line.tx = .pulse 0 ∧ (ownHold d).line.recessiveRun = 0 ∧
        (ownHold d).line.dominantRun = d.line.dominantRun ∧
        (ownHold d).line.ownPulse = (d.line.ownPulse || decide (d.line.dominantRun < 22)))) ∧
    (∀ d : Device, d.control.state = .weave → d.line.stuck = true →
      ownHold d = { d with seq := { d.seq with void := true } }) ∧
    (∀ d : Device, d.control.state ≠ .weave → ownHold d = d) ∧
    (∀ (s : State) (n : Nat), s.dev.control.powered = true → s.dev.line.tx = .pulse n →
      exec .pulseEnd s = .next { s with dev := { s.dev with line := { s.dev.line with
        tx := .idle, accessWait := if s.dev.control.state = .fault then 1000 else 12 } } }) ∧
    (∀ s : State, s.dev.control.powered = true → (∀ n, s.dev.line.tx ≠ .pulse n) → exec .pulseEnd s = .next s)

/-- A hold of another node is counted, flagged and voids the pick; this station's own is not. (R87, R45, R77)
HOLD_DETECTED is taken as a run that reaches 22 bt each time it comes (log 8). -/
def Obligations.DetectedHoldVoidsThePick : Prop :=
  ∀ s : State, s.dev.control.powered = true →
    (s.dev.line.ownPulse = false → retracts s.dev = false →
      ∃ t, exec .holdDetected s = .next t ∧ t.pending = s.pending ∧
        t.dev = { s.dev with
          line := { s.dev.line with
            rx := .hunt, recessiveRun := 0, dominantRun := min (max 22 s.dev.line.dominantRun) 2001, ownPulse := false, halfBit := false
            counters := { s.dev.line.counters with holdsSeen := min (s.dev.line.counters.holdsSeen + 1) 65535 } }
          seq := { s.dev.seq with void := s.dev.seq.void || decide (s.dev.control.state = .weave) }
          control := { s.dev.control with flags := s.dev.control.flags ||| BitVec.twoPow 30 1 } }) ∧
    (s.dev.line.ownPulse = true →
      exec .holdDetected s = .next { s with dev := { s.dev with
        line := { s.dev.line with rx := .hunt, recessiveRun := 0, dominantRun := min (max 22 s.dev.line.dominantRun) 2001, ownPulse := true, halfBit := false } } })

/-- A line hold inside the open guard band takes the crossing back. (R49, R48, R55, R64, R95, R27, R154, R155) The
override kept with the fetch is log 20. That the void flag stays clear under LINE STUCK too, where R42 sets it at
the end of every crossing, is log 50. -/
def Obligations.RetractRestoresThePickLeft : Prop :=
  ∀ (s : State) (e : HistoryEntry) (rest : List HistoryEntry), s.dev.control.powered = true →
    s.dev.line.ownPulse = false → retracts s.dev = true →
    s.dev.seq.history = e :: rest →
    ∃ t, exec .holdDetected s = .next t ∧ t.pending = s.pending ∧
      t.dev.seq.pos = e.pos ∧ t.dev.seq.guardOpen = false ∧
      t.dev.seq.history = { e with void := true, kind := .again } :: rest.take 23 ∧
      t.dev.control.writes = s.dev.control.writes ++
        [recordOf e.pos ((s.dev.control.config.map (·.identity)).getD 0#32)] ∧
      t.dev.store.fetch = .fetching e.pos.row (.pick false (overrideOf t.dev)) 0 ∧
      t.dev.seq.pickWeft = some ((overrideOf t.dev).getD e.weft) ∧ t.dev.seq.pickLift = none ∧
      (s.dev.control.role = .sectionRole ∨ overrideOf t.dev = none → t.dev.seq.void = false) ∧
      (s.dev.control.role = .weftRole → t.dev.weft.arrival = .idle ∧
        (e.weft < 8 → t.dev.weft.toggles.getLsbD e.weft = e.toggle) ∧
        (overrideOf t.dev = none → t.dev.weft.choice = .pending) ∧
        (∀ k, overrideOf t.dev = some k →
          (8 ≤ k → t.dev.weft.choice = .chosen none ∧ t.dev.seq.void = false) ∧
          (∀ m, k < 8 → (s.dev.weft.map[k]?).join = some m → ∀ f,
            f = (if m.mixing = true ∧ m.alternate.isSome ∧ t.dev.weft.toggles.getLsbD k = true
              then m.alternate.getD m.primary else m.primary) →
            (s.dev.pins.feederStop.getLsbD f = false → t.dev.weft.choice = .chosen (some f) ∧ t.dev.seq.void = false) ∧
            (∀ o, (if f = m.primary then m.alternate else some m.primary) = some o →
              s.dev.pins.feederStop.getLsbD f = true → s.dev.pins.feederStop.getLsbD o = false →
              t.dev.weft.choice = .chosen (some o) ∧ t.dev.seq.void = false ∧ t.dev.control.flags.getLsbD 25 = true) ∧
            (s.dev.pins.feederStop.getLsbD f = true →
              ((if f = m.primary then m.alternate else some m.primary).all fun o => s.dev.pins.feederStop.getLsbD o) = true →
              t.dev.weft.choice = .chosen none ∧ t.dev.seq.void = true ∧ t.dev.control.flags.getLsbD 26 = true)))) ∧ t.dev.store.result = none ∧
      t.dev.store.mem = s.dev.store.mem ∧ t.dev.store.written = s.dev.store.written ∧
      t.dev.control.flags.getLsbD 2 = true ∧ (t.dev.strings.strings.all fun x => !x.pattern) = true ∧
      (∀ g, t.dev.line.beaconDue ≠ .due true g) ∧
      t.dev.tracker = s.dev.tracker ∧ t.dev.roster = s.dev.roster ∧ t.dev.fire = s.dev.fire ∧
      t.dev.trainer = s.dev.trainer ∧ t.dev.pins = s.dev.pins

/-- ROW WRITE writes weft code, lift field and row check into the row's slot and nothing else and reads back, or is
refused. (R61, R57, R59, R60, R63, R58, R28, R170) The order of the check bytes in the slot is the model's (log 18). -/
def Obligations.RowWriteStoresTheRecord : Prop :=
  (∀ (s : State) (p : List Byte), asked .rowWrite p s.dev = true →
    s.dev.control.state = .load ∨ s.dev.control.state = .ready →
    p.length = 3 + liftBytes s.dev → capacityOf s.dev ≤ 1024 → fieldAt p 0 2 ≤ 16383 →
    weftCodeGood (p.getD 2 0#8).toNat = true →
    ¬(s.dev.control.state = .ready ∧ isWeft s.dev = true ∧ unmapped s.dev (p.getD 2 0#8).toNat = true) →
    memoryCanonical s.dev = true →
    ∃ t, exec .rowWrite s = .next t ∧ t.pending = s.pending ∧
      (∀ i, i < 3 + liftBytes s.dev →
        Memory.read t.dev.store.mem (fieldAt p 0 2 * 256 + i) =
          (p.getD 2 0#8 :: p.drop 3 ++ be16 (rowCheck (p.getD 2 0#8) (p.drop 3)).toNat).getD i 0#8) ∧
      (∀ x, ¬(fieldAt p 0 2 * 256 ≤ x ∧ x < fieldAt p 0 2 * 256 + 3 + liftBytes s.dev) →
        Memory.read t.dev.store.mem x = Memory.read s.dev.store.mem x) ∧
      (∀ row, row ∈ t.dev.store.written ↔ row = fieldAt p 0 2 ∨ row ∈ s.dev.store.written) ∧
      isWritten t.dev (fieldAt p 0 2) = true ∧
      readRow t.dev (fieldAt p 0 2) = ⟨p.getD 2 0#8, p.drop 3, true⟩ ∧
      t.dev = { s.dev with
        store := { s.dev.store with mem := t.dev.store.mem, written := t.dev.store.written }
        line := answered .rowWrite .done noDetail [] s.dev }) ∧
  (∀ (s : State) (p : List Byte), asked .rowWrite p s.dev = true →
    s.dev.control.state = .load ∨ s.dev.control.state = .ready →
    (p.length ≠ 3 + (if s.dev.control.role = .weftRole then 0 else capacityOf s.dev / 8) ∨ 16383 < fieldAt p 0 2 ∨
        (7 < fieldAt p 2 1 ∧ fieldAt p 2 1 ≠ 15) →
      exec .rowWrite s = .next { s with dev := { s.dev with line := answered .rowWrite .range noDetail [] s.dev } }) ∧
    (p.length = 3 → fieldAt p 0 2 ≤ 16383 → s.dev.control.state = .ready → s.dev.control.role = .weftRole →
      fieldAt p 2 1 ≤ 7 → (s.dev.weft.map[fieldAt p 2 1]?).join = none →
      exec .rowWrite s = .next { s with dev := { s.dev with
        line := answered .rowWrite .invalid ⟨.weftUnmapped, 0xFF, 0xFFFF, fieldAt p 2 1⟩ [] s.dev } }))

/-- A sound PICK fetch fills the pick result and hands on weft code (override by log 20), lift count and lift field.
(R66, R27, R130) The override is the one kept with the fetch since it began: the model's reading (log 20). -/
def Obligations.SoundFetchFillsThePick : Prop :=
  ∀ (s : State) (row e : Nat) (rev : Bool) (o : Option Nat), s.dev.control.powered = true →
    s.dev.control.role = .sectionRole → s.dev.store.fetch = .fetching row (.pick rev o) e →
    row ∈ s.dev.store.written → (readRow s.dev row).sound = true →
    ∃ t, exec (.fetchComplete []) s = .next t ∧ t.pending = s.pending ∧
      t.dev.store = { s.dev.store with
        fetch := .idle
        result := some ⟨row, (readRow s.dev row).weft.toNat, liftCount (readRow s.dev row).field,
          (readRow s.dev row).field, true⟩ } ∧
      t.dev.seq.pickWeft = some (o.getD (readRow s.dev row).weft.toNat) ∧
      t.dev.seq.pickLift = some (liftCount (readRow s.dev row).field) ∧
      t.dev.strings.strings.length = s.dev.strings.strings.length ∧
      (∀ i x, i < stringCount s.dev → t.dev.strings.strings[i]? = some x →
        x.shiftReg = stringBits (readRow s.dev row).field i ∧ x.pattern = true ∧ x.echo = false) ∧
      t.dev.seq.pos = s.dev.seq.pos ∧ t.dev.seq.history = s.dev.seq.history ∧ t.dev.seq.runs = s.dev.seq.runs ∧
      t.dev.tracker = s.dev.tracker ∧ t.dev.roster = s.dev.roster ∧ t.dev.trainer = s.dev.trainer ∧
      t.dev.control.state = s.dev.control.state

/-- A damaged row sets ROW DAMAGED, voids the pick in WEAVE and shifts a blank pick (override by log 20). (R67, R68,
R134, R27) The override is the one kept with the fetch since it began: the model's reading (log 20). -/
def Obligations.DamagedFetchVoidsThePick : Prop :=
  ∀ (s : State) (row e : Nat) (rev : Bool) (o : Option Nat), s.dev.control.powered = true →
    s.dev.control.role = .sectionRole → s.dev.store.fetch = .fetching row (.pick rev o) e →
    row ∉ s.dev.store.written ∨ (readRow s.dev row).sound = false →
    ∃ t, exec (.fetchComplete []) s = .next t ∧ t.pending = s.pending ∧
      t.dev.control.flags.getLsbD 6 = true ∧ t.dev.store.lastDamaged = some row ∧ t.dev.store.fetch = .idle ∧
      (s.dev.control.state = .weave → t.dev.seq.void = true) ∧
      t.dev.seq.pickWeft = some (o.getD 15) ∧ t.dev.seq.pickLift = some 0 ∧
      t.dev.strings.strings.length = s.dev.strings.strings.length ∧
      (∀ i x, i < stringCount s.dev → t.dev.strings.strings[i]? = some x →
        x.shiftReg = 0#128 ∧ x.pattern = true ∧ x.echo = false) ∧
      t.dev.strings.blank = true ∧ t.dev.strings.faults = s.dev.strings.faults ∧
      t.dev.seq.pos = s.dev.seq.pos ∧ t.dev.seq.history = s.dev.seq.history ∧
      t.dev.store.mem = s.dev.store.mem ∧ t.dev.store.written = s.dev.store.written ∧
      t.dev.tracker = s.dev.tracker ∧ t.dev.roster = s.dev.roster

/-- A shift compares the captured echo with the expected pattern, lists the faults in hook order, and asks for one hold.
(R130, R137, R66, R70, R44) A string marked with no expected pattern or capture position, which no capture leaves,
counts as none, or as at run 0 (log 32). -/
def Obligations.EchoIsComparedAndFaultsListed : Prop :=
  (∀ (d : Device) (f : FaultEntry), f ∈ compareAll d ↔
      ∃ (i p : Nat) (x : SelString) (ex : StringBits), i < stringCount d ∧ d.strings.strings[i]? = some x ∧
        x.echo = true ∧ x.expected = some ex ∧ p < 128 ∧
        f = ⟨i * 128 + p, if ex.getLsbD p then .openFault else .stuckOn, x.capturePos.getD Position.reset, 1⟩ ∧
        ex.getLsbD p ≠ x.shiftReg.getLsbD p) ∧
  (∀ d : Device, (compareAll d).Pairwise fun f g => f.hook < g.hook) ∧
  (∀ (d : Device) (f : FaultEntry),
    (takeFault d f).control.flags.getLsbD 13 = true ∧
    (∀ e ∈ d.strings.faults, e.hook = f.hook → e.kind = f.kind →
      (takeFault d f).strings = { d.strings with
        faults := d.strings.faults.map fun e =>
          if f.hook = e.hook ∧ f.kind = e.kind then { e with occurrences := min (e.occurrences + 1) 255 } else e }) ∧
    ((∀ e ∈ d.strings.faults, ¬(e.hook = f.hook ∧ e.kind = f.kind)) →
      (d.strings.faults.length < 32 →
        (takeFault d f).strings = { d.strings with faults := d.strings.faults ++ [f] }) ∧
      (32 ≤ d.strings.faults.length →
        (takeFault d f).strings = { d.strings with overflow := min (d.strings.overflow + 1) 65535 } ∧
        (takeFault d f).control.flags.getLsbD 12 = true))) ∧
  (∀ (s : State) (p : FetchPurpose) (row e : Nat),
      s.dev.control.powered = true →
      s.dev.control.role = .sectionRole →
      s.dev.store.fetch = .fetching row p e →
      row ∈ s.dev.store.written →
      (readRow s.dev row).sound = true →
      ∃ t, exec (.fetchComplete []) s = .next t ∧ t.pending = s.pending ∧
      t.dev.strings.faults = ((compareAll s.dev).foldl takeFault s.dev).strings.faults ∧
      t.dev.strings.overflow = ((compareAll s.dev).foldl takeFault s.dev).strings.overflow ∧
      (compareAll s.dev ≠ [] → t.dev.control.flags.getLsbD 13 = true) ∧
      (s.dev.strings.faults.length < t.dev.strings.faults.length ∨ s.dev.strings.overflow < t.dev.strings.overflow →
        s.dev.control.state = .weave → t.dev.seq.void = true ∧ (s.dev.line.stuck = false → ∃ n, t.dev.line.tx = .pulse n)) ∧
      (t.dev.strings.faults.length ≤ s.dev.strings.faults.length → t.dev.strings.overflow ≤ s.dev.strings.overflow →
        t.dev.seq.void = s.dev.seq.void) ∧
      t.dev.seq.pos = s.dev.seq.pos ∧ t.dev.seq.history = s.dev.seq.history ∧ t.dev.tracker = s.dev.tracker ∧ t.dev.roster = s.dev.roster)

/-- The receiver takes exactly the frame that a transmitter sent; its own, unwanted, unsound and overlong ones it drops
and counts as said. (R75, R77, R78, R79, R73, R90) -/
def Obligations.FrameIsReceivedAsSent : Prop :=
  (∀ (s : State) (f : Frame) (own : Bool), s.dev.control.powered = true → s.dev.line.rx = .header ⟨[], own⟩ →
    f.payload.length ≤ 160 →
    (∃ t, exec (.frameReceived (frameArriving f)) s = .next t ∧ t.pending = s.pending ∧ t.dev = { s.dev with line := t.dev.line } ∧ t.dev.line.rx = .hunt ∧
        t.dev.line.replySlot = s.dev.line.replySlot ∧ t.dev.line.beaconSlot = s.dev.line.beaconSlot ∧ t.dev.line.tx = s.dev.line.tx ∧
      (own = true → t.dev.line.queue = s.dev.line.queue ∧ t.dev.line.counters = s.dev.line.counters) ∧
      (own = false → f.kind ≠ beaconKind → f.dest.toNat ≠ s.dev.control.number → f.dest ≠ allNodes →
        t.dev.line.queue = s.dev.line.queue ∧ t.dev.line.counters = { s.dev.line.counters with goodFrames := min (s.dev.line.counters.goodFrames + 1) 65535 }) ∧
      (own = false → f.kind = beaconKind ∨ f.dest.toNat = s.dev.control.number ∨ f.dest = allNodes →
        (s.dev.line.queue.length < 4 → t.dev.line.queue = s.dev.line.queue ++ [f] ∧
          t.dev.line.counters = { s.dev.line.counters with goodFrames := min (s.dev.line.counters.goodFrames + 1) 65535 }) ∧
        (4 ≤ s.dev.line.queue.length → t.dev.line.queue = s.dev.line.queue ∧
          t.dev.line.counters = { s.dev.line.counters with goodFrames := min (s.dev.line.counters.goodFrames + 1) 65535, overruns := min (s.dev.line.counters.overruns + 1) 65535 }))) ∧
    (∀ high low : Byte, [high, low] ≠ be16 (cyclicCheck (frameBody f)).toNat →
      ∃ t, exec (.frameReceived ((frameBody f ++ [high, low]).map soundChar)) s = .next t ∧ t.pending = s.pending ∧ t.dev = { s.dev with line := t.dev.line } ∧ t.dev.line.rx = .hunt ∧
        t.dev.line.replySlot = s.dev.line.replySlot ∧ t.dev.line.beaconSlot = s.dev.line.beaconSlot ∧ t.dev.line.tx = s.dev.line.tx ∧
        t.dev.line.queue = s.dev.line.queue ∧ t.dev.line.counters = { s.dev.line.counters with checkErrors := min (s.dev.line.counters.checkErrors + 1) 65535 })) ∧
  (∀ (s : State) (dest source kind n : Byte) (own : Bool), s.dev.control.powered = true → s.dev.line.rx = .header ⟨[], own⟩ →
    160 < n.toNat →
    ∃ t, exec (.frameReceived ([dest, source, kind, n].map soundChar)) s = .next t ∧ t.pending = s.pending ∧ t.dev = { s.dev with line := t.dev.line } ∧ t.dev.line.rx = .hunt ∧
        t.dev.line.replySlot = s.dev.line.replySlot ∧ t.dev.line.beaconSlot = s.dev.line.beaconSlot ∧ t.dev.line.tx = s.dev.line.tx ∧
      t.dev.line.queue = s.dev.line.queue ∧ t.dev.line.counters = { s.dev.line.counters with checkErrors := min (s.dev.line.counters.checkErrors + 1) 65535 })

/-- A mark opens a frame; a character in error or a gap discards the frame and counts once, but not in a half mark (log
33). (R76, R77, R74, R89, R90) That the counters stay after a broken first or second mark character is the model's
reading (log 33). -/
def Obligations.ReceiverOpensAndDiscardsFrames : Prop :=
  (∀ (s : State) (c : LineChar), s.dev.control.powered = true →
    (∀ waits : Bool, s.dev.line.rx ≠ .hunt → (waits = true ↔ s.dev.line.rx = .awaitingRun) →
      (waits = false → c.stop = true → parityGood c = false → 
        ∃ t, exec (.frameReceived [c]) s = .next t ∧ t.pending = s.pending ∧
          t.dev = { s.dev with line := t.dev.line } ∧ t.dev.line.rx = .hunt ∧
          t.dev.line.counters =
            { s.dev.line.counters with parityFraming := min (s.dev.line.counters.parityFraming + 1) 65535 } ∧
          t.dev.line.queue = s.dev.line.queue ∧ t.dev.line.replySlot = s.dev.line.replySlot ∧
          t.dev.line.beaconSlot = s.dev.line.beaconSlot) ∧
      (waits = false → c.stop = false →
        ∃ t, exec (.frameReceived [c]) s = .next t ∧ t.pending = s.pending ∧
          t.dev = { s.dev with line := t.dev.line } ∧ t.dev.line.rx = .awaitingRun ∧
          t.dev.line.counters = s.dev.line.counters ∧ t.dev.line.queue = s.dev.line.queue ∧
          ((∀ n, s.dev.line.tx ≠ .pulse n) → t.dev.line.recessiveRun = 0 ∧ t.dev.line.dominantRun ≤ 11 ∧
            t.dev.line.dominantRun = ((charBits c).reverse.takeWhile (!·)).length)) ∧
      (waits = true → s.dev.line.dominantRun < 22 → 
        ∃ t, exec (.frameReceived [c]) s = .next t ∧ t.pending = s.pending ∧
          t.dev = { s.dev with line := t.dev.line } ∧ t.dev.line.rx = .hunt ∧
          t.dev.line.counters =
            { s.dev.line.counters with parityFraming := min (s.dev.line.counters.parityFraming + 1) 65535 } ∧
          t.dev.line.queue = s.dev.line.queue ∧ t.dev.line.replySlot = s.dev.line.replySlot ∧
          t.dev.line.beaconSlot = s.dev.line.beaconSlot)) ∧
    (s.dev.line.rx ≠ .hunt → (s.dev.line.rx = .awaitingRun → s.dev.line.dominantRun < 22) → 
        ∃ t, exec .receiveGap s = .next t ∧ t.pending = s.pending ∧
          t.dev = { s.dev with line := t.dev.line } ∧ t.dev.line.rx = .hunt ∧
          t.dev.line.counters =
            { s.dev.line.counters with parityFraming := min (s.dev.line.counters.parityFraming + 1) 65535 } ∧
          t.dev.line.queue = s.dev.line.queue ∧ t.dev.line.replySlot = s.dev.line.replySlot ∧
          t.dev.line.beaconSlot = s.dev.line.beaconSlot) ∧
    (s.dev.line.rx = .hunt → (∀ n, s.dev.line.tx ≠ .pulse n) →
      exec .receiveGap s = .next { s with dev := { s.dev with line := { s.dev.line with
        recessiveRun := min (max 12 s.dev.line.recessiveRun) 1000, dominantRun := 0, ownPulse := false
        halfBit := false } } }) ∧
    (∀ n, s.dev.line.rx = .hunt → s.dev.line.tx = .pulse n → exec .receiveGap s = .next s) ∧
    (s.dev.line.rx = .hunt →
      ∃ t, exec (.frameReceived [c]) s = .next t ∧ t.pending = s.pending ∧ t.dev = { s.dev with line := t.dev.line } ∧
        t.dev.line.rx = .hunt ∧ t.dev.line.counters = s.dev.line.counters ∧
        t.dev.line.queue = s.dev.line.queue)) ∧
  (∀ l : Line, (l.rx ≠ .awaitingRun → judgeStopBit l = l) ∧
    (l.rx = .awaitingRun → judgeStopBit l = { l with
      rx := .hunt
      counters := if l.dominantRun < 22 then { l.counters with parityFraming := min (l.counters.parityFraming + 1) 65535 }
        else l.counters })) ∧
  (∀ (s : State) (recessive : Nat) (first : LineChar) (second : Option LineChar), s.dev.control.powered = true →
    ∃ t, exec (.frameMark recessive first second) s = .next t ∧ t.pending = s.pending ∧
      t.dev = { s.dev with line := t.dev.line } ∧ t.dev.line.queue = s.dev.line.queue ∧
      t.dev.line.replySlot = s.dev.line.replySlot ∧ t.dev.line.beaconSlot = s.dev.line.beaconSlot ∧
      (∀ l : Line, ((∃ n, s.dev.line.tx = .pulse n) → l = s.dev.line) →
        ((∀ n, s.dev.line.tx ≠ .pulse n) → l = judgeStopBit s.dev.line) →
        (l.rx ≠ .awaitingRun → t.dev.line.counters = l.counters) ∧
        (l.rx = .hunt → s.dev.line.stuck = false → 12 ≤ recessive → first = soundChar 0xB4#8 →
          second = some (soundChar 0x2D#8) → ∃ own, t.dev.line.rx = .header ⟨[], own⟩) ∧
        (l.rx ≠ .hunt ∨ s.dev.line.stuck = true ∨ recessive < 12 ∨ first ≠ soundChar 0xB4#8 ∨
          second ≠ some (soundChar 0x2D#8) → t.dev.line.rx = l.rx)))

/-- A dominant run of 2,001 bt makes the line STUCK; 12 bt of recessive line clear it. (R89, R74) -/
def Obligations.LineSticksAndClears : Prop :=
  ∀ s : State, s.dev.control.powered = true →
    exec .lineStuck s = .next { s with dev := { s.dev with
      line := { s.dev.line with
        stuck := true, rx := .hunt, recessiveRun := 0, dominantRun := 2001, halfBit := false }
      control := { s.dev.control with flags := s.dev.control.flags ||| BitVec.twoPow 30 17 } } } ∧
    (s.dev.line.stuck = true → (∀ n, s.dev.line.tx ≠ .pulse n) →
      exec .lineClear s = .next { s with dev := { s.dev with
        line := { judgeStopBit s.dev.line with
          stuck := false, recessiveRun := min (max 12 s.dev.line.recessiveRun) 1000, dominantRun := 0, ownPulse := false
          halfBit := false } } }) ∧
    (∀ n, s.dev.line.stuck = false ∨ s.dev.line.tx = .pulse n → exec .lineClear s = .next s)

/-- A frame starts when the line has been recessive for the access wait, beacon before reply. (R83, R75, R92) -/
def Obligations.FrameStartTakesTheBeaconFirst : Prop :=
  ∀ (s : State) (recessive : Nat), s.dev.control.powered = true → recessive ≤ 1000 →
    ∃ t, exec (.frameStart recessive) s = .next t ∧ t.pending = s.pending ∧
      t.dev = { s.dev with line := t.dev.line } ∧ t.dev.line.queue = s.dev.line.queue ∧
      t.dev.line.replySlot = s.dev.line.replySlot ∧ t.dev.line.beaconSlot = s.dev.line.beaconSlot ∧
      (s.dev.line.rx ≠ .awaitingRun → t.dev.line.counters = s.dev.line.counters) ∧
      (s.dev.line.tx = .idle → t.dev.line.counters = (judgeStopBit s.dev.line).counters) ∧
      (s.dev.line.tx = .idle → s.dev.line.stuck = false → s.dev.line.accessWait ≤ recessive →
        (∀ x, s.dev.line.beaconSlot = some x → t.dev.line.tx = .sending .beacon (frameChars x.frame)) ∧
        (∀ x, s.dev.line.beaconSlot = none → s.dev.line.replySlot = some x →
          t.dev.line.tx = .sending .reply (frameChars x.frame)) ∧
        (s.dev.line.beaconSlot.isSome ∨ s.dev.line.replySlot.isSome →
          t.dev.line.accessWait = (if s.dev.control.state = .fault then 1000 else 12))) ∧
      (s.dev.line.tx ≠ .idle ∨ s.dev.line.stuck = true ∨ recessive < s.dev.line.accessWait ∨
        (s.dev.line.beaconSlot = none ∧ s.dev.line.replySlot = none) → t.dev.line.tx = s.dev.line.tx)

/-- A frame sent whole leaves its slot; an abandoned attempt counts and waits, and the eighth discards the frame. (R84,
R85, R81, R92, R74) The bit read dominant makes the dominant run at least 1 bt, where the ticks have not counted it
already (log 7). -/
def Obligations.TransmissionEndsAsItsSlotGives : Prop :=
  (∀ (s : State) (slot : SlotName) (chars : List Byte) (x : Slot), s.dev.control.powered = true →
    s.dev.line.tx = .sending slot chars → slotOf slot s.dev = some x → s.dev.control.resetPending = none →
    ∃ t, exec .attemptAbandoned s = .next t ∧ t.pending = s.pending ∧ t.dev = { s.dev with line := t.dev.line } ∧
      t.dev.line.tx = .idle ∧ t.dev.line.queue = s.dev.line.queue ∧
      t.dev.line.accessWait =
        (if s.dev.control.state = .fault then 1000 else (s.dev.control.number + 1) * 12) ∧
      t.dev.line.counters.abandoned = min (s.dev.line.counters.abandoned + 1) 65535 ∧
      (x.attempts < 7 → slotOf slot t.dev = some ⟨x.frame, x.attempts + 1⟩ ∧
        t.dev.line.counters.collisionLimits = s.dev.line.counters.collisionLimits) ∧
      (7 ≤ x.attempts → slotOf slot t.dev = (if slot = .reply then s.dev.line.completion.map (fun f => ⟨f, 0⟩) else none) ∧
        t.dev.line.counters.collisionLimits = min (s.dev.line.counters.collisionLimits + 1) 65535) ∧
      t.dev.line.recessiveRun = 0 ∧ t.dev.line.dominantRun = min (max 1 s.dev.line.dominantRun) 2001 ∧
      t.dev.line.ownPulse = s.dev.line.ownPulse ∧
      (slot = .reply → t.dev.line.beaconSlot = s.dev.line.beaconSlot) ∧
      (slot = .beacon → t.dev.line.replySlot = s.dev.line.replySlot)) ∧
  (∀ (s : State) (slot : SlotName) (chars : List Byte), s.dev.control.powered = true →
    s.dev.line.tx = .sending slot chars → s.dev.control.resetPending = none →
    ∃ t, exec .frameSent s = .next t ∧ t.pending = s.pending ∧
      t.dev = { s.dev with line := { s.dev.line with
        tx := .idle
        accessWait := if s.dev.control.state = .fault then 1000 else 12
        beaconSlot := t.dev.line.beaconSlot
        replySlot := t.dev.line.replySlot
        completion := t.dev.line.completion
        recessiveRun := ((charBits (soundChar (chars.getLastD 0#8))).reverse.takeWhile id).length
        dominantRun := 0
        ownPulse := false
        halfBit := false } } ∧
      (slot = .beacon → t.dev.line.beaconSlot = none ∧ t.dev.line.replySlot = s.dev.line.replySlot ∧
        t.dev.line.completion = s.dev.line.completion) ∧
      (slot = .reply → t.dev.line.beaconSlot = s.dev.line.beaconSlot ∧
        t.dev.line.replySlot = s.dev.line.completion.map (fun f => ⟨f, 0⟩) ∧ t.dev.line.completion = none))

/-- A sound beacon is taken into its peer's entry; one with the station's own number faults the station. (R100, R99,
R103, R101, R91, R92, R128, R158, R82, R148) Which finger bytes a beacon may carry the rules do not say; the model
accepts every one (log 46). -/
def Obligations.BeaconsReachTheRoster : Prop :=
  (∀ (s : State) (f : Frame) (rest : List Frame) (e : RosterEntry), s.dev.control.powered = true →
    s.dev.line.queue = f :: rest → f.kind = beaconKind → f.source.toNat ≤ 31 →
    f.source.toNat ≠ s.dev.control.number → beaconEntry f.source.toNat f.payload = some e →
    ∃ t, exec .beaconTaken s = .next t ∧ t.pending = s.pending ∧
      t.dev = { s.dev with
        line := { s.dev.line with queue := rest }
        roster := { s.dev.roster with entries := t.dev.roster.entries }
        control := { s.dev.control with flags :=
          if e.state = .weave then s.dev.control.flags else s.dev.control.flags ||| BitVec.twoPow 30 19 } } ∧
      (∃ x ∈ t.dev.roster.entries, x.station = f.source.toNat ∧ x.role = e.role ∧ x.state = e.state ∧ x.pos = e.pos ∧
        x.lift = e.lift ∧ x.capacity = e.capacity ∧ x.weft = e.weft ∧ x.lapsed = false ∧
        (s.dev.control.state = .weave → s.dev.roster.windowOpen = true → x.heard = true)) ∧
      (∀ y : RosterEntry, y.station ≠ f.source.toNat →
        (y ∈ t.dev.roster.entries ↔ y ∈ s.dev.roster.entries)) ∧
      ((s.dev.roster.entries.map (·.station)).Pairwise (· < ·) →
        ∀ x ∈ t.dev.roster.entries, x.station = f.source.toNat →
          (∀ y ∈ s.dev.roster.entries, y.station = f.source.toNat → x.misses = y.misses ∧
            x.heard = (decide (s.dev.control.state = .weave) && s.dev.roster.windowOpen || y.heard)) ∧
          ((∀ y ∈ s.dev.roster.entries, y.station ≠ f.source.toNat) → x.misses = 0 ∧
            x.heard = (decide (s.dev.control.state = .weave) && s.dev.roster.windowOpen)))) ∧
  (∀ (s : State) (f : Frame) (rest : List Frame), s.dev.control.powered = true →
    s.dev.line.queue = f :: rest → f.kind = beaconKind → f.source.toNat ≤ 31 →
    f.source.toNat = s.dev.control.number →
    ∃ t, exec .beaconTaken s = .next t ∧ t.pending = s.pending ∧
      t.dev.line.queue = rest ∧ t.dev.control.flags.getLsbD 18 = true ∧
      t.dev.roster.entries = s.dev.roster.entries ∧ t.dev.store.mem = s.dev.store.mem ∧
      t.dev.seq.pos = s.dev.seq.pos ∧
      (s.dev.control.state = .dormant ∨ s.dev.control.state = .fault →
        t.dev = { s.dev with
          line := { s.dev.line with queue := rest }
          control := { s.dev.control with flags := s.dev.control.flags ||| BitVec.twoPow 30 18 } }) ∧
      (s.dev.control.state ≠ .dormant → s.dev.control.state ≠ .fault →
        t.dev.control.state = .fault ∧ t.dev.strings.power = .off ∧
        (t.dev.strings.strings.all fun x => decide (x.drive = .off)) = true ∧ t.dev.line.beaconSlot = none ∧
        t.dev.line.accessWait = 1000 ∧ (s.dev.line.stuck = false → ∃ n, t.dev.line.tx = .pulse n) ∧
        (s.dev.control.state = .weave → t.dev.weft.output = none) ∧
        (s.dev.control.state = .train → t.dev.control.flags.getLsbD 22 = true ∧
          t.dev.trainer = { s.dev.trainer with phase := .idle, timer := 0 } ∧
          (t.dev.strings.strings.all fun x => decide (x.chain = .resting)) = true ∧
          t.dev.strings.strings.map (·.result) = s.dev.strings.strings.map (·.result) ∧
          t.dev.strings.strings.map (·.latency) = s.dev.strings.strings.map (·.latency)))) ∧
  (∀ (s : State) (f : Frame) (rest : List Frame), s.dev.control.powered = true →
    s.dev.line.queue = f :: rest → f.kind = beaconKind →
    31 < f.source.toNat ∨ (f.source.toNat ≠ s.dev.control.number ∧ beaconEntry f.source.toNat f.payload = none) →
    exec .beaconTaken s = .next { s with dev := { s.dev with line := { s.dev.line with queue := rest } } }) ∧
  (∀ (station : Nat) (p : List Byte),
    (beaconEntry station p = none ↔
      p.length ≠ 16 ∨ 6 < fieldAt p 0 1 ∨ 1 < fieldAt p 1 1 ∨ 63 < fieldAt p 3 1 ∨ fieldAt p 4 2 = 0 ∨ 4095 < fieldAt p 4 2 ∨
      16383 < fieldAt p 6 2 ∨ (7 < fieldAt p 14 1 ∧ fieldAt p 14 1 ≠ 15) ∨
      (fieldAt p 1 1 = 0 ∧ fieldAt p 12 2 ∉ [256, 512, 768, 1024]) ∨ (fieldAt p 1 1 = 1 ∧ fieldAt p 12 2 ≠ 0) ∨
      fieldAt p 12 2 < fieldAt p 10 2) ∧
    (∀ e, beaconEntry station p = some e →
      e.station = station ∧ stateCode e.state = fieldAt p 0 1 ∧ roleCode e.role = fieldAt p 1 1 ∧
      e.pos = ⟨fieldAt p 3 1, fieldAt p 4 2, fieldAt p 6 2, fieldAt p 8 2⟩ ∧ e.lift = fieldAt p 10 2 ∧
      e.capacity = fieldAt p 12 2 ∧ e.weft = fieldAt p 14 1))

/-- The beacon is built of the fields as they stand when the row is ready and the guard has passed, and replaces an
unsent one. (R95, R96, R82, R48) The weft code and lift count of the pick are held as the sequencer was handed them
(log 20). -/
def Obligations.BeaconIsBuiltWhenBothMarksStand : Prop :=
  (∀ (s : State) (c : Configuration) (row e : Nat) (o : Option Nat) (rowReady : Bool),
      s.dev.control.powered = true →
      s.dev.control.config = some c →
      s.dev.store.fetch = .fetching row (.pick false o) e →
      s.dev.line.beaconDue = .due rowReady true →
      ∃ t, exec (.fetchComplete []) s = .next t ∧ t.pending = s.pending ∧
      t.dev.line.beaconSlot = some ⟨⟨63#8, byte s.dev.control.number, 0xA1#8,
          [3#8, byte (if t.dev.control.role = .sectionRole then 0 else 1),
            byte ((if t.dev.control.flags &&& t.dev.control.mask = 0#30 then 0 else 1)
              + (if t.dev.control.role = .sectionRole ∧ t.dev.strings.faults ≠ [] then 2 else 0)
              + (if t.dev.seq.void then 4 else 0)), byte t.dev.seq.pos.run]
            ++ be16 t.dev.seq.pos.iteration ++ be16 t.dev.seq.pos.row ++ be16 (t.dev.seq.pos.piece % 65536)
            ++ be16 (if t.dev.control.role = .sectionRole then t.dev.seq.pickLift.getD 0 else 0)
            ++ be16 (if t.dev.control.role = .sectionRole then c.capacity else 0)
            ++ [byte (recordedWeft t.dev),
              if t.dev.control.role = .weftRole then byte ((chosenFinger t.dev.weft.choice).getD 255) else 0xFF#8]⟩, 0⟩ ∧
      t.dev.line.beaconDue = .built ∧ t.dev.line.replySlot = s.dev.line.replySlot ∧ t.dev.line.queue = s.dev.line.queue ∧
      t.dev.line.counters = { s.dev.line.counters with
        beaconsLate := if s.dev.line.beaconSlot = none then s.dev.line.counters.beaconsLate
          else min (s.dev.line.counters.beaconsLate + 1) 65535 } ∧
      (s.dev.line.beaconSlot ≠ none → ∀ chars, t.dev.line.tx ≠ .sending .beacon chars)) ∧
  (∀ (a b : Bool) (dt : Lapse) (sense : List StringBits) (s : State) (c : Configuration) (gone : Bool),
      referencedBy c s.dev = true →
      stepsOnto .forward a b (guardEnd c) s.dev = true →
      c.g ≠ 0 →
      s.dev.line.beaconDue = .due true gone →
      ∃ t, exec (.countingStep a b false dt sense) s = .next t ∧ t.pending = s.pending ∧
      t.dev.line.beaconSlot = some ⟨⟨63#8, byte s.dev.control.number, 0xA1#8,
          [3#8, byte (if t.dev.control.role = .sectionRole then 0 else 1),
            byte ((if t.dev.control.flags &&& t.dev.control.mask = 0#30 then 0 else 1)
              + (if t.dev.control.role = .sectionRole ∧ t.dev.strings.faults ≠ [] then 2 else 0)
              + (if t.dev.seq.void then 4 else 0)), byte t.dev.seq.pos.run]
            ++ be16 t.dev.seq.pos.iteration ++ be16 t.dev.seq.pos.row ++ be16 (t.dev.seq.pos.piece % 65536)
            ++ be16 (if t.dev.control.role = .sectionRole then t.dev.seq.pickLift.getD 0 else 0)
            ++ be16 (if t.dev.control.role = .sectionRole then c.capacity else 0)
            ++ [byte (recordedWeft t.dev),
              if t.dev.control.role = .weftRole then byte ((chosenFinger t.dev.weft.choice).getD 255) else 0xFF#8]⟩, 0⟩ ∧
      t.dev.line.beaconDue = .built ∧ t.dev.line.replySlot = s.dev.line.replySlot ∧ t.dev.line.queue = s.dev.line.queue ∧
      t.dev.line.counters = { s.dev.line.counters with
        parityFraming := t.dev.line.counters.parityFraming
        beaconsLate := if s.dev.line.beaconSlot = none then s.dev.line.counters.beaconsLate
          else min (s.dev.line.counters.beaconsLate + 1) 65535 } ∧
      (s.dev.line.rx ≠ .awaitingRun →
        t.dev.line.counters.parityFraming = s.dev.line.counters.parityFraming) ∧
      (s.dev.line.beaconSlot ≠ none → ∀ chars, t.dev.line.tx ≠ .sending .beacon chars)) ∧
  (∀ (a b : Bool) (dt : Lapse) (sense : List StringBits) (s : State) (c : Configuration),
      referencedBy c s.dev = true →
      stepsOnto .forward a b (guardEnd c) s.dev = true →
      c.g ≠ 0 →
      ∃ t, exec (.countingStep a b false dt sense) s = .next t ∧ t.pending = s.pending ∧
      t.dev.seq.guardOpen = false ∧
      (∀ gone, s.dev.line.beaconDue = .due false gone → t.dev.line.beaconDue = .due false true) ∧
      (s.dev.line.beaconDue = .idle ∨ s.dev.line.beaconDue = .built → t.dev.line.beaconDue = s.dev.line.beaconDue) ∧
      (s.dev.line.beaconDue ≠ .due true true → s.dev.line.beaconDue ≠ .due true false →
        t.dev.line.beaconSlot = s.dev.line.beaconSlot ∧
        t.dev.line.counters = { s.dev.line.counters with parityFraming := t.dev.line.counters.parityFraming }) ∧
      (s.dev.line.rx ≠ .awaitingRun →
        t.dev.line.counters.parityFraming = s.dev.line.counters.parityFraming))

/-- Frames that nothing executes leave the queue; a request with no room for its reply is dropped and counted. (R80,
R79, R81, R90, R170) That a RESET which waits stops this too is log 39's reading of R179. -/
def Obligations.UnansweredFramesAreDiscarded : Prop :=
  (∀ s : State, s.dev.control.powered = true →
    (s.dev.control.resetPending.isSome → exec .frameDiscarded s = .next s) ∧
    (s.dev.line.queue = [] → exec .frameDiscarded s = .next s) ∧
    (s.dev.control.resetPending = none → ∀ f rest, s.dev.line.queue = f :: rest →
      (f.kind = 0xA1#8 → exec .frameDiscarded s = .next s) ∧
      (f.kind ≠ 0xA1#8 → ¬(0xC1 ≤ f.kind.toNat ∧ f.kind.toNat ≤ 0xD7 ∧ f.source = 40#8) →
        exec .frameDiscarded s = .next { s with dev := { s.dev with line := { s.dev.line with queue := rest } } }) ∧
      (0xC1 ≤ f.kind.toNat → f.kind.toNat ≤ 0xD7 → f.source = 40#8 → f.dest = 63#8 →
        (f.kind = 0xCA#8 ∧ s.dev.control.state = .ready ∨
            f.kind = 0xCB#8 ∧ s.dev.control.state = .weave ∧ s.dev.tracker.speed = .stalled ∨ f.kind = 0xD7#8 →
          exec .frameDiscarded s = .next s) ∧
        (¬(f.kind = 0xCA#8 ∧ s.dev.control.state = .ready ∨
            f.kind = 0xCB#8 ∧ s.dev.control.state = .weave ∧ s.dev.tracker.speed = .stalled ∨ f.kind = 0xD7#8) →
          exec .frameDiscarded s =
            .next { s with dev := { s.dev with line := { s.dev.line with queue := rest } } })) ∧
      (0xC1 ≤ f.kind.toNat → f.kind.toNat ≤ 0xD7 → f.source = 40#8 → f.dest ≠ 63#8 →
        (s.dev.line.replySlot.isSome ∨ s.dev.line.completion.isSome →
          exec .frameDiscarded s = .next { s with dev := { s.dev with line := { s.dev.line with
            queue := rest
            counters := { s.dev.line.counters with
              requestsDropped := min (s.dev.line.counters.requestsDropped + 1) 65535 } } } }) ∧
        (s.dev.line.replySlot = none → s.dev.line.completion = none → exec .frameDiscarded s = .next s)))) ∧
  (∀ (r : Request) (arm : BitVec 8) (p : List Byte) (s : State), s.dev.control.number < 32 →
    requestAt r (byte s.dev.control.number) p s.dev = true →
    s.dev.line.replySlot.isSome ∨ s.dev.line.completion.isSome →
    exec (requestInstr arm r) s = .next { s with dev := { s.dev with line := { s.dev.line with
      queue := s.dev.line.queue.tail
      counters := { s.dev.line.counters with
        requestsDropped := min (s.dev.line.counters.requestsDropped + 1) 65535 } } } })

/-- A request outside its states is refused with STATE or BUSY, one of a wrong length with RANGE; neither changes
anything. (R170, 12.2, R94, R149, 5.9) -/
def Obligations.RequestIsRefusedOutsideItsStates : Prop :=
  (∀ (r : Request) (arm : BitVec 8) (p : List Byte) (s : State), asked r p s.dev = true →
    s.dev.control.state ∉ takenIn r →
    exec (requestInstr arm r) s = .next { s with dev := { s.dev with
      line := answered r (if s.dev.control.state = .train then .busy else .state) noDetail [] s.dev } }) ∧
  (∀ (r : Request) (arm : BitVec 8) (p : List Byte) (s : State) (n : Nat), asked r p s.dev = true →
    s.dev.control.state ∈ takenIn r →
    (r, n) ∈ [(.loadDone, 0), (.positionSet, 8), (.positionResume, 0), (.arm, 0), (.disarm, 0), (.testStep, 0),
      (.testEnd, 0), (.train, 0), (.reset, 0)] →
    p.length ≠ n → (r = .train → s.dev.control.role = .sectionRole) →
    exec (requestInstr arm r) s = .next { s with dev := { s.dev with line := answered r .range noDetail [] s.dev } })

/-- ARM makes the station WEAVE, its pick void; DISARM makes it READY when the shaft stands (broadcast with any payload:
log 30). (R174, R169, R35, R170) That a broadcast ARM or DISARM acts whatever the length of its payload is the
model's reading (log 30). -/
def Obligations.ArmAndDisarm : Prop :=
  ((∀ s : State, asked .arm [] s.dev = true → s.dev.control.state = .ready →
      ∃ t, exec .arm s = .next t ∧ t.pending = s.pending ∧
        t.dev = { s.dev with
          control := { s.dev.control with state := .weave }
          seq := { s.dev.seq with void := true }
          strings := t.dev.strings
          line := answered .arm .done noDetail [] s.dev } ∧
        (dwellDue s.dev = true → t.dev.strings.power = .off) ∧
        (dwellDue s.dev = false → t.dev.strings = s.dev.strings)) ∧
    (∀ s : State, asked .disarm [] s.dev = true → s.dev.control.state = .weave →
      s.dev.tracker.speed ≠ .stalled →
      exec .disarm s = .next { s with dev := { s.dev with line := answered .disarm .moving noDetail [] s.dev } }) ∧
    (∀ s : State, asked .disarm [] s.dev = true → s.dev.control.state = .weave →
      s.dev.tracker.speed = .stalled →
      ∃ t, exec .disarm s = .next t ∧ t.pending = s.pending ∧
        t.dev.control = { s.dev.control with state := .ready } ∧
        t.dev.seq = { s.dev.seq with guardOpen := false } ∧
        t.dev.roster = { s.dev.roster with windowOpen := false, minority := false } ∧
        t.dev.line.beaconSlot = none ∧ t.dev.line.beaconDue = .idle ∧
        t.dev.line.queue = s.dev.line.queue.tail ∧
        t.dev.line.replySlot = some ⟨replyFrame s.dev .disarm .done noDetail [], 0⟩ ∧
        (∀ row rev o e, t.dev.store.fetch ≠ .fetching row (.pick rev o) e) ∧
        t.dev.store.mem = s.dev.store.mem ∧ t.dev.store.written = s.dev.store.written ∧
        (t.dev.strings.strings.all fun x => decide (x.drive = .off) && decide (x.chain = .resting)) = true ∧
        t.dev.weft = { s.dev.weft with choice := .none, output := none, arrival := .idle } ∧
        t.dev.fire.phase = .idle ∧ t.dev.tracker = s.dev.tracker ∧ t.dev.trainer = s.dev.trainer ∧
        t.dev.pins = s.dev.pins)) ∧
  ((∀ (p : List Byte) (s : State), requestAt .arm allNodes p s.dev = true →
      ∃ t, exec .arm s = .next t ∧ t.pending = s.pending ∧
        t.dev.line = { s.dev.line with queue := s.dev.line.queue.tail } ∧
        (s.dev.control.state = .ready → t.dev.control = { s.dev.control with state := .weave } ∧
          t.dev.seq = { s.dev.seq with void := true }) ∧
        (s.dev.control.state ≠ .ready → t.dev = { s.dev with line := t.dev.line })) ∧
    (∀ (p : List Byte) (s : State), requestAt .disarm allNodes p s.dev = true →
      ∃ t, exec .disarm s = .next t ∧ t.pending = s.pending ∧ t.dev.line.replySlot = s.dev.line.replySlot ∧
        t.dev.line.queue = s.dev.line.queue.tail ∧
        (s.dev.control.state = .weave → s.dev.tracker.speed = .stalled →
          t.dev.control = { s.dev.control with state := .ready } ∧
          t.dev.seq = { s.dev.seq with guardOpen := false } ∧ t.dev.roster.windowOpen = false ∧
          (t.dev.strings.strings.all fun x => decide (x.drive = .off)) = true) ∧
        (s.dev.control.state ≠ .weave ∨ s.dev.tracker.speed ≠ .stalled →
          t.dev = { s.dev with line := { s.dev.line with queue := s.dev.line.queue.tail } })))

/-- CONFIGURE is refused with ROLE, RANGE or ORDER in that order, or stores the clamped configuration and makes LOAD.
(R171, R172, R94, R127) -/
def Obligations.ConfigureIsCheckedAndTaken : Prop :=
  ∀ (s : State) (p : List Byte), asked .configure p s.dev = true → s.dev.control.state = .dormant →
    (p.length = configLength (otherRole s.dev.control.role) →
      exec .configure s =
        .next { s with dev := { s.dev with line := answered .configure .role noDetail [] s.dev } }) ∧
    (p.length ≠ 34 → p.length ≠ 22 →
      exec .configure s =
        .next { s with dev := { s.dev with line := answered .configure .range noDetail [] s.dev } }) ∧
    (p.length = configLength s.dev.control.role →
      fieldsInRange s.dev.control.role (configFields s.dev.control.role p) = false →
      exec .configure s =
        .next { s with dev := { s.dev with line := answered .configure .range noDetail [] s.dev } }) ∧
    (p.length = configLength s.dev.control.role →
      fieldsInRange s.dev.control.role (configFields s.dev.control.role p) = true →
      anglesInOrder s.dev.control.role
        (clamped s.dev.control.role (configFields s.dev.control.role p)) = false →
      exec .configure s =
        .next { s with dev := { s.dev with line := answered .configure .order noDetail [] s.dev } }) ∧
    (p.length = configLength s.dev.control.role →
      fieldsInRange s.dev.control.role (configFields s.dev.control.role p) = true →
      anglesInOrder s.dev.control.role
        (clamped s.dev.control.role (configFields s.dev.control.role p)) = true →
      ∃ t c, exec .configure s = .next t ∧ t.pending = s.pending ∧
        c = clamped s.dev.control.role (configFields s.dev.control.role p) ∧
        t.dev = { s.dev with
          control := { s.dev.control with state := .load, config := some c }
          strings := t.dev.strings
          line := answered .configure
            (if c = configFields s.dev.control.role p then .done else .doneAdjusted) noDetail
            (configData s.dev.control.role c) s.dev } ∧
        t.dev.strings.power = .off ∧ t.dev.strings.strings.length = s.dev.strings.strings.length ∧
        (∀ i x, i < stringCount t.dev → t.dev.strings.strings[i]? = some x →
          x.latency = some c.latency ∧ x.result = .notRun))

/-- RUN WRITE, MATCH WRITE and WEFT MAP WRITE replace one whole place each and answer DONE, or are refused with RANGE or
ROLE. (R18, R164, R152, R94, 5.9) -/
def Obligations.ProgrammeIsWritten : Prop :=
  (∀ (s : State) (p : List Byte),
    (asked .runWrite p s.dev = true → s.dev.control.state = .load → p.length = 10 → fieldAt p 0 1 ≤ 63 →
      runInRange (runFields p) = true →
      exec .runWrite s = .next { s with dev := { s.dev with
        seq := { s.dev.seq with
          runs := s.dev.seq.runs.set (fieldAt p 0 1) (some (runFields p))
          startRun := if (p.getD 9 0#8).getLsbD 0 then fieldAt p 0 1 else s.dev.seq.startRun }
        line := answered .runWrite .done noDetail [] s.dev } }) ∧
    (asked .matchWrite p s.dev = true →
      s.dev.control.state = .load ∨ s.dev.control.state = .ready ∨ s.dev.control.state = .weave →
      p.length = 12 → fieldAt p 0 1 ≤ 11 →
      ∀ act, actionOf (fieldAt p 10 1) = some act → matchInRange (matchFields p act) = true →
      exec .matchWrite s = .next { s with dev := { s.dev with
        seq := { s.dev.seq with table := s.dev.seq.table.set (fieldAt p 0 1) (matchFields p act) }
        line := answered .matchWrite .done noDetail [] s.dev } }) ∧
    (asked .weftMapWrite p s.dev = true → s.dev.control.state = .load → s.dev.control.role = .weftRole →
      p.length = 4 → fieldAt p 0 1 ≤ 7 → mapInRange (mapFields p) = true →
      exec .weftMapWrite s = .next { s with dev := { s.dev with
        weft := { s.dev.weft with map := s.dev.weft.map.set (fieldAt p 0 1) (some (mapFields p)) }
        line := answered .weftMapWrite .done noDetail [] s.dev } })) ∧
  (∀ (s : State) (p : List Byte),
    (asked .runWrite p s.dev = true → s.dev.control.state = .load →
      p.length ≠ 10 ∨ 63 < fieldAt p 0 1 ∨ 16383 < fieldAt p 1 2 ∨ 16383 < fieldAt p 3 2 ∨ fieldAt p 5 2 = 0 ∨
        4095 < fieldAt p 5 2 ∨ 63 < fieldAt p 7 1 ∨ (7 < fieldAt p 8 1 ∧ fieldAt p 8 1 ≠ 15 ∧ fieldAt p 8 1 ≠ 255) →
      exec .runWrite s = .next { s with dev := { s.dev with line := answered .runWrite .range noDetail [] s.dev } }) ∧
    (asked .matchWrite p s.dev = true →
      s.dev.control.state = .load ∨ s.dev.control.state = .ready ∨ s.dev.control.state = .weave →
      p.length ≠ 12 ∨ 11 < fieldAt p 0 1 ∨ 2 < fieldAt p 10 1 ∨
        ((p.getD 1 0#8).getLsbD 0 = false ∧ 63 < fieldAt p 2 1) ∨
        ((p.getD 1 0#8).getLsbD 1 = false ∧ (fieldAt p 3 2 = 0 ∨ 4095 < fieldAt p 3 2)) ∨
        ((p.getD 1 0#8).getLsbD 2 = false ∧ 16383 < fieldAt p 5 2) →
      exec .matchWrite s = .next { s with dev := { s.dev with line := answered .matchWrite .range noDetail [] s.dev } }) ∧
    (asked .weftMapWrite p s.dev = true → s.dev.control.state = .load →
      (s.dev.control.role = .sectionRole →
        exec .weftMapWrite s = .next { s with dev := { s.dev with line := answered .weftMapWrite .role noDetail [] s.dev } }) ∧
      (s.dev.control.role = .weftRole →
        p.length ≠ 4 ∨ 7 < fieldAt p 0 1 ∨ 7 < fieldAt p 1 1 ∨ (7 < fieldAt p 2 1 ∧ fieldAt p 2 1 ≠ 255) ∨
          fieldAt p 2 1 = fieldAt p 1 1 →
        exec .weftMapWrite s = .next { s with dev := { s.dev with line := answered .weftMapWrite .range noDetail [] s.dev } })))

/-- LOAD DONE sets the start position and READY, or is refused with the first failure of R29 to R32 and changes nothing
(pick data: log 20). (R29, R30, R31, R32, R33, R34) That no weft code and lift count is held for the pick after it
is the model's reading (log 20). The second pass takes the weft code byte of a slot as it stands (log 44). -/
def Obligations.LoadDonePassesOrChangesNothing : Prop :=
  (∀ s : State, asked .loadDone [] s.dev = true → s.dev.control.state = .load →
    (runAt s.dev.seq.runs s.dev.seq.startRun = none →
      loadFailure s.dev = some ⟨.startUnwritten, s.dev.seq.startRun, 0xFFFF, 0xFF⟩) ∧
    (∀ f, loadFailure s.dev = some f →
      exec .loadDone s =
        .next { s with dev := { s.dev with line := answered .loadDone .invalid f [] s.dev } }) ∧
    (loadFailure s.dev = none →
      ∃ t r, exec .loadDone s = .next t ∧ t.pending = s.pending ∧
        runAt s.dev.seq.runs s.dev.seq.startRun = some r ∧
        t.dev = { s.dev with
          control := { s.dev.control with state := .ready }
          seq := { s.dev.seq with
            pos := ⟨s.dev.seq.startRun, 1, r.fromRow, 0⟩
            void := false
            history := []
            guardOpen := false
            pickWeft := none
            pickLift := none }
          weft := { s.dev.weft with
            toggles := if s.dev.control.role = .weftRole then 0#8 else s.dev.weft.toggles }
          strings := t.dev.strings
          line := answered .loadDone .done noDetail [] s.dev } ∧
        (dwellDue s.dev = false → t.dev.strings = s.dev.strings))) ∧
  (∀ (s : State) (chained : Run → Prop),
    (∀ r, chained r ↔ (runAt s.dev.seq.runs r.next).isSome ∧ ∀ x ∈ runRows r, x ∈ s.dev.store.written) →
    (runAt s.dev.seq.runs s.dev.seq.startRun).isSome → s.dev.store.written.Pairwise (· < ·) →
    (∀ i r, i < 64 → runAt s.dev.seq.runs i = some r → (∀ j q, j < i → runAt s.dev.seq.runs j = some q → chained q) →
      (runAt s.dev.seq.runs r.next = none → loadFailure s.dev = some ⟨.nextUnwritten, i, r.next, 0xFF⟩) ∧
      (∀ before row after, (runAt s.dev.seq.runs r.next).isSome → runRows r = before ++ row :: after →
        (∀ x ∈ before, x ∈ s.dev.store.written) → row ∉ s.dev.store.written →
        loadFailure s.dev = some ⟨.rowUnwritten, i, row, 0xFF⟩)) ∧
    ((∀ j q, j < 64 → runAt s.dev.seq.runs j = some q → chained q) →
      (s.dev.control.role = .sectionRole → loadFailure s.dev = none) ∧
      (∀ i r k, s.dev.control.role = .weftRole → i < 64 → runAt s.dev.seq.runs i = some r → r.override = some k →
        k < 8 → (s.dev.weft.map[k]?).join = none →
        (∀ j q l, j < i → runAt s.dev.seq.runs j = some q → q.override = some l → l < 8 → (s.dev.weft.map[l]?).join.isSome) →
        loadFailure s.dev = some ⟨.weftUnmapped, i, 0xFFFF, k⟩) ∧
      ((∀ j q l, j < 64 → runAt s.dev.seq.runs j = some q → q.override = some l → l < 8 → (s.dev.weft.map[l]?).join.isSome) →
        s.dev.control.role = .weftRole →
        (∀ row k, row ∈ s.dev.store.written → k = (readRow s.dev row).weft.toNat → k < 8 → (s.dev.weft.map[k]?).join = none →
          (∀ x ∈ s.dev.store.written, x < row → (readRow s.dev x).weft.toNat < 8 →
            (s.dev.weft.map[(readRow s.dev x).weft.toNat]?).join.isSome) →
          loadFailure s.dev = some ⟨.weftUnmapped, 0xFF, row, k⟩) ∧
        ((∀ x ∈ s.dev.store.written, (readRow s.dev x).weft.toNat < 8 → (s.dev.weft.map[(readRow s.dev x).weft.toNat]?).join.isSome) →
          loadFailure s.dev = none))))

/-- POSITION SET and POSITION RESUME take a valid position, empty the history and close the guard (pick data: log 20).
(R173, R178, R21) That no weft code and lift count is held for the pick after it is the model's reading (log 20).
That POSITION RESUME reads the record as the last completed write has left it is log 58. -/
def Obligations.PositionIsSetOrResumed : Prop :=
  ∀ (s : State) (c : Configuration), s.dev.control.state = .ready → s.dev.control.config = some c →
    (∀ p, asked .positionSet p s.dev = true → p.length = 8 →
      (validPosition s.dev.seq.runs (positionFields p) = false →
        exec .positionSet s =
          .next { s with dev := { s.dev with line := answered .positionSet .range noDetail [] s.dev } }) ∧
      (validPosition s.dev.seq.runs (positionFields p) = true →
        exec .positionSet s = .next { s with dev := { s.dev with
          seq := { s.dev.seq with
            pos := positionFields p, void := false, history := [], guardOpen := false
            pickWeft := none, pickLift := none }
          control := { s.dev.control with
            writes := s.dev.control.writes ++ [recordOf (positionFields p) c.identity] }
          line := answered .positionSet .done noDetail [] s.dev } })) ∧
    (asked .positionResume [] s.dev = true →
      (s.dev.control.retention = .lost →
        exec .positionResume s =
          .next { s with dev := { s.dev with line := answered .positionResume .lost noDetail [] s.dev } }) ∧
      (s.dev.control.retention ≠ .lost → s.dev.control.retained.identity ≠ c.identity →
        exec .positionResume s =
          .next { s with dev := { s.dev with line := answered .positionResume .mismatch noDetail [] s.dev } }) ∧
      (s.dev.control.retention ≠ .lost → s.dev.control.retained.identity = c.identity →
        validPosition s.dev.seq.runs (recordPosition s.dev.control.retained) = false →
        exec .positionResume s =
          .next { s with dev := { s.dev with line := answered .positionResume .range noDetail [] s.dev } }) ∧
      (s.dev.control.retention ≠ .lost → s.dev.control.retained.identity = c.identity →
        validPosition s.dev.seq.runs (recordPosition s.dev.control.retained) = true →
        exec .positionResume s = .next { s with dev := { s.dev with
          seq := { s.dev.seq with
            pos := recordPosition s.dev.control.retained, void := false, history := [], guardOpen := false
            pickWeft := none, pickLift := none }
          line := answered .positionResume .done noDetail [] s.dev } }))

/-- TEST BEGIN keeps the pattern and row with every string RESTING; TEST END drops every string and gives READY. (R139,
R128, R65, 5.9) -/
def Obligations.TestBeginsAndEnds : Prop :=
  (∀ (s : State) (p : List Byte) (k : TestPattern), asked .testBegin p s.dev = true →
      s.dev.control.state = .ready → s.dev.control.role = .sectionRole → p.length = 3 →
      patternOf (fieldAt p 0 1) = some k → (k = .row → fieldAt p 1 2 ≤ 16383) →
      ∃ t, exec .testBegin s = .next t ∧ t.pending = s.pending ∧
        t.dev = { s.dev with
          control := { s.dev.control with state := .test }
          strings := { s.dev.strings with
            strings := t.dev.strings.strings
            test := ⟨some k, fieldAt p 1 2, 0, .idle⟩ }
          line := answered .testBegin .done noDetail [] s.dev } ∧
        (t.dev.strings.strings.all fun x => decide (x.drive = .off) && decide (x.chain = .resting) && !x.pattern
          && !x.latched && !x.waiting) = true ∧
        t.dev.strings.strings.map (·.echo) = s.dev.strings.strings.map (·.echo)) ∧
    (∀ s : State, asked .testEnd [] s.dev = true → s.dev.control.state = .test →
      ∃ t, exec .testEnd s = .next t ∧ t.pending = s.pending ∧
        t.dev.control = { s.dev.control with state := .ready } ∧
        t.dev.line = answered .testEnd .done noDetail [] s.dev ∧
        t.dev.strings.strings.length = s.dev.strings.strings.length ∧
        (t.dev.strings.strings.all fun x => decide (x.drive = .off) && decide (x.chain = .resting)) = true ∧
        t.dev.strings.mode = .none ∧ t.dev.strings.test.op = .idle ∧
        (∀ row e, t.dev.store.fetch ≠ .fetching row .test e) ∧ t.dev.store.mem = s.dev.store.mem ∧
        t.dev.seq = s.dev.seq ∧ t.dev.roster = s.dev.roster ∧ t.dev.tracker = s.dev.tracker) ∧
  (∀ (s : State) (p : List Byte), asked .testBegin p s.dev = true → s.dev.control.state = .ready →
    (s.dev.control.role = .weftRole → exec .testBegin s = .next { s with dev := { s.dev with line := answered .testBegin .role noDetail [] s.dev } }) ∧
    (s.dev.control.role = .sectionRole →
      p.length ≠ 3 ∨ 4 < fieldAt p 0 1 ∨ (fieldAt p 0 1 = 4 ∧ 16383 < fieldAt p 1 2) →
      exec .testBegin s = .next { s with dev := { s.dev with line := answered .testBegin .range noDetail [] s.dev } }))

/-- TEST STEP shifts the step's pattern and fires every string once power is ON; refused while moving or in flight (log
28). (R141, R139, R126, R130, R70, R67, R127) That every latched mark is cleared at the start of a step, so that the
output register takes the step's pattern, is the model's reading (log 28). -/
def Obligations.TestStepFiresThePattern : Prop :=
  (∀ (s : State) (k : TestPattern), asked .testStep [] s.dev = true → s.dev.control.state = .test →
    s.dev.strings.test.pattern = some k → k ≠ .row →
    (s.dev.tracker.speed ≠ .stalled →
      exec .testStep s =
        .next { s with dev := { s.dev with line := answered .testStep .moving noDetail [] s.dev } }) ∧
    (s.dev.tracker.speed = .stalled → s.dev.strings.test.op ≠ .idle →
      exec .testStep s =
        .next { s with dev := { s.dev with line := answered .testStep .busy noDetail [] s.dev } }) ∧
    (s.dev.tracker.speed = .stalled → s.dev.strings.test.op = .idle → s.dev.control.role = .sectionRole →
      s.dev.strings.power = .on →
      ∃ t, exec .testStep s = .next t ∧ t.pending = s.pending ∧
        t.dev.strings.strings.length = s.dev.strings.strings.length ∧
        (∀ i x, i < stringCount s.dev → t.dev.strings.strings[i]? = some x →
          x.chain = .fired ∧ x.drive = .inrush 0 ∧ x.outReg = testBits k s.dev.strings.test.step) ∧
        t.dev.strings.test = { s.dev.strings.test with op := .inFlight (.energised 0) } ∧
        t.dev.strings.mode = .test ∧ t.dev.line = { s.dev.line with queue := s.dev.line.queue.tail } ∧
        t.dev.seq = s.dev.seq ∧ t.dev.store = s.dev.store ∧ t.dev.tracker = s.dev.tracker ∧
        t.dev.roster = s.dev.roster ∧ t.dev.control.state = .test)) ∧
  (∀ (s : State) (k : TestPattern),
      asked .testStep [] s.dev = true →
      s.dev.control.state = .test →
      s.dev.tracker.speed = .stalled →
      s.dev.strings.test.op = .idle →
      s.dev.control.role = .sectionRole →
      s.dev.strings.test.pattern = some k →
      k ≠ .row →
      s.dev.strings.power ≠ .on →
      ∃ t, exec .testStep s = .next t ∧ t.pending = s.pending ∧
      t.dev.strings.strings.length = s.dev.strings.strings.length ∧
      (∀ i x, i < stringCount s.dev → t.dev.strings.strings[i]? = some x →
        x.shiftReg = testBits k s.dev.strings.test.step ∧ x.pattern = true ∧ x.chain = .resting ∧ x.drive = .off) ∧
      t.dev.strings.test = { s.dev.strings.test with op := .inFlight .power } ∧ t.dev.strings.mode = .test ∧
      t.dev.strings.power = (if s.dev.strings.power = .off then .waking 0 else s.dev.strings.power) ∧
      t.dev.line = { s.dev.line with queue := s.dev.line.queue.tail } ∧ t.dev.seq = s.dev.seq ∧ t.dev.store = s.dev.store) ∧
  (∀ (s : State),
      asked .testStep [] s.dev = true →
      s.dev.control.state = .test →
      s.dev.tracker.speed = .stalled →
      s.dev.strings.test.op = .idle →
      s.dev.control.role = .sectionRole →
      s.dev.strings.test.pattern = some .row →
      ∃ t, exec .testStep s = .next t ∧ t.pending = s.pending ∧
      t.dev.strings.strings.length = s.dev.strings.strings.length ∧
      (t.dev.strings.strings.all fun x => decide (x.chain = .resting) && decide (x.drive = .off) && !x.pattern
        && !x.latched && !x.waiting) = true ∧
      t.dev.store = { s.dev.store with fetch := .fetching s.dev.strings.test.row .test 0, result := none } ∧
      t.dev.strings.test = { s.dev.strings.test with op := .inFlight .fetch } ∧ t.dev.strings.mode = .test ∧
      t.dev.strings.power = (if s.dev.strings.power = .off then .waking 0 else s.dev.strings.power) ∧
      t.dev.line = { s.dev.line with queue := s.dev.line.queue.tail } ∧
      t.dev.seq = { s.dev.seq with pickWeft := none, pickLift := none } ∧ t.dev.tracker = s.dev.tracker) ∧
  (∀ (s : State) (row e : Nat),
      s.dev.control.powered = true →
      s.dev.control.role = .sectionRole →
      s.dev.control.state = .test →
      s.dev.strings.test.op = .inFlight .fetch →
      s.dev.strings.power = .on →
      s.dev.store.fetch = .fetching row .test e →
      ∃ t, exec (.fetchComplete []) s = .next t ∧ t.pending = s.pending ∧
      t.dev.strings.strings.length = s.dev.strings.strings.length ∧
      (∀ i x, i < stringCount s.dev → t.dev.strings.strings[i]? = some x →
        x.chain = .fired ∧ x.drive = .inrush 0 ∧
        x.shiftReg = (if row ∈ s.dev.store.written ∧ (readRow s.dev row).sound = true
          then stringBits (readRow s.dev row).field i else 0#128)) ∧
      (∀ i x y, i < stringCount s.dev → s.dev.strings.strings[i]? = some y → t.dev.strings.strings[i]? = some x →
        x.latched = true ∧ x.outReg = (if y.latched then y.outReg else x.shiftReg)) ∧
      t.dev.strings.test = { s.dev.strings.test with op := .inFlight (.energised 0) } ∧
      t.dev.seq = s.dev.seq ∧ (row ∈ s.dev.store.written → (readRow s.dev row).sound = true → t.dev.control.flags.getLsbD 6 = s.dev.control.flags.getLsbD 6) ∧
      (row ∉ s.dev.store.written ∨ (readRow s.dev row).sound = false →
        t.dev.control.flags.getLsbD 6 = true ∧ t.dev.store.lastDamaged = some row ∧ t.dev.strings.faults = s.dev.strings.faults)) ∧
  (∀ (s : State) (row e : Nat),
      s.dev.control.powered = true →
      s.dev.control.role = .sectionRole →
      s.dev.control.state = .test →
      s.dev.strings.test.op = .inFlight .fetch →
      s.dev.strings.power ≠ .on →
      s.dev.store.fetch = .fetching row .test e →
      ∃ t, exec (.fetchComplete []) s = .next t ∧ t.pending = s.pending ∧
      t.dev.strings.strings.length = s.dev.strings.strings.length ∧
      (∀ (i : Nat) (x y : SelString), i < stringCount s.dev → s.dev.strings.strings[i]? = some x → t.dev.strings.strings[i]? = some y →
        y.chain = x.chain ∧ y.drive = x.drive ∧ y.pattern = true ∧ y.echo = false ∧
        y.shiftReg = (if row ∈ s.dev.store.written ∧ (readRow s.dev row).sound = true
          then stringBits (readRow s.dev row).field i else 0#128)) ∧
      t.dev.strings.test = { s.dev.strings.test with op := .inFlight .power } ∧ t.dev.strings.power = s.dev.strings.power ∧ t.dev.seq = s.dev.seq) ∧
  (∀ s : State, asked .testStep [] s.dev = true → s.dev.control.state = .test →
    (s.dev.tracker.speed ≠ .stalled → exec .testStep s = .next { s with dev := { s.dev with line := answered .testStep .moving noDetail [] s.dev } }) ∧
    (s.dev.tracker.speed = .stalled → s.dev.strings.test.op ≠ .idle → exec .testStep s = .next { s with dev := { s.dev with line := answered .testStep .busy noDetail [] s.dev } }))

/-- 50 ms after energising, the step captures every FIRED string, drops all and replies with the step number used.
(R141, R132, R81) -/
def Obligations.TestStepIsCaptured : Prop :=
  ∀ (s : State) (sense : List StringBits) (n : Nat), s.dev.control.powered = true →
    s.dev.strings.test.op = .inFlight (.energised n) →
    ∃ t, exec (.testStepCapture sense) s = .next t ∧ t.pending = s.pending ∧
      t.dev.strings.strings.length = s.dev.strings.strings.length ∧
      (∀ (i : Nat) (x y : SelString), i < stringCount s.dev → s.dev.strings.strings[i]? = some x →
        t.dev.strings.strings[i]? = some y → x.chain = .fired →
        y.shiftReg = sense.getD i 0#128 ∧ y.expected = some x.outReg ∧ y.echo = true ∧
        y.capturePos = some s.dev.seq.pos) ∧
      (t.dev.strings.strings.all fun x => decide (x.drive = .off) && decide (x.chain = .resting)) = true ∧
      t.dev.strings.test =
        { s.dev.strings.test with step := (s.dev.strings.test.step + 1) % 65536, op := .idle } ∧
      t.dev.strings.mode = .none ∧
      (s.dev.line.replySlot = none → s.dev.line.completion = none → t.dev.line = { s.dev.line with
        replySlot := some ⟨replyFrame s.dev .testStep .done noDetail (be16 s.dev.strings.test.step), 0⟩ }) ∧
      (s.dev.line.replySlot ≠ none ∨ s.dev.line.completion ≠ none → t.dev.line = { s.dev.line with
        completion := some (replyFrame s.dev .testStep .done noDetail (be16 s.dev.strings.test.step)) }) ∧
      t.dev.seq = s.dev.seq ∧ t.dev.store = s.dev.store ∧ t.dev.roster = s.dev.roster ∧
      t.dev.tracker = s.dev.tracker ∧ t.dev.control = s.dev.control

/-- TRAIN on a standing section station starts a run, and its pre-checks begin as soon as string power is ON. (R143,
R144, R146, R147) -/
def Obligations.TrainingStarts : Prop :=
  (∀ (s : State) (arm : BitVec 8), asked .train [] s.dev = true → s.dev.control.state = .ready →
    s.dev.control.role = .sectionRole →
    (s.dev.tracker.speed ≠ .stalled →
      exec (.train arm) s =
        .next { s with dev := { s.dev with line := answered .train .moving noDetail [] s.dev } }) ∧
    (s.dev.tracker.speed = .stalled → 0 < stringCount s.dev → stringCount s.dev ≤ 8 →
      ∃ t u, exec (.train arm) s = .next t ∧ t.pending = s.pending ∧
        u = { s.dev with
          control := { s.dev.control with state := .train }
          trainer := { s.dev.trainer with
            cur := 0, phase := if s.dev.strings.power = .on then s.dev.trainer.phase else .waking }
          strings := { s.dev.strings with
            power := if s.dev.strings.power = .off then .waking 0 else s.dev.strings.power
            mode := .none
            strings := s.dev.strings.strings.map fun x => { x with
              chain := .resting, pattern := false, latched := false, waiting := false, echo := false
              drive := .off, result := .notRun } }
          pins := { s.dev.pins with armature := arm }
          line := answered .train .done noDetail [] s.dev } ∧
        (s.dev.strings.power ≠ .on → t.dev = u) ∧ (s.dev.strings.power = .on → PreChecked 0 arm u t.dev))) ∧
  (∀ (s : State) (arm : BitVec 8) (n : Nat), s.dev.control.powered = true → s.dev.control.state = .train →
    s.dev.strings.power = .waking n → s.dev.trainer.phase = .waking → s.dev.strings.mode = .none →
    s.dev.strings.test.op = .idle → s.dev.trainer.cur < stringCount s.dev → stringCount s.dev ≤ 8 →
    ∃ t, exec (.wakeTimeEnd arm) s = .next t ∧ t.pending = s.pending ∧
      PreChecked s.dev.trainer.cur arm { s.dev with
        strings := { s.dev.strings with power := .on }, pins := { s.dev.pins with armature := arm } } t.dev) ∧
  (∀ (s : State) (arm : BitVec 8), asked .train [] s.dev = true → s.dev.control.state = .ready →
    s.dev.control.role = .weftRole → exec (.train arm) s = .next { s with dev := { s.dev with line := answered .train .role noDetail [] s.dev } })

/-- Four trials decide a delay, a string ends TRAINED, FAILED or STUCK and the next is pre-checked; a step abandons the
run. (R145, R146, R147, R148, R144) -/
def Obligations.TrialsSearchTheLatency : Prop :=
  (∀ (s : State) (held : Bool), s.dev.control.powered = true → s.dev.trainer.phase = .trial →
    ∃ t, exec (.trialSample held) s = .next t ∧ t.pending = s.pending ∧
      t.dev = { s.dev with
        trainer := { s.dev.trainer with
          phase := .rest, timer := 0
          ones := if held then s.dev.trainer.ones + 1 else s.dev.trainer.ones }
        strings := { s.dev.strings with strings := t.dev.strings.strings } } ∧
      (∀ x, s.dev.trainer.cur < stringCount s.dev → s.dev.strings.strings[s.dev.trainer.cur]? = some x →
        t.dev.strings.strings = s.dev.strings.strings.set s.dev.trainer.cur { x with drive := .off })) ∧
  (∀ (s : State) (arm : BitVec 8) (x : SelString), s.dev.control.powered = true →
      s.dev.trainer.phase = .rest →
      s.dev.trainer.cur < stringCount s.dev →
      stringCount s.dev ≤ 8 →
      s.dev.strings.strings[s.dev.trainer.cur]? = some x →
    ∃ t, exec (.restEnd arm) s = .next t ∧ t.pending = s.pending ∧
      t.dev.seq = s.dev.seq ∧ t.dev.store = s.dev.store ∧ t.dev.line = s.dev.line ∧ t.dev.tracker = s.dev.tracker ∧
      (arm.getLsbD s.dev.trainer.cur = true →
        PreChecked (s.dev.trainer.cur + 1) arm
          { s.dev with
            pins := { s.dev.pins with armature := arm }
            strings := { s.dev.strings with
              strings := s.dev.strings.strings.set s.dev.trainer.cur { x with result := .stuck } } } t.dev) ∧
      (arm.getLsbD s.dev.trainer.cur = false → s.dev.trainer.trial < 4 →
        t.dev.trainer = { s.dev.trainer with phase := .trial, trial := s.dev.trainer.trial + 1, timer := 0 } ∧
        t.dev.strings.strings = s.dev.strings.strings.set s.dev.trainer.cur { x with drive := .inrush 0 }) ∧
      (arm.getLsbD s.dev.trainer.cur = false → 4 ≤ s.dev.trainer.trial → 3 ≤ s.dev.trainer.ones →
        PreChecked (s.dev.trainer.cur + 1) arm
          { s.dev with
            pins := { s.dev.pins with armature := arm }
            strings := { s.dev.strings with
              strings := s.dev.strings.strings.set s.dev.trainer.cur 
                { x with result := .trained, latency := some (min (s.dev.trainer.delay + 200) 9999) } } } t.dev) ∧
      (arm.getLsbD s.dev.trainer.cur = false → 4 ≤ s.dev.trainer.trial → s.dev.trainer.ones < 3 →
        s.dev.trainer.delay < 9975 →
        t.dev.trainer = { s.dev.trainer with
          phase := .trial, delay := s.dev.trainer.delay + 25, trial := 1, ones := 0, timer := 0 } ∧
        t.dev.strings.strings = s.dev.strings.strings.set s.dev.trainer.cur { x with drive := .inrush 0 }) ∧
      (arm.getLsbD s.dev.trainer.cur = false → 4 ≤ s.dev.trainer.trial → s.dev.trainer.ones < 3 →
        9975 ≤ s.dev.trainer.delay →
        PreChecked (s.dev.trainer.cur + 1) arm
          { s.dev with
            pins := { s.dev.pins with armature := arm }
            strings := { s.dev.strings with
              strings := s.dev.strings.strings.set s.dev.trainer.cur { x with result := .failed } } } t.dev)) ∧
  (∀ (a b : Bool) (dt : Lapse) (sense : List StringBits) (s : State),
      s.dev.control.powered = true →
      s.dev.control.state = .train →
      s.dev.strings.mode = .none →
      phaseOf a b = s.dev.tracker.phase + 1#2 ∨ phaseOf a b = s.dev.tracker.phase - 1#2 →
      ∃ t, exec (.countingStep a b false dt sense) s = .next t ∧ t.pending = s.pending ∧
      t.dev.control.state = .ready ∧ t.dev.trainer = { s.dev.trainer with phase := .idle, timer := 0 } ∧
      t.dev.control.flags.getLsbD 22 = true ∧ t.dev.strings.strings.length = s.dev.strings.strings.length ∧
      (t.dev.strings.strings.all fun x => decide (x.drive = .off) && decide (x.chain = .resting)) = true ∧
      t.dev.strings.strings.map (·.result) = s.dev.strings.strings.map (·.result) ∧
      t.dev.strings.strings.map (·.latency) = s.dev.strings.strings.map (·.latency) ∧
      t.dev.seq.pos = s.dev.seq.pos ∧ t.dev.store.mem = s.dev.store.mem)

/-- STATUS, the list reads and ROW READ report and change nothing else; FLAGS TAKE, FAULT LIST CLEAR and NOTICE MASK do
as said. (R175, R138, R14, R110, R63, R176, R177, R69, R170, 5.9) -/
def Obligations.ReadingRequestsReport : Prop :=
  (∀ (s : State) (p : List Byte),
    (asked .status [] s.dev = true →
      exec .status s = .next { s with dev := { s.dev with
        line := answered .status .done noDetail (statusData s.dev) s.dev } } ∧
      (statusData s.dev).length = 70 ∧
      statusData s.dev =
        [byte (stateCode s.dev.control.state), byte (if s.dev.control.role = .sectionRole then 0 else 1), byte s.dev.control.number]
        ++ be16 s.dev.tracker.angle
        ++ [if s.dev.tracker.referenced then 1#8 else 0#8,
          (match s.dev.tracker.speed with | .stalled => 0#8 | .creep => 1#8 | .run => 2#8 | .fast => 3#8)]
        ++ be24 (s.dev.tracker.span.getD 0) ++ [if s.dev.tracker.dir = .forward then 0#8 else 1#8] ++ be16 s.dev.tracker.stationary
        ++ [(match s.dev.strings.power with | .off => 0#8 | .waking _ => 1#8 | .on => 2#8), byte s.dev.seq.pos.run]
        ++ be16 s.dev.seq.pos.iteration ++ be16 s.dev.seq.pos.row ++ be24 s.dev.seq.pos.piece
        ++ [if s.dev.seq.void then 1#8 else 0#8, byte s.dev.seq.history.length, byte s.dev.roster.entries.length,
          byte s.dev.strings.faults.length,
          (match s.dev.control.retention with | .intact => 0#8 | .lost => 1#8 | .current => 2#8)]
        ++ ((List.range 8).map fun i => (match s.dev.strings.strings[i]? with
          | some x => if i < stringCount s.dev then be16 (x.latency.getD 0) ++
              [(match x.result with | .notRun => 0#8 | .trained => 1#8 | .failed => 2#8 | .stuck => 3#8)]
            else [0#8, 0#8, 0#8]
          | none => [0#8, 0#8, 0#8])).flatten
        ++ be16 s.dev.line.counters.goodFrames ++ be16 s.dev.line.counters.checkErrors ++ be16 s.dev.line.counters.parityFraming
        ++ be16 s.dev.line.counters.overruns ++ be16 s.dev.line.counters.abandoned ++ be16 s.dev.line.counters.collisionLimits
        ++ be16 s.dev.line.counters.beaconsLate ++ be16 s.dev.line.counters.requestsDropped ++ be16 s.dev.line.counters.holdsSeen
        ++ [if s.dev.line.stuck then 1#8 else 0#8]) ∧
    (asked .historyRead p s.dev = true → s.dev.control.state ∈ takenIn .historyRead → p.length = 1 →
      fieldAt p 0 1 ≤ 23 →
      exec .historyRead s = .next { s with dev := { s.dev with
        line := answered .historyRead .done noDetail (historyData (fieldAt p 0 1) s.dev) s.dev } } ∧
      historyData (fieldAt p 0 1) s.dev = byte s.dev.seq.history.length ::
        (((s.dev.seq.history.drop (fieldAt p 0 1)).take 11).map fun e =>
          byte e.pos.run :: be16 e.pos.iteration ++ be16 e.pos.row ++ be24 e.pos.piece
          ++ [byte ((if e.void then 1 else 0) + (if e.kind = .again then 2 else 0) + (if e.toggle then 4 else 0)), byte e.weft]
          ++ be16 e.lift ++ [byte (e.finger.getD 255)]).flatten ∧
      (historyData (fieldAt p 0 1) s.dev).length =
        1 + 13 * min 11 (s.dev.seq.history.length - fieldAt p 0 1)) ∧
    (asked .rosterRead p s.dev = true → s.dev.control.state ∈ takenIn .rosterRead → p.length = 1 →
      fieldAt p 0 1 ≤ 31 →
      exec .rosterRead s = .next { s with dev := { s.dev with
        line := answered .rosterRead .done noDetail (rosterData (fieldAt p 0 1) s.dev) s.dev } } ∧
      rosterData (fieldAt p 0 1) s.dev = byte s.dev.roster.entries.length ::
        (((s.dev.roster.entries.filter fun e => decide (fieldAt p 0 1 ≤ e.station)).take 8).map fun e =>
          [byte e.station, byte (if e.role = .sectionRole then 0 else 1), byte (stateCode e.state), byte e.pos.run]
          ++ be16 e.pos.iteration ++ be16 e.pos.row ++ be16 e.pos.pieceLow ++ be16 e.lift ++ be16 e.capacity
          ++ [byte e.weft, byte e.misses, byte ((if e.heard then 1 else 0) + (if e.lapsed then 2 else 0)
            + (if e.state ≠ .weave then 4 else 0))]).flatten ∧
      (rosterData (fieldAt p 0 1) s.dev).length =
        1 + 17 * min 8 (s.dev.roster.entries.countP fun e => decide (fieldAt p 0 1 ≤ e.station))) ∧
    (asked .faultListRead p s.dev = true → s.dev.control.state ∈ takenIn .faultListRead →
      s.dev.control.role = .sectionRole → p.length = 1 → fieldAt p 0 1 ≤ 31 →
      exec .faultListRead s = .next { s with dev := { s.dev with
        line := answered .faultListRead .done noDetail (faultListData (fieldAt p 0 1) s.dev) s.dev } } ∧
      faultListData (fieldAt p 0 1) s.dev = byte s.dev.strings.faults.length :: be16 s.dev.strings.overflow
        ++ (((s.dev.strings.faults.drop (fieldAt p 0 1)).take 12).map fun e =>
          be16 e.hook ++ (if e.kind = .openFault then 0#8 else 1#8) :: byte e.pos.run :: be16 e.pos.iteration
          ++ be16 e.pos.row ++ be24 e.pos.piece ++ [byte e.occurrences]).flatten ∧
      (faultListData (fieldAt p 0 1) s.dev).length =
        3 + 12 * min 12 (s.dev.strings.faults.length - fieldAt p 0 1))) ∧
  (∀ (s : State) (p : List Byte), asked .rowRead p s.dev = true →
    s.dev.control.state = .load ∨ s.dev.control.state = .ready → p.length = 2 → fieldAt p 0 2 ≤ 16383 →
    exec .rowRead s = .next { s with dev := { s.dev with
      line := answered .rowRead .done noDetail
        (be16 (fieldAt p 0 2) ++
          (if fieldAt p 0 2 ∈ s.dev.store.written then
            0x01#8 :: (readRow s.dev (fieldAt p 0 2)).weft :: (readRow s.dev (fieldAt p 0 2)).field ++
              [if (readRow s.dev (fieldAt p 0 2)).sound then 0x00#8 else 0x01#8]
          else [0x00#8])) s.dev } }) ∧
  (∀ (s : State) (p : List Byte),
    (asked .flagsTake [] s.dev = true → s.dev.control.state ∈ takenIn .flagsTake →
      exec .flagsTake s = .next { s with dev := { s.dev with
        control := { s.dev.control with flags := 0#30 }
        line := answered .flagsTake .done noDetail
          (be32 s.dev.control.flags.toNat ++ be16 (s.dev.store.lastDamaged.getD 0xFFFF)) s.dev } }) ∧
    (asked .faultListClear [] s.dev = true → s.dev.control.state ∈ takenIn .faultListClear →
      s.dev.control.role = .sectionRole →
      exec .faultListClear s = .next { s with dev := { s.dev with
        strings := { s.dev.strings with faults := [], overflow := 0 }
        line := answered .faultListClear .done noDetail [] s.dev } }) ∧
    (asked .noticeMask p s.dev = true → s.dev.control.state ∈ takenIn .noticeMask → p.length = 4 →
      (fieldAt p 0 4 < 1073741824 →
        exec .noticeMask s = .next { s with dev := { s.dev with
          control := { s.dev.control with mask := BitVec.ofNat 30 (fieldAt p 0 4) }
          line := answered .noticeMask .done noDetail [] s.dev } }) ∧
      (1073741824 ≤ fieldAt p 0 4 →
        exec .noticeMask s = .next { s with dev := { s.dev with
          line := answered .noticeMask .range noDetail [] s.dev } }))) ∧
  (∀ (s : State) (p : List Byte),
    (asked .rowRead p s.dev = true → s.dev.control.state = .load ∨ s.dev.control.state = .ready →
      p.length ≠ 2 ∨ 16383 < fieldAt p 0 2 → exec .rowRead s = .next { s with dev := { s.dev with line := answered .rowRead .range noDetail [] s.dev } }) ∧
    (asked .historyRead p s.dev = true → s.dev.control.state ∈ takenIn .historyRead →
      p.length ≠ 1 ∨ 23 < fieldAt p 0 1 → exec .historyRead s = .next { s with dev := { s.dev with line := answered .historyRead .range noDetail [] s.dev } }) ∧
    (asked .rosterRead p s.dev = true → s.dev.control.state ∈ takenIn .rosterRead →
      p.length ≠ 1 ∨ 31 < fieldAt p 0 1 → exec .rosterRead s = .next { s with dev := { s.dev with line := answered .rosterRead .range noDetail [] s.dev } }) ∧
    (asked .faultListRead p s.dev = true → s.dev.control.state ∈ takenIn .faultListRead →
      (s.dev.control.role = .weftRole → exec .faultListRead s = .next { s with dev := { s.dev with line := answered .faultListRead .role noDetail [] s.dev } }) ∧
      (s.dev.control.role = .sectionRole → p.length ≠ 1 ∨ 31 < fieldAt p 0 1 →
        exec .faultListRead s = .next { s with dev := { s.dev with line := answered .faultListRead .range noDetail [] s.dev } })) ∧
    (asked .faultListClear p s.dev = true → s.dev.control.state ∈ takenIn .faultListClear →
      (s.dev.control.role = .weftRole → exec .faultListClear s = .next { s with dev := { s.dev with line := answered .faultListClear .role noDetail [] s.dev } }) ∧
      (s.dev.control.role = .sectionRole → p ≠ [] → exec .faultListClear s = .next { s with dev := { s.dev with line := answered .faultListClear .range noDetail [] s.dev } })) ∧
    (asked .status p s.dev = true → p ≠ [] → exec .status s = .next { s with dev := { s.dev with line := answered .status .range noDetail [] s.dev } }) ∧
    (asked .flagsTake p s.dev = true → s.dev.control.state ∈ takenIn .flagsTake → p ≠ [] →
      exec .flagsTake s = .next { s with dev := { s.dev with line := answered .flagsTake .range noDetail [] s.dev } }) ∧
    (asked .noticeMask p s.dev = true → s.dev.control.state ∈ takenIn .noticeMask → p.length ≠ 4 →
      exec .noticeMask s = .next { s with dev := { s.dev with line := answered .noticeMask .range noDetail [] s.dev } }))

/-- Every reset leaves every block in its reset condition (chain registers log 29, test row log 42; straps at a RESET
log 25). (R179, R180, R15, R37, R72, R93, R111, R125, R142, R150, R162, R163) The model's choices here: the straps
as they stand in the pins and the channel phase as last taken (log 25), the chain registers at 0 (log 29), the test
row at 0 (log 42), a broadcast RESET of any payload length (log 30). The idle ticks are numbered on over the reset,
the model's own count (log 7). -/
def Obligations.ResetsLeaveTheResetCondition : Prop :=
  (∀ s : State, asked .reset [] s.dev = true →
      exec .reset s = .next { s with dev := { s.dev with
        control := { s.dev.control with resetPending := some 0 }
        line := answered .reset .done noDetail [] s.dev } }) ∧
  (∀ (s : State) (i : Instr) (number : Nat) (role : Role) (phase : BitVec 2), s.dev.control.powered = true →
      (number = s.dev.pins.strapNumber ∧ role = s.dev.pins.strapRole ∧ phase = s.dev.tracker.phase ∧
        ((i = .resetReplyTimeout ∧ s.dev.control.resetPending.isSome) ∨
          (i = .frameSent ∧ s.dev.control.resetPending.isSome ∧ ∃ chars, s.dev.line.tx = .sending .reply chars) ∨
          (i = .attemptAbandoned ∧ s.dev.control.resetPending.isSome ∧
            (∃ chars, s.dev.line.tx = .sending .reply chars) ∧
            ∃ x, s.dev.line.replySlot = some x ∧ 7 ≤ x.attempts) ∨
          (i = .reset ∧ ∃ p, requestAt .reset allNodes p s.dev = true))) ∨
        (∃ a b, i = .resetPin number role a b ∧ phase = phaseOf a b) →
      ∃ t, exec i s = .next t ∧ t.pending = s.pending ∧
        t.dev.seq = Sequencer.reset ∧ t.dev.line = { Line.reset with idleTicks := s.dev.line.idleTicks } ∧ t.dev.roster = Roster.reset ∧
        t.dev.fire = FireTimer.reset ∧ t.dev.strings = StringDriver.reset ∧ t.dev.trainer = Trainer.reset ∧
        t.dev.weft = WeftSel.reset ∧ t.dev.tracker = Tracker.reset phase ∧
        t.dev.store = ⟨s.dev.store.mem, [], .idle, none, none⟩ ∧
        t.dev.control = ⟨.dormant, number, role, none, 0#30, 0#30, s.dev.control.retained,
          s.dev.control.retention, s.dev.control.writes, none, true⟩ ∧
        t.dev.pins = { s.dev.pins with strapNumber := number, strapRole := role }) ∧
  (∀ (s : State) (a b : Bool) (ticks number : Nat) (role : Role) (run : List LineRun) (sense : List StringBits),
      s.dev.control.powered = true →
      phaseOf a b = s.dev.tracker.phase + 1#2 ∨ phaseOf a b = s.dev.tracker.phase - 1#2 →
      ∃ t, exec (.countingStep a b false ⟨ticks, run, some (number, role)⟩ sense) s = .next t ∧
        t.dev.pins = { s.dev.pins with strapNumber := number, strapRole := role, sense := sense } ∧
        t.dev.control.number = s.dev.control.number ∧ t.dev.control.role = s.dev.control.role)

/-- Power-on resets every block and judges the retained record; a write replaces it whole (logs 14, 17, 29, 42). (R178,
R180, R57, R60, R55) The model's choices here: the last of several writes stands (log 14), an unlisted byte of the
memory (log 17), the chain registers at 0 (log 29), the test row at 0 (log 42). The idle ticks are numbered on over
the reset, the model's own count (log 7). -/
def Obligations.PowerOnJudgesTheRecord : Prop :=
  (∀ (s : State) (number : Nat) (role : Role) (a b held : Bool) (backup : Option RetainedRecord)
      (sram : List Host.Cell),
    ∃ t, exec (.powerOn number role a b held backup sram) s = .next t ∧ t.pending = s.pending ∧
      t.dev.seq = Sequencer.reset ∧ t.dev.line = { Line.reset with idleTicks := s.dev.line.idleTicks } ∧ t.dev.roster = Roster.reset ∧
      t.dev.fire = FireTimer.reset ∧ t.dev.strings = StringDriver.reset ∧ t.dev.trainer = Trainer.reset ∧
      t.dev.weft = WeftSel.reset ∧ t.dev.tracker = Tracker.reset (phaseOf a b) ∧
      memoryCanonical t.dev = true ∧
      (∀ x, x < memSize → Memory.read t.dev.store.mem x =
        ((sram.filter fun c => decide (c.1 = x)).getLast?.map (·.2)).getD Config.unlistedByte) ∧ t.dev.store.written = [] ∧ t.dev.store.fetch = .idle ∧
      t.dev.control.state = .dormant ∧ t.dev.control.number = number ∧ t.dev.control.role = role ∧
      t.dev.control.config = none ∧ t.dev.control.powered = true ∧ t.dev.control.writes = [] ∧
      (∀ r, backup = some r → t.dev.control.retained = r) ∧
      (backup = none → s.dev.control.writes = [] → t.dev.control.retained = s.dev.control.retained) ∧
      (∀ r, backup = none → s.dev.control.writes.getLast? = some r → t.dev.control.retained = r) ∧
      (held = true ∧ recordSound t.dev.control.retained = true →
        t.dev.control.retention = .intact ∧ t.dev.control.flags = 0#30) ∧
      (held = false ∨ recordSound t.dev.control.retained = false →
        t.dev.control.retention = .lost ∧ t.dev.control.flags = BitVec.twoPow 30 29)) ∧
  (∀ s : State, s.dev.control.powered = true →
    (s.dev.control.writes = [] → exec .retainedWriteDone s = .next s) ∧
    (∀ r rest, s.dev.control.writes = r :: rest →
      exec .retainedWriteDone s = .next { s with dev := { s.dev with control := { s.dev.control with
        retained := r, retention := .current, writes := rest } } }) ∧
    (s.dev.control.writes = [] →
      exec .powerFail s =
        .next { s with dev := { s.dev with control := { s.dev.control with powered := false } } }) ∧
    (∀ r, s.dev.control.writes.getLast? = some r →
      exec .powerFail s = .next { s with dev := { s.dev with control := { s.dev.control with
        retained := r, retention := .current, writes := [], powered := false } } }))

/-- When power becomes ON waiting strings and a waiting stepped test fire, unless the shaft has dwelled; at the end of P
the hold enable takes over. (R127, R128, R126, R131, R136, R141) -/
def Obligations.PowerComesOnAndInrushEnds : Prop :=
  (∀ (s : State) (arm : BitVec 8) (n : Nat), s.dev.control.powered = true → s.dev.strings.power = .waking n →
      s.dev.trainer.phase = .idle → s.dev.strings.test.op ≠ .inFlight .power →
      s.dev.control.state = .weave ∨ s.dev.control.state = .test →
      (s.dev.control.state = .weave → dwellDue s.dev = false) →
      ∃ t, exec (.wakeTimeEnd arm) s = .next t ∧ t.pending = s.pending ∧ t.dev.strings.power = .on ∧
        t.dev = { s.dev with
          strings := t.dev.strings, fire := t.dev.fire, pins := { s.dev.pins with armature := arm } } ∧
        (s.dev.strings.mode = .forward ∨ s.dev.strings.mode = .test → s.dev.strings.blank = false →
          s.dev.strings.captureDone = false → ∀ i x, i < stringCount s.dev →
          s.dev.strings.strings[i]? = some x → x.chain = .pending → x.pattern = true → x.waiting = true →
          t.dev.strings.strings[i]? = some { x with
            outReg := if x.latched then x.outReg else x.shiftReg
            latched := true, drive := .inrush 0, chain := .fired, waiting := false }) ∧
        (∀ (i : Nat) (x : SelString), s.dev.strings.strings[i]? = some x → x.waiting = false → t.dev.strings.strings[i]? = some x) ∧
        (s.dev.control.state = .weave → s.dev.strings.mode = .reverse → s.dev.strings.blank = false →
          s.dev.strings.captureDone = false → t.dev.fire = s.dev.fire ∧ ∀ (i : Nat) (x : SelString), i < stringCount s.dev →
          s.dev.strings.strings[i]? = some x → x.chain = .resting → x.pattern = true → x.waiting = true →
          t.dev.strings.strings[i]? = some { x with
            outReg := if x.latched then x.outReg else x.shiftReg
            latched := true, drive := .inrush 0, chain := .fired, waiting := false })) ∧
    (∀ (s : State) (arm : BitVec 8) (n : Nat), s.dev.control.powered = true → s.dev.strings.power = .waking n →
      s.dev.trainer.phase = .idle → s.dev.control.state = .test → s.dev.strings.test.op = .inFlight .power →
      ∃ t, exec (.wakeTimeEnd arm) s = .next t ∧ t.pending = s.pending ∧
        t.dev = { s.dev with
          strings := t.dev.strings, fire := t.dev.fire, pins := { s.dev.pins with armature := arm } } ∧
        t.dev.strings.power = .on ∧ t.dev.strings.test = { s.dev.strings.test with op := .inFlight (.energised 0) } ∧
        t.dev.strings.strings.length = s.dev.strings.strings.length ∧
        (∀ (i : Nat) (x : SelString), i < stringCount s.dev → s.dev.strings.strings[i]? = some x →
          t.dev.strings.strings[i]? = some { x with
            outReg := if x.latched then x.outReg else x.shiftReg
            latched := true, drive := .inrush 0, chain := .fired, waiting := false })) ∧
    (∀ (s : State) (arm : BitVec 8) (n : Nat), s.dev.control.powered = true → s.dev.strings.power = .waking n →
      s.dev.trainer.phase = .idle → s.dev.strings.test.op ≠ .inFlight .power →
      (s.dev.control.state = .ready → dwellDue s.dev = false →
        exec (.wakeTimeEnd arm) s = .next { s with dev := { s.dev with
          strings := { s.dev.strings with power := .on }, pins := { s.dev.pins with armature := arm } } }) ∧
      (s.dev.control.state = .ready ∨ s.dev.control.state = .weave → dwellDue s.dev = true →
        ∃ t, exec (.wakeTimeEnd arm) s = .next t ∧ t.pending = s.pending ∧ t.dev.strings.power = .off ∧
          t.dev.strings.strings.length = s.dev.strings.strings.length ∧
          (t.dev.strings.strings.all fun x => decide (x.drive = .off) && !x.echo) = true ∧
          t.dev.seq = s.dev.seq ∧ t.dev.control = s.dev.control)) ∧
    (∀ (s : State) (k n : Nat) (x : SelString), s.dev.control.powered = true →
      s.dev.strings.strings[k]? = some x → x.drive = .inrush n →
      exec (.inrushEnd k) s = .next { s with dev := { s.dev with
        strings := { s.dev.strings with
          strings := s.dev.strings.strings.set k { x with drive := .hold } } } })

/-- A detector pulse is early, an arrival or ignored; a stop of the finger in use asks for one hold (watched by log 40).
(R159, R160, R44) That the feeder of the finger in use is watched exactly while the arrival check is not IDLE is the
model's reading (log 40). -/
def Obligations.WeftInputsAreWatched : Prop :=
  ∀ s : State, s.dev.control.powered = true →
    (s.dev.weft.arrival = .waiting →
      exec .weftDetectorPulse s = .next { s with dev := { s.dev with
        control := { s.dev.control with flags := s.dev.control.flags ||| BitVec.twoPow 30 28 } } }) ∧
    (s.dev.weft.arrival = .openWindow →
      exec .weftDetectorPulse s = .next { s with dev := { s.dev with
        weft := { s.dev.weft with arrival := .arrived } } }) ∧
    (s.dev.weft.arrival ≠ .waiting → s.dev.weft.arrival ≠ .openWindow →
      exec .weftDetectorPulse s = .next s) ∧
    (∀ f, f < 8 → s.dev.control.role = .weftRole → s.dev.control.state = .weave →
      s.dev.weft.output = some f → s.dev.weft.arrival ≠ .idle → s.dev.pins.feederStop.getLsbD f = false →
      ∃ t, exec (.feederStopInput f true) s = .next t ∧ t.pending = s.pending ∧
        t.dev.control.flags.getLsbD 26 = true ∧ t.dev.weft = { s.dev.weft with stopMark := true } ∧
        t.dev.seq = { s.dev.seq with void := s.dev.seq.void || !s.dev.weft.stopMark } ∧
        t.dev.pins = { s.dev.pins with feederStop := s.dev.pins.feederStop ||| BitVec.twoPow 8 f } ∧
        t.dev.tracker = s.dev.tracker ∧ t.dev.store = s.dev.store ∧ t.dev.roster = s.dev.roster) ∧
    (∀ f active, active = false ∨ s.dev.pins.feederStop.getLsbD f = true ∨ s.dev.control.role ≠ .weftRole ∨
        s.dev.control.state ≠ .weave ∨ s.dev.weft.output ≠ some f ∨ s.dev.weft.arrival = .idle →
      ∃ t, exec (.feederStopInput f active) s = .next t ∧ t.pending = s.pending ∧
        t.dev = { s.dev with pins := { s.dev.pins with feederStop := t.dev.pins.feederStop } } ∧
        (f < 8 → t.dev.pins.feederStop.getLsbD f = active))

/-- The advance of a lead is the rounded quotient, kept in 1..4,095, and no bit of its product is lost. (R117) -/
def Obligations.AdvanceOfALead : Prop :=
  ∀ (r : Recip) (lead : Nat),
    (∀ a, a = (16 * lead * r.q + 2 ^ (38 - r.n)) / 2 ^ (39 - r.n) →
      (4095 < a → advanceOf r lead = 4095) ∧ (a = 0 → advanceOf r lead = 1) ∧
      (1 ≤ a → a ≤ 4095 → advanceOf r lead = a)) ∧
    1 ≤ advanceOf r lead ∧ advanceOf r lead ≤ 4095 ∧
    (lead ≤ 4127996 → r.q ≤ 1048575 → 16 * lead * r.q < 2 ^ 46) ∧
    (∀ c, soundConfig .sectionRole c = true → advanceOf r lead = 4095 → arc c.w c.k < advanceOf r lead)

/-- A fire angle is K less the advance where that fits in the window, else W, CROWDED or OVERSPEED; spans have
reciprocals. (R118, R119, R116) -/
def Obligations.FireAngleLiesInTheWindow : Prop :=
  (∀ (d : Device) (c : Configuration) (held : Bool) (lead latency : Nat), soundConfig .sectionRole c = true →
      inArc (firingOf d c held lead latency).angle c.w c.k = true ∧
      (d.tracker.speed ≠ .fast ∨ held = true → (firingOf d c held lead latency).angle = c.w)) ∧
    (∀ s, 1 ≤ s → s ≤ 1048575 →
      ∃ r, recipOf s = some r ∧ r.n ≤ 19 ∧ r.m = s * 2 ^ r.n ∧ 524288 ≤ r.m ∧ r.m ≤ 1048575 ∧
        524288 ≤ r.q ∧ r.q ≤ 1048575 ∧ r.q = min (2 ^ 39 / r.m) 1048575) ∧
    (∀ (d : Device) (c : Configuration) (r : Recip) (lead latency : Nat), d.fire.recip = some r →
      d.tracker.speed = .fast →
      (advanceOf r lead ≤ arc c.w c.k →
        firingOf d c false lead latency =
          ⟨some (advanceOf r lead), (c.k + 4096 - advanceOf r lead) % 4096, .predicted, false, false⟩) ∧
      (arc c.w c.k < advanceOf r lead →
        firingOf d c false lead latency = ⟨some (advanceOf r lead), c.w, .clamped,
          decide (advanceOf r (4 * latency) ≤ arc c.w c.k), decide (arc c.w c.k < advanceOf r (4 * latency))⟩)) ∧
    (∀ (d : Device) (c : Configuration) (held : Bool) (lead latency : Nat),
      d.tracker.speed ≠ .fast ∨ held = true →
      firingOf d c held lead latency = ⟨none, c.w, .angle, false, false⟩)

/-- The majority position found at a close is the largest rival, the first peer's where rivals tie, above the station's
own. (R105, R107, R108) -/
def Obligations.OutvotedByTheLargestRival : Prop :=
  (∀ d : Device,
      ((outvotedBy d).isSome = true ↔
        ∃ e ∈ d.roster.entries, votes e = true ∧ e.pos ≠ ownBeaconPos d ∧ ownVotes d < votesFor d e.pos) ∧
      (∀ p, outvotedBy d = some p →
        p ≠ ownBeaconPos d ∧ ownVotes d < votesFor d p ∧
        (∀ e ∈ d.roster.entries, votes e = true → e.pos ≠ ownBeaconPos d → votesFor d e.pos ≤ votesFor d p) ∧
        ∃ before e after, d.roster.entries = before ++ e :: after ∧ votes e = true ∧ e.pos = p ∧
          ∀ y ∈ before, votes y = true → y.pos ≠ ownBeaconPos d → votesFor d y.pos < votesFor d p)) ∧
    (∀ low own, low < 65536 → own < 16777216 →
      rebuildPiece low own % 65536 = low ∧ rebuildPiece low own < 16777216 ∧
      ((rebuildPiece low own + 16777216 - own) % 16777216 < 32768 ∨
        (own + 16777216 - rebuildPiece low own) % 16777216 ≤ 32768))

/-- The close counts misses, judges agreement, realigns at the second minority, takes the snapshot and checks the weft
code. (R104, R106, R102, R105, R107, R108, R109, R54, R82, R97, R98, R55) The own weft code and lift count of the
pick are those the sequencer was handed (log 20). The model's choice, log 36: the step's other parts come before its
crossings. -/
def Obligations.CloseOfThePick : Prop :=
  (∀ (a b : Bool) (dt : Lapse) (sense : List StringBits) (s : State) (c : Configuration),
      referencedBy c s.dev = true →
      s.dev.control.state = .weave →
      s.dev.roster.windowOpen = true →
      s.dev.control.role = .sectionRole →
      stepsOnto .forward a b c.c s.dev = true →
      ∃ t, exec (.countingStep a b false dt sense) s = .next t ∧ t.pending = s.pending ∧
      t.dev.roster.windowOpen = false ∧ t.dev.line.beaconDue = .idle ∧ t.dev.line.beaconSlot = none ∧
      t.dev.roster.entries = s.dev.roster.entries.map (fun e => { e with
        misses := if e.heard then 0 else min (e.misses + 1) 255
        lapsed := e.lapsed || (!e.heard && decide (15 ≤ e.misses)) }) ∧
      (outvotedBy s.dev = none → t.dev.roster.minority = false ∧ t.dev.seq.pos = s.dev.seq.pos ∧ t.dev.seq.history = s.dev.seq.history) ∧
      (∀ p, outvotedBy s.dev = some p → s.dev.roster.minority = false →
        t.dev.roster.minority = true ∧ t.dev.control.flags.getLsbD 4 = true ∧
        t.dev.seq.pos = s.dev.seq.pos ∧ t.dev.seq.history = s.dev.seq.history) ∧
      (∀ p q, outvotedBy s.dev = some p → s.dev.roster.minority = true →
        q = ⟨p.run, p.iteration, p.row, rebuildPiece p.pieceLow s.dev.seq.pos.piece⟩ →
        t.dev.seq.void = true ∧
        (validPosition s.dev.seq.runs q = true → t.dev.roster.minority = false ∧ t.dev.control.flags.getLsbD 3 = true ∧
          t.dev.seq.pos = q ∧ t.dev.seq.history = [] ∧ t.dev.seq.guardOpen = false ∧
          t.dev.control.writes = s.dev.control.writes ++ [recordOf q c.identity]) ∧
        (validPosition s.dev.seq.runs q = false → t.dev.roster.minority = true ∧ t.dev.control.flags.getLsbD 4 = true ∧
          t.dev.seq.pos = s.dev.seq.pos ∧ t.dev.seq.history = s.dev.seq.history)) ∧
      t.dev.store.mem = s.dev.store.mem ∧ t.dev.control.state = .weave ∧
      t.dev.line.counters.beaconsLate = (if s.dev.line.beaconSlot = none then s.dev.line.counters.beaconsLate
        else min (s.dev.line.counters.beaconsLate + 1) 65535) ∧
      t.dev.roster.snapshot = some ⟨s.dev.control.number, c.capacity, s.dev.seq.pickLift.getD c.capacity,
        s.dev.roster.entries.map fun e => ⟨e.station, e.role, e.lift, e.capacity,
          if e.lapsed then .lapsed else if e.state ≠ .weave then .stray
          else if e.heard then .heard else .absent⟩⟩ ∧
      (s.dev.seq.pickLift.isSome ∨ outvotedBy s.dev = none →
        (∀ e, s.dev.roster.entries.find? (fun e => decide (e.role = .weftRole) && decide (e.state = .weave) && e.heard)
            = some e → weftKnown s.dev = true → recordedWeft s.dev ≠ e.weft →
          t.dev.control.flags.getLsbD 5 = true ∧ t.dev.seq.void = true) ∧
        (outvotedBy s.dev = none →
          (∀ e, s.dev.roster.entries.find? (fun e => decide (e.role = .weftRole) && decide (e.state = .weave) && e.heard)
            = some e → weftKnown s.dev = true → recordedWeft s.dev = e.weft) →
          t.dev.seq = s.dev.seq ∧ t.dev.control.flags.getLsbD 5 = s.dev.control.flags.getLsbD 5))) ∧
  (∀ (a b : Bool) (dt : Lapse) (sense : List StringBits) (s : State) (c : Configuration),
      referencedBy c s.dev = true →
      s.dev.control.state = .weave →
      s.dev.roster.windowOpen = true →
      s.dev.control.role = .weftRole →
      stepsOnto .forward a b c.fa s.dev = true →
      ∃ t, exec (.countingStep a b false dt sense) s = .next t ∧ t.pending = s.pending ∧
      t.dev.roster.windowOpen = false ∧ t.dev.line.beaconDue = .idle ∧ t.dev.line.beaconSlot = none ∧
      t.dev.roster.entries = s.dev.roster.entries.map (fun e => { e with
        misses := if e.heard then 0 else min (e.misses + 1) 255
        lapsed := e.lapsed || (!e.heard && decide (15 ≤ e.misses)) }) ∧
      (outvotedBy s.dev = none → t.dev.roster.minority = false ∧ t.dev.seq.pos = s.dev.seq.pos ∧ t.dev.seq.history = s.dev.seq.history) ∧
      (∀ p, outvotedBy s.dev = some p → s.dev.roster.minority = false →
        t.dev.roster.minority = true ∧ t.dev.control.flags.getLsbD 4 = true ∧
        t.dev.seq.pos = s.dev.seq.pos ∧ t.dev.seq.history = s.dev.seq.history) ∧
      (∀ p q, outvotedBy s.dev = some p → s.dev.roster.minority = true →
        q = ⟨p.run, p.iteration, p.row, rebuildPiece p.pieceLow s.dev.seq.pos.piece⟩ →
        t.dev.seq.void = true ∧
        (validPosition s.dev.seq.runs q = true → t.dev.roster.minority = false ∧ t.dev.control.flags.getLsbD 3 = true ∧
          t.dev.seq.pos = q ∧ t.dev.seq.history = [] ∧ t.dev.seq.guardOpen = false ∧
          t.dev.control.writes = s.dev.control.writes ++ [recordOf q c.identity]) ∧
        (validPosition s.dev.seq.runs q = false → t.dev.roster.minority = true ∧ t.dev.control.flags.getLsbD 4 = true ∧
          t.dev.seq.pos = s.dev.seq.pos ∧ t.dev.seq.history = s.dev.seq.history)) ∧
      t.dev.store.mem = s.dev.store.mem ∧ t.dev.control.state = .weave ∧
      t.dev.roster.snapshot = s.dev.roster.snapshot ∧
      t.dev.line.counters.beaconsLate = (if s.dev.line.beaconSlot = none then s.dev.line.counters.beaconsLate
        else min (s.dev.line.counters.beaconsLate + 1) 65535)) ∧
  (∀ (a b : Bool) (dt : Lapse) (sense : List StringBits) (s : State) (c : Configuration),
      referencedBy c s.dev = true →
      s.dev.control.role = .sectionRole →
      s.dev.roster.windowOpen = false →
      stepsOnto .forward a b c.c s.dev = true →
      ∃ t, exec (.countingStep a b false dt sense) s = .next t ∧ t.pending = s.pending ∧
      t.dev.roster = s.dev.roster ∧ t.dev.seq = s.dev.seq ∧ t.dev.line.beaconSlot = none ∧ t.dev.line.beaconDue = s.dev.line.beaconDue ∧
      t.dev.line.counters.beaconsLate = (if s.dev.line.beaconSlot = none then s.dev.line.counters.beaconsLate
        else min (s.dev.line.counters.beaconsLate + 1) 65535)) ∧
  (∀ (a b : Bool) (dt : Lapse) (sense : List StringBits) (s : State) (c : Configuration),
      referencedBy c s.dev = true →
      s.dev.control.role = .weftRole →
      s.dev.roster.windowOpen = false →
      stepsOnto .forward a b c.fa s.dev = true →
      ∃ t, exec (.countingStep a b false dt sense) s = .next t ∧ t.pending = s.pending ∧
      t.dev.roster = s.dev.roster ∧ t.dev.seq.pos = s.dev.seq.pos ∧ t.dev.seq.history = s.dev.seq.history ∧
      t.dev.line.beaconSlot = none ∧ t.dev.line.beaconDue = s.dev.line.beaconDue ∧
      t.dev.line.counters.beaconsLate = (if s.dev.line.beaconSlot = none then s.dev.line.counters.beaconsLate
        else min (s.dev.line.counters.beaconsLate + 1) 65535))

/-- At the close the fire timer takes waves and leads and hands every string its angle; a span in SET recomputes those
not fired (in mode NONE: log 47). (R112, R113, R114, R115, R116, R119, R120, R121, R118, R131, R122) The firing of a
lead is stated in FireAngleLiesInTheWindow. A string without a latency, which no configuration leaves, counts as 0
(log 32). The advance of a string handed W is cleared: the model's choice (log 49). That strings fire and are
reported with the pick mode NONE in SET is log 47 (the rules do not say). The moves to IDLE are log 51. Where a
recomputed string neither fires nor waits, that the pick mode is TEST in TEST alone is a premise, an invariant
stated in OutputsStaySafe. -/
def Obligations.FireTimerComputesTheAngles : Prop :=
  (∀ (a b : Bool) (dt : Lapse) (sense : List StringBits) (s : State) (c : Configuration),
      referencedBy c s.dev = true →
      s.dev.control.state = .weave →
      s.dev.control.role = .sectionRole →
      goesOn .forward s.dev = true →
      stepsOnto .forward a b c.c s.dev = true →
      s.dev.roster.windowOpen = true →
      s.dev.fire.phase = .idle →
      (s.dev.fire.strings.all fun r => !r.fired) = true →
      noFireAt c.c s.dev = true →
      ∃ t, exec (.countingStep a b false dt sense) s = .next t ∧ t.pending = s.pending ∧
      t.dev.fire.phase = (if s.dev.fire.angleHold then .held else .set) ∧
      t.dev.fire.strings.length = s.dev.fire.strings.length ∧ t.dev.strings.strings.length = s.dev.strings.strings.length ∧
      (∀ sn v, t.dev.roster.snapshot = some sn → t.dev.fire.waves = some v →
        v.hooks = sn.ownLift + (sn.entries.map fun e => (match e.role, e.cls with
          | .weftRole, _ => 0
          | _, .heard => e.lift
          | _, .lapsed => 0
          | _, _ => e.capacity)).sum ∧
        v.total = (if v.hooks = 0 then 1 else (v.hooks - 1) / c.m + 1) ∧
        v.place = ((sn.entries.filter fun e => decide (e.station < sn.number)).map fun e => (match e.role, e.cls with
          | .weftRole, _ => 0
          | _, .heard => e.lift
          | _, .lapsed => 0
          | _, _ => e.capacity)).sum ∧
        v.wave = min (v.place / c.m) (v.total - 1)) ∧
      (∀ v, t.dev.fire.waves = some v → ∀ (i : Nat) (x : SelString), i < stringCount s.dev → s.dev.strings.strings[i]? = some x →
        i < s.dev.fire.strings.length → ∀ lead f,
        lead = 4 * (x.latency.getD 0 + (v.total - 1 - v.wave) * c.p) →
        f = firingOf s.dev c s.dev.fire.angleHold lead (x.latency.getD 0) →
        t.dev.fire.strings[i]? = some ⟨some lead, f.advance, some f.angle, some f.basis, false⟩ ∧
        (x.chain = .resting ∨ x.chain = .pending →
          t.dev.strings.strings[i]? = some { x with
            chain := .pending, fireAngle := some f.angle, drive := elapseDrive (inrushTicks s.dev) dt.ticks x.drive }) ∧
        (f.crowded = true → t.dev.control.flags.getLsbD 9 = true) ∧
        (f.overspeed = true → t.dev.control.flags.getLsbD 8 = true)) ∧
      t.dev.fire.waves.isSome) ∧
  (∀ (a b : Bool) (dt : Lapse) (sense : List StringBits) (s : State) (c : Configuration) (x : Nat),
      referencedBy c s.dev = true →
      s.dev.control.state = .weave →
      s.dev.control.role = .sectionRole →
      s.dev.tracker.dir = .forward →
      s.dev.tracker.speed ≠ .stalled →
      s.dev.tracker.spanCounts = some 15 →
      stepsOnto .forward a b x s.dev = true →
      x ≠ c.b →
      x ≠ c.k →
      s.dev.fire.phase = .set →
      ∃ t, exec (.countingStep a b false dt sense) s = .next t ∧ t.pending = s.pending ∧
      t.dev.fire.recip = (t.dev.tracker.span.bind recipOf) ∧ t.dev.fire.waves = s.dev.fire.waves ∧
      (inArc x c.c c.k = false → t.dev.fire.phase = .past ∧
        t.dev.fire.strings.map (·.angle) = s.dev.fire.strings.map (·.angle)) ∧
      (inArc x c.c c.k = true → t.dev.fire.phase = .set ∧
        (∀ (i : Nat) (r : FireString), i < stringCount s.dev → s.dev.fire.strings[i]? = some r →
          (r.fired = true → t.dev.fire.strings[i]? = some r) ∧
          (r.fired = false → ∃ y, t.dev.fire.strings[i]? = some y ∧ y.lead = r.lead ∧
            y.angle = some (firingAt t.dev c false i r).angle ∧ y.basis = some (firingAt t.dev c false i r).basis ∧
            y.advance = (firingAt t.dev c false i r).advance)) ∧
        (∀ (i : Nat) (r : FireString), i < stringCount s.dev → s.dev.fire.strings[i]? = some r →
          ∀ z, s.dev.strings.strings[i]? = some z → r.fired = false → z.chain = .pending → z.drive = .off → z.waiting = false →
          noFireAt x s.dev = true → testPickSound s.dev = true →
          (inArc x (firingAt t.dev c false i r).angle c.k = true → z.pattern = true → s.dev.strings.blank = false →
            s.dev.strings.power = .on → s.dev.strings.mode = .forward →
            t.dev.strings.strings[i]? = some { z with
              fireAngle := some (firingAt t.dev c false i r).angle, outReg := if z.latched then z.outReg else z.shiftReg
              latched := true, drive := .inrush 0, chain := .fired }) ∧
          (inArc x (firingAt t.dev c false i r).angle c.k = false →
            t.dev.strings.strings[i]? = some { z with fireAngle := some (firingAt t.dev c false i r).angle })))) ∧
  (∀ (dir : Direction) (a b : Bool) (dt : Lapse) (sense : List StringBits) (s : State) (c : Configuration) (x : Nat),
      referencedBy c s.dev = true →
      s.dev.control.state = .weave →
      s.dev.control.role = .sectionRole →
      s.dev.strings.mode = .none →
      s.dev.tracker.speed = .fast →
      s.dev.fire.phase = .set →
      turns dir s.dev.tracker = true →
      stepsOnto dir a b x s.dev = true →
      x ≠ c.b →
      x ≠ c.c →
      x ≠ c.w →
      x ≠ c.k →
      x ≠ c.d →
      x ≠ guardEnd c →
      ∃ t, exec (.countingStep a b false dt sense) s = .next t ∧ t.pending = s.pending ∧
      FiresByW c x s.dev t.dev)

/-- A string fires at the step onto its angle, FIRED strings are captured at K, the missed ones reported, and D releases
all (logs 47, 52). (R131, R132, R133, R134, R120, R126, R140, R44, R112) That a string whose angle came after the D
crossing fires is log 47. That a PENDING string which waits already is as before, at a step onto W in HELD with
power ON too, is log 52. That a K crossing taken again with the capture-done mark set strobes and makes no test is
log 26. -/
def Obligations.StringsFireCaptureAndRelease : Prop :=
  (∀ (a b : Bool) (dt : Lapse) (sense : List StringBits) (s : State) (c : Configuration) (f : Nat),
      referencedBy c s.dev = true →
      s.dev.control.state = .weave →
      s.dev.control.role = .sectionRole →
      s.dev.strings.mode = .forward →
      goesOn .forward s.dev = true →
      stepsOnto .forward a b f s.dev = true →
      f ≠ c.b →
      f ≠ c.c →
      f ≠ c.k →
      f ≠ c.d →
      ∃ t, exec (.countingStep a b false dt sense) s = .next t ∧ t.pending = s.pending ∧
      t.dev.strings.strings.length = s.dev.strings.strings.length ∧ t.dev.seq.pos = s.dev.seq.pos ∧ t.dev.seq.void = s.dev.seq.void ∧
      (∀ (i : Nat) (x : SelString), i < stringCount s.dev → s.dev.strings.strings[i]? = some x → x.drive = .off →
        (x.chain = .pending → x.fireAngle = some f → x.waiting = false → x.pattern = true →
          s.dev.strings.blank = false → s.dev.strings.power = .on →
          t.dev.strings.strings[i]? = some { x with
            outReg := if x.latched then x.outReg else x.shiftReg
            latched := true, drive := .inrush 0, chain := .fired, waiting := false } ∧
          (t.dev.fire.strings[i]?.all fun r => r.fired) = true) ∧
        (x.chain = .pending → x.fireAngle = some f → s.dev.strings.blank = false →
          x.pattern = false ∨ s.dev.strings.power ≠ .on → t.dev.strings.strings[i]? = some { x with waiting := true }) ∧
        (x.chain ≠ .pending ∨ x.fireAngle ≠ some f ∨ s.dev.strings.blank = true ∨ x.waiting = true →
          t.dev.strings.strings[i]? = some x))) ∧
  (∀ (a b : Bool) (dt : Lapse) (sense : List StringBits) (s : State) (c : Configuration),
      referencedBy c s.dev = true →
      s.dev.control.role = .sectionRole →
      capturesAtK s.dev = true →
      goesOn .forward s.dev = true →
      stepsOnto .forward a b c.k s.dev = true →
      noFireAt c.k s.dev = true →
      ∃ t, exec (.countingStep a b false dt sense) s = .next t ∧ t.pending = s.pending ∧
      t.dev.strings.captureDone = true ∧ t.dev.strings.strings.length = s.dev.strings.strings.length ∧
      (∀ (i : Nat) (x : SelString), i < stringCount s.dev → s.dev.strings.strings[i]? = some x →
        (x.chain = .fired → t.dev.strings.strings[i]? = some { x with
          chain := .captured, echo := true, expected := some x.outReg, capturePos := some s.dev.seq.pos
          shiftReg := sense.getD i 0#128, drive := elapseDrive (inrushTicks s.dev) dt.ticks x.drive }) ∧
        (x.chain = .pending → s.dev.strings.blank = false → s.dev.strings.captureDone = false → t.dev.strings.strings[i]? = some { x with
          waiting := false, fireAngle := none, echo := false, drive := elapseDrive (inrushTicks s.dev) dt.ticks x.drive }) ∧
        (x.chain ≠ .fired → x.chain ≠ .pending ∨ s.dev.strings.blank = true ∨ s.dev.strings.captureDone = true →
          t.dev.strings.strings[i]? = some { x with drive := elapseDrive (inrushTicks s.dev) dt.ticks x.drive })) ∧
      (someMissed s.dev = true → s.dev.strings.captureDone = false →
        t.dev.control.flags.getLsbD 7 = true ∧ (s.dev.control.state = .weave → t.dev.seq.void = true)) ∧
      (someMissed s.dev = false ∨ s.dev.strings.captureDone = true →
        t.dev.seq = s.dev.seq ∧ t.dev.control.flags.getLsbD 7 = s.dev.control.flags.getLsbD 7) ∧
      (s.dev.fire.phase = .set → t.dev.fire.phase = .past) ∧ (s.dev.fire.phase ≠ .set → t.dev.fire.phase = s.dev.fire.phase)) ∧
  (∀ (a b : Bool) (dt : Lapse) (sense : List StringBits) (s : State) (c : Configuration),
      referencedBy c s.dev = true →
      s.dev.control.role = .sectionRole →
      capturesAtK s.dev = true →
      goesOn .forward s.dev = true →
      stepsOnto .forward a b c.d s.dev = true →
      noFireAt c.d s.dev = true →
      ∃ t, exec (.countingStep a b false dt sense) s = .next t ∧ t.pending = s.pending ∧
      t.dev.strings.mode = .none ∧ t.dev.strings.strings.length = s.dev.strings.strings.length ∧
      (t.dev.strings.strings.all fun x => decide (x.chain = .resting) && decide (x.drive = .off)) = true ∧
      t.dev.strings.strings.map (·.outReg) = s.dev.strings.strings.map (·.outReg) ∧
      t.dev.strings.strings.map (·.expected) = s.dev.strings.strings.map (·.expected) ∧
      (s.dev.strings.missTested = true ∨ s.dev.control.state = .test →
        t.dev.strings.strings.map (·.echo) = s.dev.strings.strings.map (·.echo) ∧ t.dev.seq = s.dev.seq) ∧
      (s.dev.strings.missTested = false → s.dev.control.state = .weave →
        (someMissed s.dev = true → t.dev.control.flags.getLsbD 7 = true ∧ t.dev.seq.void = true) ∧
        (someMissed s.dev = false → t.dev.seq = s.dev.seq))) ∧
  (∀ (a b : Bool) (dt : Lapse) (sense : List StringBits) (s : State) (c : Configuration) (f : Nat),
      referencedBy c s.dev = true →
      s.dev.control.state = .weave →
      s.dev.control.role = .sectionRole →
      s.dev.strings.mode = .none →
      goesOn .forward s.dev = true →
      stepsOnto .forward a b f s.dev = true →
      f ≠ c.b →
      f ≠ c.c →
      ∃ t, exec (.countingStep a b false dt sense) s = .next t ∧ t.pending = s.pending ∧
      t.dev.strings.strings.length = s.dev.strings.strings.length ∧ t.dev.seq = { s.dev.seq with guardOpen := t.dev.seq.guardOpen } ∧
      (∀ (i : Nat) (x : SelString), i < stringCount s.dev → s.dev.strings.strings[i]? = some x → x.drive = .off →
        x.chain = .pending → x.fireAngle = some f → x.waiting = false → x.pattern = true →
        s.dev.strings.blank = false → s.dev.strings.power = .on →
        t.dev.strings.strings[i]? = some { x with
          outReg := if x.latched then x.outReg else x.shiftReg
          latched := true, drive := .inrush 0, chain := .fired, waiting := false } ∧
        (t.dev.fire.strings[i]?.all fun r => r.fired) = true))

/-- A direction change takes the pick's strings back, and a reverse pick fires at D, captures at K and ends at W. (R135,
R136, R123, R134, R126, R1) That a blank reverse pick reports no missed selection is the model's reading (log 27).
With the fire timer in SET and the speed FAST, the direction change reaches the fire timer before the fall from
FAST: the model's order (log 22). A string missed at K in HELD gets no new angle at a further turn (log 48). -/
def Obligations.TurnsAndReverseSelection : Prop :=
  (∀ (dir : Direction) (a b : Bool) (dt : Lapse) (sense : List StringBits) (s : State) (c : Configuration) (x : Nat),
      referencedBy c s.dev = true →
      s.dev.control.state = .weave →
      s.dev.control.role = .sectionRole →
      s.dev.strings.mode = .forward →
      turns dir s.dev.tracker = true →
      stepsOnto dir a b x s.dev = true →
      x ≠ c.b →
      x ≠ c.c →
      x ≠ c.w →
      x ≠ c.k →
      x ≠ c.d →
      noFireAt x s.dev = true →
      ∃ t, exec (.countingStep a b false dt sense) s = .next t ∧ t.pending = s.pending ∧
      t.dev.strings.mode = .forward ∧ t.dev.strings.captureDone = false ∧ t.dev.strings.strings.length = s.dev.strings.strings.length ∧
      t.dev.seq.pos = s.dev.seq.pos ∧ t.dev.seq.void = s.dev.seq.void ∧
      (s.dev.fire.phase = .idle → t.dev.fire.phase = .idle ∧ t.dev.fire.angleHold = true) ∧
      (s.dev.fire.phase ≠ .idle → t.dev.fire.phase = .held) ∧
      (s.dev.fire.phase = .set ∨ s.dev.fire.phase = .past → (t.dev.fire.strings.all fun r => !r.fired) = true) ∧
      (∀ (i : Nat) (y : SelString), i < stringCount s.dev → s.dev.strings.strings[i]? = some y →
        i < s.dev.fire.strings.length →
        (s.dev.fire.phase = .idle ∨ s.dev.fire.phase = .held →
          t.dev.strings.strings[i]? = some { y with
            drive := .off
            chain := if y.chain = .fired ∨ y.chain = .captured then .pending else y.chain
            waiting := y.waiting && decide (y.chain ≠ .fired) && decide (y.chain ≠ .captured) }) ∧
        (s.dev.fire.phase = .set ∨ s.dev.fire.phase = .past →
          t.dev.strings.strings[i]? = some { y with
            drive := .off, chain := .pending, fireAngle := some c.w
            waiting := y.waiting && decide (y.chain ≠ .fired) && decide (y.chain ≠ .captured) } ∧
          t.dev.fire.strings[i]?.map (·.basis) = some (some .angle)))) ∧
  (∀ (a b : Bool) (dt : Lapse) (sense : List StringBits) (s : State) (c : Configuration),
      referencedBy c s.dev = true →
      s.dev.control.state = .weave →
      s.dev.control.role = .sectionRole →
      s.dev.strings.mode = .reverse →
      goesOn .reverse s.dev = true →
      stepsOnto .reverse a b c.d s.dev = true →
      ∃ t, exec (.countingStep a b false dt sense) s = .next t ∧ t.pending = s.pending ∧
      t.dev.strings.strings.length = s.dev.strings.strings.length ∧ t.dev.seq = s.dev.seq ∧
      (∀ (i : Nat) (x : SelString), i < stringCount s.dev → s.dev.strings.strings[i]? = some x → x.chain = .resting →
        (x.pattern = true → s.dev.strings.blank = false → s.dev.strings.power = .on →
          t.dev.strings.strings[i]? = some { x with
            outReg := if x.latched then x.outReg else x.shiftReg
            latched := true, drive := .inrush 0, chain := .fired, waiting := false }) ∧
        (x.pattern = false ∨ s.dev.strings.blank = true ∨ s.dev.strings.power ≠ .on →
          t.dev.strings.strings[i]? = some { x with waiting := true, drive := elapseDrive (inrushTicks s.dev) dt.ticks x.drive }))) ∧
  (∀ (a b : Bool) (dt : Lapse) (sense : List StringBits) (s : State) (c : Configuration),
      referencedBy c s.dev = true →
      s.dev.control.state = .weave →
      s.dev.control.role = .sectionRole →
      s.dev.strings.mode = .reverse →
      goesOn .reverse s.dev = true →
      stepsOnto .reverse a b c.k s.dev = true →
      ∃ t, exec (.countingStep a b false dt sense) s = .next t ∧ t.pending = s.pending ∧
      t.dev.strings.captureDone = true ∧ t.dev.strings.strings.length = s.dev.strings.strings.length ∧ t.dev.seq = s.dev.seq ∧
      (∀ (i : Nat) (x : SelString), i < stringCount s.dev → s.dev.strings.strings[i]? = some x →
        (x.chain = .fired → x.waiting = false → t.dev.strings.strings[i]? = some { x with
          chain := .captured, echo := true, expected := some x.outReg, capturePos := some s.dev.seq.pos
          shiftReg := sense.getD i 0#128, drive := elapseDrive (inrushTicks s.dev) dt.ticks x.drive }) ∧
        (x.chain ≠ .fired → x.waiting = true → t.dev.strings.strings[i]? = some { x with
          waiting := false, echo := false, drive := elapseDrive (inrushTicks s.dev) dt.ticks x.drive } ∧
          (s.dev.strings.blank = false → t.dev.control.flags.getLsbD 7 = true)))) ∧
  (∀ (a b : Bool) (dt : Lapse) (sense : List StringBits) (s : State) (c : Configuration),
      referencedBy c s.dev = true →
      s.dev.control.state = .weave →
      s.dev.control.role = .sectionRole →
      s.dev.strings.mode = .reverse →
      goesOn .reverse s.dev = true →
      stepsOnto .reverse a b c.w s.dev = true →
      ∃ t, exec (.countingStep a b false dt sense) s = .next t ∧ t.pending = s.pending ∧
      t.dev.strings.mode = .none ∧ t.dev.strings.strings.length = s.dev.strings.strings.length ∧ t.dev.seq = s.dev.seq ∧
      (t.dev.strings.strings.all fun x => decide (x.chain = .resting) && decide (x.drive = .off)) = true) ∧
  (∀ (dir : Direction) (a b : Bool) (dt : Lapse) (sense : List StringBits) (s : State) (c : Configuration) (x : Nat),
      referencedBy c s.dev = true →
      s.dev.control.state = .weave →
      s.dev.control.role = .sectionRole →
      s.dev.strings.mode = .reverse →
      s.dev.roster.windowOpen = false →
      s.dev.fire.phase ≠ .set →
      turns dir s.dev.tracker = true →
      stepsOnto dir a b x s.dev = true →
      x ≠ c.b →
      x ≠ c.w →
      x ≠ c.k →
      x ≠ c.d →
      ∃ t, exec (.countingStep a b false dt sense) s = .next t ∧ t.pending = s.pending ∧
      t.dev.strings.mode = .reverse ∧ t.dev.strings.strings.length = s.dev.strings.strings.length ∧
      (∀ (i : Nat) (y : SelString), s.dev.strings.strings[i]? = some y →
        t.dev.strings.strings[i]? = some { y with
          drive := .off
          chain := if y.chain = .captured ∨ y.chain = .fired then .resting else y.chain
          waiting := y.waiting && decide (y.chain ≠ .fired) && decide (y.chain ≠ .captured) }))

/-- In TEST a turning shaft opens a test pick at B with the step's pattern, fires it at W and takes it back at a turn.
(R140, R139, R131, R70, R135) -/
def Obligations.TurningTestPick : Prop :=
  (∀ (a b : Bool) (dt : Lapse) (sense : List StringBits) (s : State) (c : Configuration) (k : TestPattern),
      referencedBy c s.dev = true →
      s.dev.control.state = .test →
      s.dev.control.role = .sectionRole →
      s.dev.strings.test.op = .idle →
      s.dev.strings.test.pattern = some k →
      k ≠ .row →
      stepsOnto .forward a b c.b s.dev = true →
      ∃ t, exec (.countingStep a b false dt sense) s = .next t ∧ t.pending = s.pending ∧
      t.dev.strings.mode = .test ∧ t.dev.strings.blank = false ∧ t.dev.strings.captureDone = false ∧
      t.dev.strings.test = { s.dev.strings.test with step := (s.dev.strings.test.step + 1) % 65536 } ∧
      t.dev.strings.strings.length = s.dev.strings.strings.length ∧ t.dev.control.state = .test ∧ t.dev.seq.pos = s.dev.seq.pos ∧ t.dev.store = { s.dev.store with fetch := t.dev.store.fetch } ∧
      (∀ (i : Nat) (x : SelString), i < stringCount s.dev → t.dev.strings.strings[i]? = some x →
        x.chain = .pending ∧ x.fireAngle = some c.w ∧ x.pattern = true ∧ x.latched = false ∧ x.waiting = false ∧
        x.drive = .off ∧ x.echo = false ∧ x.shiftReg = testBits k s.dev.strings.test.step)) ∧
  (∀ (a b : Bool) (dt : Lapse) (sense : List StringBits) (s : State) (c : Configuration),
      referencedBy c s.dev = true →
      s.dev.control.state = .test →
      s.dev.control.role = .sectionRole →
      s.dev.strings.test.op = .idle →
      s.dev.strings.test.pattern = some .row →
      stepsOnto .forward a b c.b s.dev = true →
      ∃ t, exec (.countingStep a b false dt sense) s = .next t ∧ t.pending = s.pending ∧
      t.dev.strings.mode = .test ∧ t.dev.strings.blank = false ∧ t.dev.strings.captureDone = false ∧
      t.dev.strings.test = { s.dev.strings.test with step := (s.dev.strings.test.step + 1) % 65536 } ∧
      t.dev.strings.strings.length = s.dev.strings.strings.length ∧ t.dev.control.state = .test ∧ t.dev.seq.pos = s.dev.seq.pos ∧ t.dev.store.fetch = .fetching s.dev.strings.test.row .test 0 ∧ t.dev.store.result = none ∧
      (∀ (i : Nat) (x : SelString), i < stringCount s.dev → t.dev.strings.strings[i]? = some x →
        x.chain = .pending ∧ x.fireAngle = some c.w ∧ x.pattern = false ∧ x.latched = false ∧ x.waiting = false ∧
        x.drive = .off)) ∧
  (∀ (a b : Bool) (dt : Lapse) (sense : List StringBits) (s : State) (c : Configuration),
      referencedBy c s.dev = true →
      s.dev.control.state = .test →
      s.dev.control.role = .sectionRole →
      s.dev.strings.test.op = .idle →
      s.dev.strings.mode = .test →
      goesOn .forward s.dev = true →
      stepsOnto .forward a b c.w s.dev = true →
      ∃ t, exec (.countingStep a b false dt sense) s = .next t ∧ t.pending = s.pending ∧
      t.dev.strings.strings.length = s.dev.strings.strings.length ∧ t.dev.seq = s.dev.seq ∧ t.dev.fire.phase = s.dev.fire.phase ∧
      (∀ (i : Nat) (x : SelString), i < stringCount s.dev → s.dev.strings.strings[i]? = some x → x.chain = .pending →
        x.waiting = false → s.dev.strings.blank = false →
        (x.pattern = true → s.dev.strings.power = .on →
          t.dev.strings.strings[i]? = some { x with
            outReg := if x.latched then x.outReg else x.shiftReg
            latched := true, drive := .inrush 0, chain := .fired, waiting := false }) ∧
        (x.pattern = false ∨ s.dev.strings.power ≠ .on →
          t.dev.strings.strings[i]? = some { x with waiting := true, drive := elapseDrive (inrushTicks s.dev) dt.ticks x.drive }))) ∧
  (∀ (dir : Direction) (a b : Bool) (dt : Lapse) (sense : List StringBits) (s : State) (c : Configuration) (x : Nat),
      referencedBy c s.dev = true →
      s.dev.control.state = .test →
      s.dev.control.role = .sectionRole →
      s.dev.strings.test.op = .idle →
      s.dev.strings.mode = .test →
      s.dev.fire.phase ≠ .set →
      turns dir s.dev.tracker = true →
      stepsOnto dir a b x s.dev = true →
      x ≠ c.b →
      x ≠ c.w →
      x ≠ c.k →
      x ≠ c.d →
      ∃ t, exec (.countingStep a b false dt sense) s = .next t ∧ t.pending = s.pending ∧
      t.dev.strings.mode = .test ∧ t.dev.strings.captureDone = false ∧
      (∀ (i : Nat) (y : SelString), s.dev.strings.strings[i]? = some y →
        t.dev.strings.strings[i]? = some { y with
          drive := .off
          chain := if y.chain = .captured ∨ y.chain = .fired then .pending else y.chain
          waiting := y.waiting && decide (y.chain ≠ .fired) && decide (y.chain ≠ .captured) }))

/-- The weft code chooses the finger: at the forward B crossing with an override, else at the fetch; the code left flips
its toggle. (R153, R154, R155, R158, R159, R71, R66, R68, R27) The override is the one kept with the fetch, and the
code left the one recorded for the pick (log 20). That a choice still PENDING at the fetch of a sound row with an
override is made for the row's code is log 54, and that the output stays where the check is IDLE is log 59. -/
def Obligations.WeftCodeChoosesTheFinger : Prop :=
  (∀ (a b : Bool) (dt : Lapse) (sense : List StringBits) (s : State) (c : Configuration),
      referencedBy c s.dev = true →
      s.dev.control.state = .weave →
      s.dev.control.role = .weftRole →
      stepsOnto .forward a b c.b s.dev = true →
      ∃ t, exec (.countingStep a b false dt sense) s = .next t ∧ t.pending = s.pending ∧
      (s.dev.seq.void = true → t.dev.weft.toggles = s.dev.weft.toggles) ∧
      (∀ i, i < 8 → s.dev.seq.void = false →
        t.dev.weft.toggles.getLsbD i = (s.dev.weft.toggles.getLsbD i ^^
          (decide (recordedWeft s.dev = i) &&
            (s.dev.weft.map[i]?).join.any fun e => e.mixing && e.alternate.isSome))) ∧
      t.dev.weft.arrival = .idle ∧ t.dev.weft.output = s.dev.weft.output ∧ t.dev.weft.map = s.dev.weft.map ∧
      (s.dev.weft.arrival = .waiting ∨ s.dev.weft.arrival = .openWindow →
        t.dev.control.flags.getLsbD 27 = true ∧ t.dev.seq.void = true) ∧
      (overrideOf t.dev = none → t.dev.weft.choice = .pending) ∧
      (∀ k, overrideOf t.dev = some k → (8 ≤ k → t.dev.weft.choice = .chosen none) ∧
        (∀ e f, k < 8 → s.dev.weft.map[k]? = some (some e) →
        f = (if e.mixing = true ∧ e.alternate.isSome ∧ t.dev.weft.toggles.getLsbD k = true
          then e.alternate.getD e.primary else e.primary) →
        (s.dev.pins.feederStop.getLsbD f = false → t.dev.weft.choice = .chosen (some f)) ∧
        (∀ g, s.dev.pins.feederStop.getLsbD f = true →
          (if f = e.primary then e.alternate else some e.primary) = some g →
          s.dev.pins.feederStop.getLsbD g = false →
          t.dev.weft.choice = .chosen (some g) ∧ t.dev.control.flags.getLsbD 25 = true) ∧
        (s.dev.pins.feederStop.getLsbD f = true →
          ((if f = e.primary then e.alternate else some e.primary).all fun g => s.dev.pins.feederStop.getLsbD g) = true →
          t.dev.weft.choice = .chosen none ∧ t.dev.control.flags.getLsbD 26 = true ∧
          (s.dev.control.state = .weave → t.dev.seq.void = true))))) ∧
  (∀ (s : State) (row e : Nat) (rev : Bool) (o : Option Nat),
      s.dev.control.powered = true →
      s.dev.control.role = .weftRole →
      s.dev.store.fetch = .fetching row (.pick rev o) e →
      row ∈ s.dev.store.written →
      (readRow s.dev row).sound = true →
      ∃ t, exec (.fetchComplete []) s = .next t ∧ t.pending = s.pending ∧
      t.dev.store = { s.dev.store with
        fetch := .idle, result := some ⟨row, (readRow s.dev row).weft.toNat, 0, [], true⟩ } ∧
      t.dev.weft.toggles = s.dev.weft.toggles ∧ t.dev.seq.pickWeft = some (o.getD (readRow s.dev row).weft.toNat) ∧ t.dev.seq.pickLift = some 0 ∧
      (s.dev.weft.choice ≠ .pending → t.dev.weft = s.dev.weft) ∧
      (s.dev.weft.choice = .pending → s.dev.weft.arrival = .idle →
        t.dev.weft = { s.dev.weft with choice := t.dev.weft.choice }) ∧
      (s.dev.weft.choice = .pending → s.dev.weft.arrival ≠ .idle →
        t.dev.weft = { s.dev.weft with
          choice := t.dev.weft.choice, output := chosenFinger t.dev.weft.choice, stopMark := false
          arrival := if t.dev.weft.choice = .chosen none ∧
              (s.dev.weft.arrival = .waiting ∨ s.dev.weft.arrival = .openWindow) then .skipped else s.dev.weft.arrival }) ∧
      (∀ k, k = (readRow s.dev row).weft.toNat → s.dev.weft.choice = .pending →
        (8 ≤ k → t.dev.weft.choice = .chosen none) ∧
        (∀ e f, k < 8 → s.dev.weft.map[k]? = some (some e) →
        f = (if e.mixing = true ∧ e.alternate.isSome ∧ t.dev.weft.toggles.getLsbD k = true
          then e.alternate.getD e.primary else e.primary) →
        (s.dev.pins.feederStop.getLsbD f = false → t.dev.weft.choice = .chosen (some f)) ∧
        (∀ g, s.dev.pins.feederStop.getLsbD f = true →
          (if f = e.primary then e.alternate else some e.primary) = some g →
          s.dev.pins.feederStop.getLsbD g = false →
          t.dev.weft.choice = .chosen (some g) ∧ t.dev.control.flags.getLsbD 25 = true) ∧
        (s.dev.pins.feederStop.getLsbD f = true →
          ((if f = e.primary then e.alternate else some e.primary).all fun g => s.dev.pins.feederStop.getLsbD g) = true →
          t.dev.weft.choice = .chosen none ∧ t.dev.control.flags.getLsbD 26 = true ∧
          (s.dev.control.state = .weave → t.dev.seq.void = true))))) ∧
  (∀ (s : State) (row e : Nat) (rev : Bool) (o : Option Nat),
      s.dev.control.powered = true →
      s.dev.control.role = .weftRole →
      s.dev.store.fetch = .fetching row (.pick rev o) e →
      row ∉ s.dev.store.written ∨ (readRow s.dev row).sound = false →
      ∃ t, exec (.fetchComplete []) s = .next t ∧ t.pending = s.pending ∧
      t.dev.store = { s.dev.store with
        fetch := .idle, result := some ⟨row, o.getD 15, 0, [], false⟩, lastDamaged := some row } ∧
      t.dev.weft.toggles = s.dev.weft.toggles ∧ t.dev.seq.pickWeft = some (o.getD 15) ∧ t.dev.seq.pickLift = some 0 ∧
      (s.dev.weft.choice ≠ .pending → t.dev.weft = s.dev.weft) ∧
      (s.dev.weft.choice = .pending → s.dev.weft.arrival = .idle →
        t.dev.weft = { s.dev.weft with choice := t.dev.weft.choice }) ∧
      (s.dev.weft.choice = .pending → s.dev.weft.arrival ≠ .idle →
        t.dev.weft = { s.dev.weft with
          choice := t.dev.weft.choice, output := chosenFinger t.dev.weft.choice, stopMark := false
          arrival := if t.dev.weft.choice = .chosen none ∧
              (s.dev.weft.arrival = .waiting ∨ s.dev.weft.arrival = .openWindow) then .skipped else s.dev.weft.arrival }) ∧
      t.dev.control.flags.getLsbD 6 = true ∧ (s.dev.control.state = .weave → t.dev.seq.void = true) ∧
      (∀ k, k = o.getD 15 → s.dev.weft.choice = .pending →
        (8 ≤ k → t.dev.weft.choice = .chosen none) ∧
        (∀ e f, k < 8 → s.dev.weft.map[k]? = some (some e) →
        f = (if e.mixing = true ∧ e.alternate.isSome ∧ t.dev.weft.toggles.getLsbD k = true
          then e.alternate.getD e.primary else e.primary) →
        (s.dev.pins.feederStop.getLsbD f = false → t.dev.weft.choice = .chosen (some f)) ∧
        (∀ g, s.dev.pins.feederStop.getLsbD f = true →
          (if f = e.primary then e.alternate else some e.primary) = some g →
          s.dev.pins.feederStop.getLsbD g = false →
          t.dev.weft.choice = .chosen (some g) ∧ t.dev.control.flags.getLsbD 25 = true) ∧
        (s.dev.pins.feederStop.getLsbD f = true →
          ((if f = e.primary then e.alternate else some e.primary).all fun g => s.dev.pins.feederStop.getLsbD g) = true →
          t.dev.weft.choice = .chosen none ∧ t.dev.control.flags.getLsbD 26 = true ∧
          (s.dev.control.state = .weave → t.dev.seq.void = true)))))

/-- At Fa the output takes the pick's finger, re-examined, and the arrival check is armed; Ao opens it and Ac ends it.
(R157, R158, R159, R155, R44) Where the finger stands at neither place of the pair the other one is the primary: the
model's choice (log 45). The weft code of the pick is the one held by the sequencer (log 20). -/
def Obligations.FingerComesOnAndArrivalIsChecked : Prop :=
  (∀ (a b : Bool) (dt : Lapse) (sense : List StringBits) (s : State) (c : Configuration),
      referencedBy c s.dev = true →
      s.dev.control.state = .weave →
      s.dev.control.role = .weftRole →
      stepsOnto .forward a b c.fa s.dev = true →
      ∃ t, exec (.countingStep a b false dt sense) s = .next t ∧ t.pending = s.pending ∧
      (∀ f, s.dev.weft.choice = .chosen (some f) → s.dev.pins.feederStop.getLsbD f = true → ∀ e,
        mapEntry s.dev (s.dev.seq.pickWeft.getD 15) = some e →
        (∀ g, (if f = e.primary then e.alternate else some e.primary) = some g → s.dev.pins.feederStop.getLsbD g = false →
          t.dev.weft = { s.dev.weft with choice := .chosen (some g), output := some g, arrival := .waiting, stopMark := false } ∧
          t.dev.control.flags.getLsbD 25 = true) ∧
        (((if f = e.primary then e.alternate else some e.primary).all fun g => s.dev.pins.feederStop.getLsbD g) = true →
          t.dev.weft = { s.dev.weft with choice := .chosen none, output := none, arrival := .skipped, stopMark := false } ∧
          t.dev.control.flags.getLsbD 26 = true ∧ t.dev.seq.void = true)) ∧
      ((∀ f, s.dev.weft.choice = .chosen (some f) → s.dev.pins.feederStop.getLsbD f = false) →
        t.dev.weft = { s.dev.weft with
          output := chosenFinger s.dev.weft.choice, stopMark := false
          arrival := if s.dev.weft.choice = .none ∨ s.dev.weft.choice = .chosen none then .skipped else .waiting })) ∧
  (∀ (a b : Bool) (dt : Lapse) (sense : List StringBits) (s : State) (c : Configuration),
      referencedBy c s.dev = true →
      s.dev.control.state = .weave →
      s.dev.control.role = .weftRole →
      stepsOnto .reverse a b c.fa s.dev = true →
      ∃ t, exec (.countingStep a b false dt sense) s = .next t ∧ t.pending = s.pending ∧
      t.dev.weft = { s.dev.weft with output := chosenFinger s.dev.weft.choice } ∧ t.dev.seq = s.dev.seq ∧ t.dev.roster = s.dev.roster) ∧
  (∀ (a b : Bool) (dt : Lapse) (sense : List StringBits) (s : State) (c : Configuration),
      referencedBy c s.dev = true →
      s.dev.control.state = .weave →
      s.dev.control.role = .weftRole →
      stepsOnto .forward a b c.ao s.dev = true →
      ∃ t, exec (.countingStep a b false dt sense) s = .next t ∧ t.pending = s.pending ∧
      t.dev.weft = { s.dev.weft with
        arrival := if s.dev.weft.arrival = .waiting then .openWindow else s.dev.weft.arrival } ∧ t.dev.seq = s.dev.seq) ∧
  (∀ (a b : Bool) (dt : Lapse) (sense : List StringBits) (s : State) (c : Configuration),
      referencedBy c s.dev = true →
      s.dev.control.state = .weave →
      s.dev.control.role = .weftRole →
      stepsOnto .forward a b c.ac s.dev = true →
      ∃ t, exec (.countingStep a b false dt sense) s = .next t ∧ t.pending = s.pending ∧
      (s.dev.weft.arrival = .waiting ∨ s.dev.weft.arrival = .openWindow →
        t.dev.weft = { s.dev.weft with arrival := .ended } ∧ t.dev.control.flags.getLsbD 27 = true ∧ t.dev.seq.void = true) ∧
      (s.dev.weft.arrival = .arrived → t.dev.weft = { s.dev.weft with arrival := .ended } ∧ t.dev.seq = s.dev.seq) ∧
      (s.dev.weft.arrival = .idle ∨ s.dev.weft.arrival = .ended ∨ s.dev.weft.arrival = .skipped → t.dev.weft = s.dev.weft ∧ t.dev.seq = s.dev.seq))

/-- Every step keeps the pattern memory in its canonical form. (R57, R61, R66) -/
def Obligations.MemoryStaysCanonical : Prop :=
  ∀ s t : State, memoryCanonical s.dev = true → step s = .next t → memoryCanonical t.dev = true

/-- No step leaves a selector output energised with power not ON, or outside WEAVE, TEST and TRAIN, or the pick mode
TEST outside TEST. (R126, R128, R148, R127, R139, R140, R141) -/
def Obligations.OutputsStaySafe : Prop :=
  (∀ s t : State, outputsSafe s.dev = true → step s = .next t → outputsSafe t.dev = true) ∧
  (∀ s t : State, trainingSound s.dev = true → testPickSound s.dev = true → step s = .next t →
    testPickSound t.dev = true)

/-- In READY, WEAVE, TEST and TRAIN the position and the whole history stay valid for the programme held. (R20, R21,
R24, R52, R54, R173) -/
def Obligations.PositionStaysValid : Prop :=
  ∀ s t : State, trainingSound s.dev = true → positionSound s.dev = true → step s = .next t →
    trainingSound t.dev = true ∧ positionSound t.dev = true

/-- No step brings a store, a table or a count outside its bounds, or the roster and the written rows out of order.
(R38, R79, R137, R60, R99, R11, R16, R74, R125, R126, R151, R163) -/
def Obligations.WithinBoundsStays : Prop :=
  ∀ s t : State, withinBounds s.dev = true → step s = .next t → withinBounds t.dev = true

/-- The state after reset meets every invariant, in DORMANT with nothing waiting. (R180, R15, R37, R93) The strap
values, encoder phase and retained record of this state are the model's (logs 11, 12); the chain registers log 29,
the test row log 42. -/
def Obligations.ResetStateIsSound : Prop :=
  memoryCanonical State.reset.dev = true ∧ outputsSafe State.reset.dev = true ∧
    testPickSound State.reset.dev = true ∧
    positionSound State.reset.dev = true ∧ withinBounds State.reset.dev = true ∧
    State.reset.dev.control.state = .dormant ∧ State.reset.dev.control.config = none ∧
    State.reset.dev.tracker.angle = 0 ∧ State.reset.dev.tracker.referenced = false ∧
    State.reset.dev.tracker.speed = .stalled ∧ State.reset.dev.tracker.dir = .forward ∧
    State.reset.dev.seq.pos = ⟨0, 1, 0, 0⟩ ∧ State.reset.dev.seq.void = false ∧
    State.reset.dev.line.accessWait = 12 ∧ State.reset.pending = []

/-- The station state changes only along the table of R169, and the configuration only at CONFIGURE and a reset. (R169,
R172, R180) -/
def Obligations.StationStateFollowsItsTable : Prop :=
  ∀ (i : Instr) (s t : State), trainingSound s.dev = true → exec i s = .next t →
    (t.dev.control.state = s.dev.control.state ∨ t.dev.control.state = .dormant ∨
      stateEdge s.dev.control.state t.dev.control.state = true) ∧
    ((t.dev.control.number = s.dev.control.number ∧ t.dev.control.role = s.dev.control.role) ∨
      t.dev.control.state = .dormant) ∧
    (t.dev.control.config = s.dev.control.config ∨
      (t.dev.control.config = none ∧ t.dev.control.state = .dormant) ∨ i = .configure)
end

