-- ==== Sys2Proof/Laws/State.lean ====
section
/-! SUPPORT. One lemma for each block and each block writer, true by rfl: a writer changes its own block as told and leaves every
other block as it is. -/

namespace Sys2Proof.Machine

@[simp] theorem onTracker_tracker (f : Tracker → Tracker) (d : Device) : (onTracker f d).tracker = f d.tracker := rfl
@[simp] theorem onTracker_frame (f : Tracker → Tracker) (d : Device) :
    (onTracker f d).seq = d.seq ∧ (onTracker f d).store = d.store ∧ (onTracker f d).line = d.line ∧
    (onTracker f d).roster = d.roster ∧ (onTracker f d).fire = d.fire ∧ (onTracker f d).strings = d.strings ∧
    (onTracker f d).trainer = d.trainer ∧ (onTracker f d).weft = d.weft ∧ (onTracker f d).control = d.control ∧
    (onTracker f d).pins = d.pins :=
  ⟨rfl, rfl, rfl, rfl, rfl, rfl, rfl, rfl, rfl, rfl⟩

@[simp] theorem onSeq_seq (f : Sequencer → Sequencer) (d : Device) : (onSeq f d).seq = f d.seq := rfl
@[simp] theorem onSeq_frame (f : Sequencer → Sequencer) (d : Device) :
    (onSeq f d).tracker = d.tracker ∧ (onSeq f d).store = d.store ∧ (onSeq f d).line = d.line ∧
    (onSeq f d).roster = d.roster ∧ (onSeq f d).fire = d.fire ∧ (onSeq f d).strings = d.strings ∧
    (onSeq f d).trainer = d.trainer ∧ (onSeq f d).weft = d.weft ∧ (onSeq f d).control = d.control ∧
    (onSeq f d).pins = d.pins :=
  ⟨rfl, rfl, rfl, rfl, rfl, rfl, rfl, rfl, rfl, rfl⟩

@[simp] theorem onStore_store (f : Store → Store) (d : Device) : (onStore f d).store = f d.store := rfl
@[simp] theorem onStore_frame (f : Store → Store) (d : Device) :
    (onStore f d).tracker = d.tracker ∧ (onStore f d).seq = d.seq ∧ (onStore f d).line = d.line ∧
    (onStore f d).roster = d.roster ∧ (onStore f d).fire = d.fire ∧ (onStore f d).strings = d.strings ∧
    (onStore f d).trainer = d.trainer ∧ (onStore f d).weft = d.weft ∧ (onStore f d).control = d.control ∧
    (onStore f d).pins = d.pins :=
  ⟨rfl, rfl, rfl, rfl, rfl, rfl, rfl, rfl, rfl, rfl⟩

@[simp] theorem onLine_line (f : Line → Line) (d : Device) : (onLine f d).line = f d.line := rfl
@[simp] theorem onLine_frame (f : Line → Line) (d : Device) :
    (onLine f d).tracker = d.tracker ∧ (onLine f d).seq = d.seq ∧ (onLine f d).store = d.store ∧
    (onLine f d).roster = d.roster ∧ (onLine f d).fire = d.fire ∧ (onLine f d).strings = d.strings ∧
    (onLine f d).trainer = d.trainer ∧ (onLine f d).weft = d.weft ∧ (onLine f d).control = d.control ∧
    (onLine f d).pins = d.pins :=
  ⟨rfl, rfl, rfl, rfl, rfl, rfl, rfl, rfl, rfl, rfl⟩

@[simp] theorem onRoster_roster (f : Roster → Roster) (d : Device) : (onRoster f d).roster = f d.roster := rfl
@[simp] theorem onRoster_frame (f : Roster → Roster) (d : Device) :
    (onRoster f d).tracker = d.tracker ∧ (onRoster f d).seq = d.seq ∧ (onRoster f d).store = d.store ∧
    (onRoster f d).line = d.line ∧ (onRoster f d).fire = d.fire ∧ (onRoster f d).strings = d.strings ∧
    (onRoster f d).trainer = d.trainer ∧ (onRoster f d).weft = d.weft ∧ (onRoster f d).control = d.control ∧
    (onRoster f d).pins = d.pins :=
  ⟨rfl, rfl, rfl, rfl, rfl, rfl, rfl, rfl, rfl, rfl⟩

@[simp] theorem onFire_fire (f : FireTimer → FireTimer) (d : Device) : (onFire f d).fire = f d.fire := rfl
@[simp] theorem onFire_frame (f : FireTimer → FireTimer) (d : Device) :
    (onFire f d).tracker = d.tracker ∧ (onFire f d).seq = d.seq ∧ (onFire f d).store = d.store ∧
    (onFire f d).line = d.line ∧ (onFire f d).roster = d.roster ∧ (onFire f d).strings = d.strings ∧
    (onFire f d).trainer = d.trainer ∧ (onFire f d).weft = d.weft ∧ (onFire f d).control = d.control ∧
    (onFire f d).pins = d.pins :=
  ⟨rfl, rfl, rfl, rfl, rfl, rfl, rfl, rfl, rfl, rfl⟩

@[simp] theorem onStrings_strings (f : StringDriver → StringDriver) (d : Device) : (onStrings f d).strings = f d.strings := rfl
@[simp] theorem onStrings_frame (f : StringDriver → StringDriver) (d : Device) :
    (onStrings f d).tracker = d.tracker ∧ (onStrings f d).seq = d.seq ∧ (onStrings f d).store = d.store ∧
    (onStrings f d).line = d.line ∧ (onStrings f d).roster = d.roster ∧ (onStrings f d).fire = d.fire ∧
    (onStrings f d).trainer = d.trainer ∧ (onStrings f d).weft = d.weft ∧ (onStrings f d).control = d.control ∧
    (onStrings f d).pins = d.pins :=
  ⟨rfl, rfl, rfl, rfl, rfl, rfl, rfl, rfl, rfl, rfl⟩

@[simp] theorem onTrainer_trainer (f : Trainer → Trainer) (d : Device) : (onTrainer f d).trainer = f d.trainer := rfl
@[simp] theorem onTrainer_frame (f : Trainer → Trainer) (d : Device) :
    (onTrainer f d).tracker = d.tracker ∧ (onTrainer f d).seq = d.seq ∧ (onTrainer f d).store = d.store ∧
    (onTrainer f d).line = d.line ∧ (onTrainer f d).roster = d.roster ∧ (onTrainer f d).fire = d.fire ∧
    (onTrainer f d).strings = d.strings ∧ (onTrainer f d).weft = d.weft ∧ (onTrainer f d).control = d.control ∧
    (onTrainer f d).pins = d.pins :=
  ⟨rfl, rfl, rfl, rfl, rfl, rfl, rfl, rfl, rfl, rfl⟩

@[simp] theorem onWeft_weft (f : WeftSel → WeftSel) (d : Device) : (onWeft f d).weft = f d.weft := rfl
@[simp] theorem onWeft_frame (f : WeftSel → WeftSel) (d : Device) :
    (onWeft f d).tracker = d.tracker ∧ (onWeft f d).seq = d.seq ∧ (onWeft f d).store = d.store ∧
    (onWeft f d).line = d.line ∧ (onWeft f d).roster = d.roster ∧ (onWeft f d).fire = d.fire ∧
    (onWeft f d).strings = d.strings ∧ (onWeft f d).trainer = d.trainer ∧ (onWeft f d).control = d.control ∧
    (onWeft f d).pins = d.pins :=
  ⟨rfl, rfl, rfl, rfl, rfl, rfl, rfl, rfl, rfl, rfl⟩

@[simp] theorem onControl_control (f : Control → Control) (d : Device) : (onControl f d).control = f d.control := rfl
@[simp] theorem onControl_frame (f : Control → Control) (d : Device) :
    (onControl f d).tracker = d.tracker ∧ (onControl f d).seq = d.seq ∧ (onControl f d).store = d.store ∧
    (onControl f d).line = d.line ∧ (onControl f d).roster = d.roster ∧ (onControl f d).fire = d.fire ∧
    (onControl f d).strings = d.strings ∧ (onControl f d).trainer = d.trainer ∧ (onControl f d).weft = d.weft ∧
    (onControl f d).pins = d.pins :=
  ⟨rfl, rfl, rfl, rfl, rfl, rfl, rfl, rfl, rfl, rfl⟩

@[simp] theorem onPins_pins (f : Pins → Pins) (d : Device) : (onPins f d).pins = f d.pins := rfl
@[simp] theorem onPins_frame (f : Pins → Pins) (d : Device) :
    (onPins f d).tracker = d.tracker ∧ (onPins f d).seq = d.seq ∧ (onPins f d).store = d.store ∧
    (onPins f d).line = d.line ∧ (onPins f d).roster = d.roster ∧ (onPins f d).fire = d.fire ∧
    (onPins f d).strings = d.strings ∧ (onPins f d).trainer = d.trainer ∧ (onPins f d).weft = d.weft ∧
    (onPins f d).control = d.control :=
  ⟨rfl, rfl, rfl, rfl, rfl, rfl, rfl, rfl, rfl, rfl⟩

/-! ## Conditional operations -/

theorem doIf_true (f : Device → Device) (d : Device) : doIf true f d = f d := rfl
theorem doIf_false (f : Device → Device) (d : Device) : doIf false f d = d := rfl

/-- What an operation keeps, it keeps under a condition. -/
theorem doIf_keeps {β : Type} (p : Device → β) (c : Bool) (f : Device → Device) (d : Device) (h : p (f d) = p d) :
    p (doIf c f d) = p d := by
  cases c
  · rfl
  · exact h

/-- What every step of a fold keeps, the fold keeps. -/
theorem foldl_keeps {α β : Type} (p : Device → β) (g : Device → α → Device) (h : ∀ d a, p (g d a) = p d) (l : List α)
    (d : Device) : p (l.foldl g d) = p d := by
  induction l generalizing d with
  | nil => rfl
  | cons a l ih => rw [List.foldl_cons, ih, h]

@[simp] theorem doIf_tracker (c : Bool) (f : Device → Device) (d : Device) (h : (f d).tracker = d.tracker) :
    (doIf c f d).tracker = d.tracker := doIf_keeps (·.tracker) c f d h
@[simp] theorem doIf_seq (c : Bool) (f : Device → Device) (d : Device) (h : (f d).seq = d.seq) :
    (doIf c f d).seq = d.seq := doIf_keeps (·.seq) c f d h
@[simp] theorem doIf_store (c : Bool) (f : Device → Device) (d : Device) (h : (f d).store = d.store) :
    (doIf c f d).store = d.store := doIf_keeps (·.store) c f d h
@[simp] theorem doIf_line (c : Bool) (f : Device → Device) (d : Device) (h : (f d).line = d.line) :
    (doIf c f d).line = d.line := doIf_keeps (·.line) c f d h
@[simp] theorem doIf_roster (c : Bool) (f : Device → Device) (d : Device) (h : (f d).roster = d.roster) :
    (doIf c f d).roster = d.roster := doIf_keeps (·.roster) c f d h
@[simp] theorem doIf_fire (c : Bool) (f : Device → Device) (d : Device) (h : (f d).fire = d.fire) :
    (doIf c f d).fire = d.fire := doIf_keeps (·.fire) c f d h
@[simp] theorem doIf_strings (c : Bool) (f : Device → Device) (d : Device) (h : (f d).strings = d.strings) :
    (doIf c f d).strings = d.strings := doIf_keeps (·.strings) c f d h
@[simp] theorem doIf_trainer (c : Bool) (f : Device → Device) (d : Device) (h : (f d).trainer = d.trainer) :
    (doIf c f d).trainer = d.trainer := doIf_keeps (·.trainer) c f d h
@[simp] theorem doIf_weft (c : Bool) (f : Device → Device) (d : Device) (h : (f d).weft = d.weft) :
    (doIf c f d).weft = d.weft := doIf_keeps (·.weft) c f d h
@[simp] theorem doIf_control (c : Bool) (f : Device → Device) (d : Device) (h : (f d).control = d.control) :
    (doIf c f d).control = d.control := doIf_keeps (·.control) c f d h
@[simp] theorem doIf_pins (c : Bool) (f : Device → Device) (d : Device) (h : (f d).pins = d.pins) :
    (doIf c f d).pins = d.pins := doIf_keeps (·.pins) c f d h
@[simp] theorem doIf_control_state (c : Bool) (f : Device → Device) (d : Device) :
    (doIf c f d).control.state = if c then (f d).control.state else d.control.state := by cases c <;> rfl
@[simp] theorem doIf_control_number (c : Bool) (f : Device → Device) (d : Device) :
    (doIf c f d).control.number = if c then (f d).control.number else d.control.number := by cases c <;> rfl
@[simp] theorem doIf_control_role (c : Bool) (f : Device → Device) (d : Device) :
    (doIf c f d).control.role = if c then (f d).control.role else d.control.role := by cases c <;> rfl
@[simp] theorem doIf_control_config (c : Bool) (f : Device → Device) (d : Device) :
    (doIf c f d).control.config = if c then (f d).control.config else d.control.config := by cases c <;> rfl
@[simp] theorem doIf_control_mask (c : Bool) (f : Device → Device) (d : Device) :
    (doIf c f d).control.mask = if c then (f d).control.mask else d.control.mask := by cases c <;> rfl
@[simp] theorem doIf_control_retained (c : Bool) (f : Device → Device) (d : Device) :
    (doIf c f d).control.retained = if c then (f d).control.retained else d.control.retained := by cases c <;> rfl
@[simp] theorem doIf_control_retention (c : Bool) (f : Device → Device) (d : Device) :
    (doIf c f d).control.retention = if c then (f d).control.retention else d.control.retention := by cases c <;> rfl
@[simp] theorem doIf_control_resetPending (c : Bool) (f : Device → Device) (d : Device) :
    (doIf c f d).control.resetPending = if c then (f d).control.resetPending else d.control.resetPending := by cases c <;> rfl
@[simp] theorem doIf_control_powered (c : Bool) (f : Device → Device) (d : Device) :
    (doIf c f d).control.powered = if c then (f d).control.powered else d.control.powered := by cases c <;> rfl
@[simp] theorem doIf_control_writes (c : Bool) (f : Device → Device) (d : Device) :
    (doIf c f d).control.writes = if c then (f d).control.writes else d.control.writes := by cases c <;> rfl
@[simp] theorem doIf_control_flags (c : Bool) (f : Device → Device) (d : Device) :
    (doIf c f d).control.flags = if c then (f d).control.flags else d.control.flags := by cases c <;> rfl
@[simp] theorem doIf_store_mem (c : Bool) (f : Device → Device) (d : Device) :
    (doIf c f d).store.mem = if c then (f d).store.mem else d.store.mem := by cases c <;> rfl
@[simp] theorem doIf_store_written (c : Bool) (f : Device → Device) (d : Device) :
    (doIf c f d).store.written = if c then (f d).store.written else d.store.written := by cases c <;> rfl
@[simp] theorem doIf_store_lastDamaged (c : Bool) (f : Device → Device) (d : Device) :
    (doIf c f d).store.lastDamaged = if c then (f d).store.lastDamaged else d.store.lastDamaged := by cases c <;> rfl
@[simp] theorem doIf_seq_runs (c : Bool) (f : Device → Device) (d : Device) :
    (doIf c f d).seq.runs = if c then (f d).seq.runs else d.seq.runs := by cases c <;> rfl
@[simp] theorem doIf_seq_table (c : Bool) (f : Device → Device) (d : Device) :
    (doIf c f d).seq.table = if c then (f d).seq.table else d.seq.table := by cases c <;> rfl
@[simp] theorem doIf_seq_startRun (c : Bool) (f : Device → Device) (d : Device) :
    (doIf c f d).seq.startRun = if c then (f d).seq.startRun else d.seq.startRun := by cases c <;> rfl
@[simp] theorem doIf_seq_pos (c : Bool) (f : Device → Device) (d : Device) :
    (doIf c f d).seq.pos = if c then (f d).seq.pos else d.seq.pos := by cases c <;> rfl
@[simp] theorem doIf_seq_history (c : Bool) (f : Device → Device) (d : Device) :
    (doIf c f d).seq.history = if c then (f d).seq.history else d.seq.history := by cases c <;> rfl
@[simp] theorem doIf_weft_map (c : Bool) (f : Device → Device) (d : Device) :
    (doIf c f d).weft.map = if c then (f d).weft.map else d.weft.map := by cases c <;> rfl
@[simp] theorem doIf_strings_power (c : Bool) (f : Device → Device) (d : Device) :
    (doIf c f d).strings.power = if c then (f d).strings.power else d.strings.power := by cases c <;> rfl
@[simp] theorem doIf_strings_test (c : Bool) (f : Device → Device) (d : Device) :
    (doIf c f d).strings.test = if c then (f d).strings.test else d.strings.test := by cases c <;> rfl
@[simp] theorem doIf_strings_strings (c : Bool) (f : Device → Device) (d : Device) :
    (doIf c f d).strings.strings = if c then (f d).strings.strings else d.strings.strings := by cases c <;> rfl
@[simp] theorem doIf_strings_faults (c : Bool) (f : Device → Device) (d : Device) :
    (doIf c f d).strings.faults = if c then (f d).strings.faults else d.strings.faults := by cases c <;> rfl
@[simp] theorem doIf_strings_mode (c : Bool) (f : Device → Device) (d : Device) :
    (doIf c f d).strings.mode = if c then (f d).strings.mode else d.strings.mode := by cases c <;> rfl
@[simp] theorem doIf_line_queue (c : Bool) (f : Device → Device) (d : Device) :
    (doIf c f d).line.queue = if c then (f d).line.queue else d.line.queue := by cases c <;> rfl
@[simp] theorem doIf_line_replySlot (c : Bool) (f : Device → Device) (d : Device) :
    (doIf c f d).line.replySlot = if c then (f d).line.replySlot else d.line.replySlot := by cases c <;> rfl
@[simp] theorem doIf_line_completion (c : Bool) (f : Device → Device) (d : Device) :
    (doIf c f d).line.completion = if c then (f d).line.completion else d.line.completion := by cases c <;> rfl
@[simp] theorem doIf_line_stuck (c : Bool) (f : Device → Device) (d : Device) :
    (doIf c f d).line.stuck = if c then (f d).line.stuck else d.line.stuck := by cases c <;> rfl
@[simp] theorem doIf_roster_entries (c : Bool) (f : Device → Device) (d : Device) :
    (doIf c f d).roster.entries = if c then (f d).roster.entries else d.roster.entries := by cases c <;> rfl
@[simp] theorem doIf_pins_strapNumber (c : Bool) (f : Device → Device) (d : Device) :
    (doIf c f d).pins.strapNumber = if c then (f d).pins.strapNumber else d.pins.strapNumber := by cases c <;> rfl
@[simp] theorem doIf_pins_strapRole (c : Bool) (f : Device → Device) (d : Device) :
    (doIf c f d).pins.strapRole = if c then (f d).pins.strapRole else d.pins.strapRole := by cases c <;> rfl
@[simp] theorem doIf_tracker_angle (c : Bool) (f : Device → Device) (d : Device) :
    (doIf c f d).tracker.angle = if c then (f d).tracker.angle else d.tracker.angle := by cases c <;> rfl
@[simp] theorem doIf_tracker_referenced (c : Bool) (f : Device → Device) (d : Device) :
    (doIf c f d).tracker.referenced = if c then (f d).tracker.referenced else d.tracker.referenced := by cases c <;> rfl

end Sys2Proof.Machine
end

