-- ==== Sys2Proof/Laws/Frames.lean ====
section
/-! SUPPORT. What each shared operation leaves as it is: one lemma for each operation over the blocks of the device, and over
the parts of a block that matter most (station state, role, number, configuration, memory, programme, queues). -/

namespace Sys2Proof.Machine

@[simp] theorem setFlag_frame (f : Flag) (d : Device) :
    (setFlag f d).tracker = d.tracker ∧ (setFlag f d).seq = d.seq ∧ (setFlag f d).store = d.store ∧
    (setFlag f d).line = d.line ∧ (setFlag f d).roster = d.roster ∧ (setFlag f d).fire = d.fire ∧
    (setFlag f d).strings = d.strings ∧ (setFlag f d).trainer = d.trainer ∧ (setFlag f d).weft = d.weft ∧
    (setFlag f d).pins = d.pins ∧ (setFlag f d).control.state = d.control.state ∧
    (setFlag f d).control.role = d.control.role ∧ (setFlag f d).control.number = d.control.number ∧
    (setFlag f d).control.config = d.control.config ∧ (setFlag f d).control.powered = d.control.powered ∧
    (setFlag f d).control.resetPending = d.control.resetPending := by
  unfold setFlag
  simp

@[simp] theorem clearFlags_frame (d : Device) :
    (clearFlags d).tracker = d.tracker ∧ (clearFlags d).seq = d.seq ∧ (clearFlags d).store = d.store ∧
    (clearFlags d).line = d.line ∧ (clearFlags d).roster = d.roster ∧ (clearFlags d).fire = d.fire ∧
    (clearFlags d).strings = d.strings ∧ (clearFlags d).trainer = d.trainer ∧ (clearFlags d).weft = d.weft ∧
    (clearFlags d).pins = d.pins ∧ (clearFlags d).control.state = d.control.state ∧
    (clearFlags d).control.role = d.control.role ∧ (clearFlags d).control.number = d.control.number ∧
    (clearFlags d).control.config = d.control.config ∧ (clearFlags d).control.powered = d.control.powered ∧
    (clearFlags d).control.resetPending = d.control.resetPending := by
  unfold clearFlags
  simp

@[simp] theorem count_frame (f : Counters → Counters) (d : Device) :
    (count f d).tracker = d.tracker ∧ (count f d).seq = d.seq ∧ (count f d).store = d.store ∧
    (count f d).roster = d.roster ∧ (count f d).fire = d.fire ∧ (count f d).strings = d.strings ∧
    (count f d).trainer = d.trainer ∧ (count f d).weft = d.weft ∧ (count f d).control = d.control ∧
    (count f d).pins = d.pins ∧ (count f d).line.queue = d.line.queue ∧
    (count f d).line.replySlot = d.line.replySlot ∧ (count f d).line.stuck = d.line.stuck := by
  unfold count
  simp

@[simp] theorem stopSending_frame (d : Device) :
    (stopSending d).tracker = d.tracker ∧ (stopSending d).seq = d.seq ∧ (stopSending d).store = d.store ∧
    (stopSending d).roster = d.roster ∧ (stopSending d).fire = d.fire ∧ (stopSending d).strings = d.strings ∧
    (stopSending d).trainer = d.trainer ∧ (stopSending d).weft = d.weft ∧ (stopSending d).control = d.control ∧
    (stopSending d).pins = d.pins ∧ (stopSending d).line.queue = d.line.queue ∧
    (stopSending d).line.replySlot = d.line.replySlot ∧ (stopSending d).line.stuck = d.line.stuck := by
  unfold stopSending
  simp

@[simp] theorem discardBeacon_frame (late : Bool) (d : Device) :
    (discardBeacon late d).tracker = d.tracker ∧ (discardBeacon late d).seq = d.seq ∧
    (discardBeacon late d).store = d.store ∧ (discardBeacon late d).roster = d.roster ∧
    (discardBeacon late d).fire = d.fire ∧ (discardBeacon late d).strings = d.strings ∧
    (discardBeacon late d).trainer = d.trainer ∧ (discardBeacon late d).weft = d.weft ∧
    (discardBeacon late d).control = d.control ∧ (discardBeacon late d).pins = d.pins ∧
    (discardBeacon late d).line.queue = d.line.queue ∧ (discardBeacon late d).line.replySlot = d.line.replySlot ∧
    (discardBeacon late d).line.stuck = d.line.stuck := by
  unfold discardBeacon
  (repeat' split) <;> simp

@[simp] theorem requestPulse_frame (d : Device) :
    (requestPulse d).tracker = d.tracker ∧ (requestPulse d).seq = d.seq ∧ (requestPulse d).store = d.store ∧
    (requestPulse d).roster = d.roster ∧ (requestPulse d).fire = d.fire ∧ (requestPulse d).strings = d.strings ∧
    (requestPulse d).trainer = d.trainer ∧ (requestPulse d).weft = d.weft ∧ (requestPulse d).pins = d.pins ∧
    (requestPulse d).control.state = d.control.state ∧ (requestPulse d).control.role = d.control.role ∧
    (requestPulse d).control.number = d.control.number ∧ (requestPulse d).control.config = d.control.config ∧
    (requestPulse d).control.powered = d.control.powered ∧
    (requestPulse d).control.resetPending = d.control.resetPending ∧ (requestPulse d).line.queue = d.line.queue ∧
    (requestPulse d).line.replySlot = d.line.replySlot ∧ (requestPulse d).line.stuck = d.line.stuck := by
  unfold requestPulse
  (repeat' split) <;> simp

@[simp] theorem ownHold_frame (d : Device) :
    (ownHold d).tracker = d.tracker ∧ (ownHold d).store = d.store ∧ (ownHold d).roster = d.roster ∧
    (ownHold d).fire = d.fire ∧ (ownHold d).strings = d.strings ∧ (ownHold d).trainer = d.trainer ∧
    (ownHold d).weft = d.weft ∧ (ownHold d).pins = d.pins ∧ (ownHold d).control.state = d.control.state ∧
    (ownHold d).control.role = d.control.role ∧ (ownHold d).control.number = d.control.number ∧
    (ownHold d).control.config = d.control.config ∧ (ownHold d).control.powered = d.control.powered ∧
    (ownHold d).control.resetPending = d.control.resetPending ∧ (ownHold d).seq.runs = d.seq.runs ∧
    (ownHold d).seq.table = d.seq.table ∧ (ownHold d).seq.pos = d.seq.pos ∧ (ownHold d).seq.history = d.seq.history ∧
    (ownHold d).line.queue = d.line.queue ∧ (ownHold d).line.replySlot = d.line.replySlot ∧
    (ownHold d).line.stuck = d.line.stuck := by
  unfold ownHold
  (repeat' split) <;> simp

@[simp] theorem writeRetained_frame (d : Device) :
    (writeRetained d).tracker = d.tracker ∧ (writeRetained d).seq = d.seq ∧ (writeRetained d).store = d.store ∧
    (writeRetained d).line = d.line ∧ (writeRetained d).roster = d.roster ∧ (writeRetained d).fire = d.fire ∧
    (writeRetained d).strings = d.strings ∧ (writeRetained d).trainer = d.trainer ∧ (writeRetained d).weft = d.weft ∧
    (writeRetained d).pins = d.pins ∧ (writeRetained d).control.state = d.control.state ∧
    (writeRetained d).control.role = d.control.role ∧ (writeRetained d).control.number = d.control.number ∧
    (writeRetained d).control.config = d.control.config ∧ (writeRetained d).control.powered = d.control.powered ∧
    (writeRetained d).control.resetPending = d.control.resetPending := by
  unfold writeRetained
  simp

@[simp] theorem placeReply_frame (f : Frame) (d : Device) :
    (placeReply f d).tracker = d.tracker ∧ (placeReply f d).seq = d.seq ∧ (placeReply f d).store = d.store ∧
    (placeReply f d).roster = d.roster ∧ (placeReply f d).fire = d.fire ∧ (placeReply f d).strings = d.strings ∧
    (placeReply f d).trainer = d.trainer ∧ (placeReply f d).weft = d.weft ∧ (placeReply f d).control = d.control ∧
    (placeReply f d).pins = d.pins ∧ (placeReply f d).line.queue = d.line.queue ∧
    (placeReply f d).line.stuck = d.line.stuck := by
  unfold placeReply
  simp

@[simp] theorem answer_frame (r : Request) (res : Result) (d : Device) :
    (answer r res d).tracker = d.tracker ∧ (answer r res d).seq = d.seq ∧ (answer r res d).store = d.store ∧
    (answer r res d).roster = d.roster ∧ (answer r res d).fire = d.fire ∧ (answer r res d).strings = d.strings ∧
    (answer r res d).trainer = d.trainer ∧ (answer r res d).weft = d.weft ∧ (answer r res d).control = d.control ∧
    (answer r res d).pins = d.pins ∧ (answer r res d).line.queue = d.line.queue ∧
    (answer r res d).line.stuck = d.line.stuck := by
  unfold answer
  simp

@[simp] theorem answerData_frame (r : Request) (res : Result) (data : List Byte) (d : Device) :
    (answerData r res data d).tracker = d.tracker ∧ (answerData r res data d).seq = d.seq ∧
    (answerData r res data d).store = d.store ∧ (answerData r res data d).roster = d.roster ∧
    (answerData r res data d).fire = d.fire ∧ (answerData r res data d).strings = d.strings ∧
    (answerData r res data d).trainer = d.trainer ∧ (answerData r res data d).weft = d.weft ∧
    (answerData r res data d).control = d.control ∧ (answerData r res data d).pins = d.pins ∧
    (answerData r res data d).line.queue = d.line.queue ∧ (answerData r res data d).line.stuck = d.line.stuck := by
  unfold answerData
  simp

@[simp] theorem answerInvalid_frame (r : Request) (t : Detail) (d : Device) :
    (answerInvalid r t d).tracker = d.tracker ∧ (answerInvalid r t d).seq = d.seq ∧
    (answerInvalid r t d).store = d.store ∧ (answerInvalid r t d).roster = d.roster ∧
    (answerInvalid r t d).fire = d.fire ∧ (answerInvalid r t d).strings = d.strings ∧
    (answerInvalid r t d).trainer = d.trainer ∧ (answerInvalid r t d).weft = d.weft ∧
    (answerInvalid r t d).control = d.control ∧ (answerInvalid r t d).pins = d.pins ∧
    (answerInvalid r t d).line.queue = d.line.queue ∧ (answerInvalid r t d).line.stuck = d.line.stuck := by
  unfold answerInvalid
  simp

@[simp] theorem startPickFetch_frame (reverse : Bool) (d : Device) :
    (startPickFetch reverse d).tracker = d.tracker ∧ (startPickFetch reverse d).line = d.line ∧
    (startPickFetch reverse d).roster = d.roster ∧ (startPickFetch reverse d).fire = d.fire ∧
    (startPickFetch reverse d).strings = d.strings ∧ (startPickFetch reverse d).trainer = d.trainer ∧
    (startPickFetch reverse d).weft = d.weft ∧ (startPickFetch reverse d).control = d.control ∧
    (startPickFetch reverse d).pins = d.pins ∧ (startPickFetch reverse d).store.mem = d.store.mem ∧
    (startPickFetch reverse d).store.written = d.store.written ∧ (startPickFetch reverse d).seq.runs = d.seq.runs ∧
    (startPickFetch reverse d).seq.table = d.seq.table ∧ (startPickFetch reverse d).seq.pos = d.seq.pos ∧
    (startPickFetch reverse d).seq.history = d.seq.history := by
  unfold startPickFetch
  simp

@[simp] theorem bringBackWeft_frame (e : HistoryEntry) (d : Device) :
    (bringBackWeft e d).tracker = d.tracker ∧ (bringBackWeft e d).store = d.store ∧
    (bringBackWeft e d).line = d.line ∧ (bringBackWeft e d).roster = d.roster ∧ (bringBackWeft e d).fire = d.fire ∧
    (bringBackWeft e d).strings = d.strings ∧ (bringBackWeft e d).trainer = d.trainer ∧
    (bringBackWeft e d).weft = d.weft ∧ (bringBackWeft e d).control = d.control ∧ (bringBackWeft e d).pins = d.pins ∧
    (bringBackWeft e d).seq.runs = d.seq.runs ∧ (bringBackWeft e d).seq.table = d.seq.table ∧
    (bringBackWeft e d).seq.pos = d.seq.pos ∧ (bringBackWeft e d).seq.history = d.seq.history := by
  unfold bringBackWeft
  simp

@[simp] theorem startTestFetch_frame (row : Nat) (d : Device) :
    (startTestFetch row d).tracker = d.tracker ∧ (startTestFetch row d).line = d.line ∧
    (startTestFetch row d).roster = d.roster ∧ (startTestFetch row d).fire = d.fire ∧
    (startTestFetch row d).strings = d.strings ∧ (startTestFetch row d).trainer = d.trainer ∧
    (startTestFetch row d).weft = d.weft ∧ (startTestFetch row d).control = d.control ∧
    (startTestFetch row d).pins = d.pins ∧ (startTestFetch row d).store.mem = d.store.mem ∧
    (startTestFetch row d).store.written = d.store.written ∧ (startTestFetch row d).seq.runs = d.seq.runs ∧
    (startTestFetch row d).seq.table = d.seq.table ∧ (startTestFetch row d).seq.pos = d.seq.pos ∧
    (startTestFetch row d).seq.history = d.seq.history := by
  unfold startTestFetch
  simp

@[simp] theorem endPickFetch_frame (d : Device) :
    (endPickFetch d).tracker = d.tracker ∧ (endPickFetch d).seq = d.seq ∧ (endPickFetch d).line = d.line ∧
    (endPickFetch d).roster = d.roster ∧ (endPickFetch d).fire = d.fire ∧ (endPickFetch d).strings = d.strings ∧
    (endPickFetch d).trainer = d.trainer ∧ (endPickFetch d).weft = d.weft ∧ (endPickFetch d).control = d.control ∧
    (endPickFetch d).pins = d.pins ∧ (endPickFetch d).store.mem = d.store.mem ∧
    (endPickFetch d).store.written = d.store.written := by
  unfold endPickFetch
  (repeat' split) <;> simp

@[simp] theorem endTestFetch_frame (d : Device) :
    (endTestFetch d).tracker = d.tracker ∧ (endTestFetch d).seq = d.seq ∧ (endTestFetch d).line = d.line ∧
    (endTestFetch d).roster = d.roster ∧ (endTestFetch d).fire = d.fire ∧ (endTestFetch d).strings = d.strings ∧
    (endTestFetch d).trainer = d.trainer ∧ (endTestFetch d).weft = d.weft ∧ (endTestFetch d).control = d.control ∧
    (endTestFetch d).pins = d.pins ∧ (endTestFetch d).store.mem = d.store.mem ∧
    (endTestFetch d).store.written = d.store.written := by
  unfold endTestFetch
  (repeat' split) <;> simp

@[simp] theorem restartPiece_frame (d : Device) :
    (restartPiece d).tracker = d.tracker ∧ (restartPiece d).store = d.store ∧ (restartPiece d).line = d.line ∧
    (restartPiece d).roster = d.roster ∧ (restartPiece d).fire = d.fire ∧ (restartPiece d).strings = d.strings ∧
    (restartPiece d).trainer = d.trainer ∧ (restartPiece d).weft = d.weft ∧ (restartPiece d).pins = d.pins ∧
    (restartPiece d).control.state = d.control.state ∧ (restartPiece d).control.role = d.control.role ∧
    (restartPiece d).control.number = d.control.number ∧ (restartPiece d).control.config = d.control.config ∧
    (restartPiece d).control.powered = d.control.powered ∧
    (restartPiece d).control.resetPending = d.control.resetPending ∧ (restartPiece d).seq.runs = d.seq.runs ∧
    (restartPiece d).seq.table = d.seq.table ∧ (restartPiece d).seq.history = d.seq.history := by
  unfold restartPiece
  simp

@[simp] theorem evaluateMatches_frame (d : Device) :
    (evaluateMatches d).tracker = d.tracker ∧ (evaluateMatches d).store = d.store ∧
    (evaluateMatches d).roster = d.roster ∧ (evaluateMatches d).fire = d.fire ∧
    (evaluateMatches d).strings = d.strings ∧ (evaluateMatches d).trainer = d.trainer ∧
    (evaluateMatches d).weft = d.weft ∧ (evaluateMatches d).pins = d.pins ∧
    (evaluateMatches d).control.state = d.control.state ∧ (evaluateMatches d).control.role = d.control.role ∧
    (evaluateMatches d).control.number = d.control.number ∧ (evaluateMatches d).control.config = d.control.config ∧
    (evaluateMatches d).control.powered = d.control.powered ∧
    (evaluateMatches d).control.resetPending = d.control.resetPending ∧ (evaluateMatches d).seq.runs = d.seq.runs ∧
    (evaluateMatches d).seq.table = d.seq.table ∧ (evaluateMatches d).seq.history = d.seq.history ∧
    (evaluateMatches d).line.queue = d.line.queue ∧ (evaluateMatches d).line.replySlot = d.line.replySlot ∧
    (evaluateMatches d).line.stuck = d.line.stuck := by
  unfold evaluateMatches
  simp

@[simp] theorem putToggle_frame (k : Nat) (v : Bool) (d : Device) :
    (putToggle k v d).tracker = d.tracker ∧ (putToggle k v d).seq = d.seq ∧ (putToggle k v d).store = d.store ∧
    (putToggle k v d).line = d.line ∧ (putToggle k v d).roster = d.roster ∧ (putToggle k v d).fire = d.fire ∧
    (putToggle k v d).strings = d.strings ∧ (putToggle k v d).trainer = d.trainer ∧
    (putToggle k v d).control = d.control ∧ (putToggle k v d).pins = d.pins ∧ (putToggle k v d).weft.map = d.weft.map := by
  unfold putToggle
  (repeat' split) <;> simp

@[simp] theorem flipToggle_frame (k : Nat) (d : Device) :
    (flipToggle k d).tracker = d.tracker ∧ (flipToggle k d).seq = d.seq ∧ (flipToggle k d).store = d.store ∧
    (flipToggle k d).line = d.line ∧ (flipToggle k d).roster = d.roster ∧ (flipToggle k d).fire = d.fire ∧
    (flipToggle k d).strings = d.strings ∧ (flipToggle k d).trainer = d.trainer ∧
    (flipToggle k d).control = d.control ∧ (flipToggle k d).pins = d.pins ∧ (flipToggle k d).weft.map = d.weft.map := by
  unfold flipToggle
  (repeat' split) <;> simp

@[simp] theorem setChoice_frame (c : Choice) (d : Device) :
    (setChoice c d).tracker = d.tracker ∧ (setChoice c d).seq = d.seq ∧ (setChoice c d).store = d.store ∧
    (setChoice c d).line = d.line ∧ (setChoice c d).roster = d.roster ∧ (setChoice c d).fire = d.fire ∧
    (setChoice c d).strings = d.strings ∧ (setChoice c d).trainer = d.trainer ∧ (setChoice c d).control = d.control ∧
    (setChoice c d).pins = d.pins ∧ (setChoice c d).weft.map = d.weft.map := by
  unfold setChoice
  simp

@[simp] theorem noFinger_frame (d : Device) :
    (noFinger d).tracker = d.tracker ∧ (noFinger d).store = d.store ∧ (noFinger d).roster = d.roster ∧
    (noFinger d).fire = d.fire ∧ (noFinger d).strings = d.strings ∧ (noFinger d).trainer = d.trainer ∧
    (noFinger d).pins = d.pins ∧ (noFinger d).control.state = d.control.state ∧
    (noFinger d).control.role = d.control.role ∧ (noFinger d).control.number = d.control.number ∧
    (noFinger d).control.config = d.control.config ∧ (noFinger d).control.powered = d.control.powered ∧
    (noFinger d).control.resetPending = d.control.resetPending ∧ (noFinger d).seq.runs = d.seq.runs ∧
    (noFinger d).seq.table = d.seq.table ∧ (noFinger d).seq.pos = d.seq.pos ∧
    (noFinger d).seq.history = d.seq.history ∧ (noFinger d).line.queue = d.line.queue ∧
    (noFinger d).line.replySlot = d.line.replySlot ∧ (noFinger d).line.stuck = d.line.stuck ∧
    (noFinger d).weft.map = d.weft.map := by
  unfold noFinger
  simp

@[simp] theorem substitute_frame (other : Option Nat) (d : Device) :
    (substitute other d).tracker = d.tracker ∧ (substitute other d).store = d.store ∧
    (substitute other d).roster = d.roster ∧ (substitute other d).fire = d.fire ∧
    (substitute other d).strings = d.strings ∧ (substitute other d).trainer = d.trainer ∧
    (substitute other d).pins = d.pins ∧ (substitute other d).control.state = d.control.state ∧
    (substitute other d).control.role = d.control.role ∧ (substitute other d).control.number = d.control.number ∧
    (substitute other d).control.config = d.control.config ∧
    (substitute other d).control.powered = d.control.powered ∧
    (substitute other d).control.resetPending = d.control.resetPending ∧ (substitute other d).seq.runs = d.seq.runs ∧
    (substitute other d).seq.table = d.seq.table ∧ (substitute other d).seq.pos = d.seq.pos ∧
    (substitute other d).seq.history = d.seq.history ∧ (substitute other d).line.queue = d.line.queue ∧
    (substitute other d).line.replySlot = d.line.replySlot ∧ (substitute other d).line.stuck = d.line.stuck ∧
    (substitute other d).weft.map = d.weft.map := by
  unfold substitute
  (repeat' split) <;> simp

@[simp] theorem chooseFinger_frame (k : Nat) (d : Device) :
    (chooseFinger k d).tracker = d.tracker ∧ (chooseFinger k d).store = d.store ∧
    (chooseFinger k d).roster = d.roster ∧ (chooseFinger k d).fire = d.fire ∧
    (chooseFinger k d).strings = d.strings ∧ (chooseFinger k d).trainer = d.trainer ∧
    (chooseFinger k d).pins = d.pins ∧ (chooseFinger k d).control.state = d.control.state ∧
    (chooseFinger k d).control.role = d.control.role ∧ (chooseFinger k d).control.number = d.control.number ∧
    (chooseFinger k d).control.config = d.control.config ∧ (chooseFinger k d).control.powered = d.control.powered ∧
    (chooseFinger k d).control.resetPending = d.control.resetPending ∧ (chooseFinger k d).seq.runs = d.seq.runs ∧
    (chooseFinger k d).seq.table = d.seq.table ∧ (chooseFinger k d).seq.pos = d.seq.pos ∧
    (chooseFinger k d).seq.history = d.seq.history ∧ (chooseFinger k d).line.queue = d.line.queue ∧
    (chooseFinger k d).line.replySlot = d.line.replySlot ∧ (chooseFinger k d).line.stuck = d.line.stuck ∧
    (chooseFinger k d).weft.map = d.weft.map := by
  unfold chooseFinger
  simp only []
  (repeat' split) <;> simp

@[simp] theorem startChoice_frame (d : Device) :
    (startChoice d).tracker = d.tracker ∧ (startChoice d).store = d.store ∧ (startChoice d).roster = d.roster ∧
    (startChoice d).fire = d.fire ∧ (startChoice d).strings = d.strings ∧ (startChoice d).trainer = d.trainer ∧
    (startChoice d).pins = d.pins ∧ (startChoice d).control.state = d.control.state ∧
    (startChoice d).control.role = d.control.role ∧ (startChoice d).control.number = d.control.number ∧
    (startChoice d).control.config = d.control.config ∧ (startChoice d).control.powered = d.control.powered ∧
    (startChoice d).control.resetPending = d.control.resetPending ∧ (startChoice d).seq.runs = d.seq.runs ∧
    (startChoice d).seq.table = d.seq.table ∧ (startChoice d).seq.pos = d.seq.pos ∧
    (startChoice d).seq.history = d.seq.history ∧ (startChoice d).line.queue = d.line.queue ∧
    (startChoice d).line.replySlot = d.line.replySlot ∧ (startChoice d).line.stuck = d.line.stuck ∧
    (startChoice d).weft.map = d.weft.map := by
  unfold startChoice
  (repeat' split) <;> simp

@[simp] theorem setArrival_frame (a : Arrival) (d : Device) :
    (setArrival a d).tracker = d.tracker ∧ (setArrival a d).seq = d.seq ∧ (setArrival a d).store = d.store ∧
    (setArrival a d).line = d.line ∧ (setArrival a d).roster = d.roster ∧ (setArrival a d).fire = d.fire ∧
    (setArrival a d).strings = d.strings ∧ (setArrival a d).trainer = d.trainer ∧
    (setArrival a d).control = d.control ∧ (setArrival a d).pins = d.pins ∧ (setArrival a d).weft.map = d.weft.map := by
  unfold setArrival
  simp

@[simp] theorem weftIsMissing_frame (d : Device) :
    (weftIsMissing d).tracker = d.tracker ∧ (weftIsMissing d).store = d.store ∧ (weftIsMissing d).roster = d.roster ∧
    (weftIsMissing d).fire = d.fire ∧ (weftIsMissing d).strings = d.strings ∧ (weftIsMissing d).trainer = d.trainer ∧
    (weftIsMissing d).weft = d.weft ∧ (weftIsMissing d).pins = d.pins ∧
    (weftIsMissing d).control.state = d.control.state ∧ (weftIsMissing d).control.role = d.control.role ∧
    (weftIsMissing d).control.number = d.control.number ∧ (weftIsMissing d).control.config = d.control.config ∧
    (weftIsMissing d).control.powered = d.control.powered ∧
    (weftIsMissing d).control.resetPending = d.control.resetPending ∧ (weftIsMissing d).seq.runs = d.seq.runs ∧
    (weftIsMissing d).seq.table = d.seq.table ∧ (weftIsMissing d).seq.pos = d.seq.pos ∧
    (weftIsMissing d).seq.history = d.seq.history ∧ (weftIsMissing d).line.queue = d.line.queue ∧
    (weftIsMissing d).line.replySlot = d.line.replySlot ∧ (weftIsMissing d).line.stuck = d.line.stuck := by
  unfold weftIsMissing
  simp

@[simp] theorem arrivalAtForwardB_frame (d : Device) :
    (arrivalAtForwardB d).tracker = d.tracker ∧ (arrivalAtForwardB d).store = d.store ∧
    (arrivalAtForwardB d).roster = d.roster ∧ (arrivalAtForwardB d).fire = d.fire ∧
    (arrivalAtForwardB d).strings = d.strings ∧ (arrivalAtForwardB d).trainer = d.trainer ∧
    (arrivalAtForwardB d).pins = d.pins ∧ (arrivalAtForwardB d).control.state = d.control.state ∧
    (arrivalAtForwardB d).control.role = d.control.role ∧ (arrivalAtForwardB d).control.number = d.control.number ∧
    (arrivalAtForwardB d).control.config = d.control.config ∧
    (arrivalAtForwardB d).control.powered = d.control.powered ∧
    (arrivalAtForwardB d).control.resetPending = d.control.resetPending ∧
    (arrivalAtForwardB d).seq.runs = d.seq.runs ∧ (arrivalAtForwardB d).seq.table = d.seq.table ∧
    (arrivalAtForwardB d).seq.pos = d.seq.pos ∧ (arrivalAtForwardB d).seq.history = d.seq.history ∧
    (arrivalAtForwardB d).line.queue = d.line.queue ∧ (arrivalAtForwardB d).line.replySlot = d.line.replySlot ∧
    (arrivalAtForwardB d).line.stuck = d.line.stuck ∧ (arrivalAtForwardB d).weft.map = d.weft.map := by
  unfold arrivalAtForwardB
  simp

@[simp] theorem weftForwardBoundary_frame (kind : CrossKind) (left : Nat) (d : Device) :
    (weftForwardBoundary kind left d).tracker = d.tracker ∧ (weftForwardBoundary kind left d).store = d.store ∧
    (weftForwardBoundary kind left d).roster = d.roster ∧ (weftForwardBoundary kind left d).fire = d.fire ∧
    (weftForwardBoundary kind left d).strings = d.strings ∧ (weftForwardBoundary kind left d).trainer = d.trainer ∧
    (weftForwardBoundary kind left d).pins = d.pins ∧
    (weftForwardBoundary kind left d).control.state = d.control.state ∧
    (weftForwardBoundary kind left d).control.role = d.control.role ∧
    (weftForwardBoundary kind left d).control.number = d.control.number ∧
    (weftForwardBoundary kind left d).control.config = d.control.config ∧
    (weftForwardBoundary kind left d).control.powered = d.control.powered ∧
    (weftForwardBoundary kind left d).control.resetPending = d.control.resetPending ∧
    (weftForwardBoundary kind left d).seq.runs = d.seq.runs ∧
    (weftForwardBoundary kind left d).seq.table = d.seq.table ∧
    (weftForwardBoundary kind left d).seq.pos = d.seq.pos ∧
    (weftForwardBoundary kind left d).seq.history = d.seq.history ∧
    (weftForwardBoundary kind left d).line.queue = d.line.queue ∧
    (weftForwardBoundary kind left d).line.replySlot = d.line.replySlot ∧
    (weftForwardBoundary kind left d).line.stuck = d.line.stuck ∧
    (weftForwardBoundary kind left d).weft.map = d.weft.map := by
  unfold weftForwardBoundary
  (repeat' split) <;> simp

@[simp] theorem weftReversePop_frame (e : HistoryEntry) (d : Device) :
    (weftReversePop e d).tracker = d.tracker ∧ (weftReversePop e d).seq = d.seq ∧
    (weftReversePop e d).store = d.store ∧ (weftReversePop e d).line = d.line ∧
    (weftReversePop e d).roster = d.roster ∧ (weftReversePop e d).fire = d.fire ∧
    (weftReversePop e d).strings = d.strings ∧ (weftReversePop e d).trainer = d.trainer ∧
    (weftReversePop e d).control = d.control ∧ (weftReversePop e d).pins = d.pins ∧
    (weftReversePop e d).weft.map = d.weft.map := by
  unfold weftReversePop
  (repeat' split) <;> simp

@[simp] theorem weftReverseEmpty_frame (d : Device) :
    (weftReverseEmpty d).tracker = d.tracker ∧ (weftReverseEmpty d).seq = d.seq ∧
    (weftReverseEmpty d).store = d.store ∧ (weftReverseEmpty d).line = d.line ∧
    (weftReverseEmpty d).roster = d.roster ∧ (weftReverseEmpty d).fire = d.fire ∧
    (weftReverseEmpty d).strings = d.strings ∧ (weftReverseEmpty d).trainer = d.trainer ∧
    (weftReverseEmpty d).control = d.control ∧ (weftReverseEmpty d).pins = d.pins ∧
    (weftReverseEmpty d).weft.map = d.weft.map := by
  unfold weftReverseEmpty
  (repeat' split) <;> simp

@[simp] theorem weftRetract_frame (e : HistoryEntry) (d : Device) :
    (weftRetract e d).tracker = d.tracker ∧ (weftRetract e d).store = d.store ∧ (weftRetract e d).roster = d.roster ∧
    (weftRetract e d).fire = d.fire ∧ (weftRetract e d).strings = d.strings ∧ (weftRetract e d).trainer = d.trainer ∧
    (weftRetract e d).pins = d.pins ∧ (weftRetract e d).control.state = d.control.state ∧
    (weftRetract e d).control.role = d.control.role ∧ (weftRetract e d).control.number = d.control.number ∧
    (weftRetract e d).control.config = d.control.config ∧ (weftRetract e d).control.powered = d.control.powered ∧
    (weftRetract e d).control.resetPending = d.control.resetPending ∧ (weftRetract e d).seq.runs = d.seq.runs ∧
    (weftRetract e d).seq.table = d.seq.table ∧ (weftRetract e d).seq.pos = d.seq.pos ∧
    (weftRetract e d).seq.history = d.seq.history ∧ (weftRetract e d).line.queue = d.line.queue ∧
    (weftRetract e d).line.replySlot = d.line.replySlot ∧ (weftRetract e d).line.stuck = d.line.stuck ∧
    (weftRetract e d).weft.map = d.weft.map := by
  unfold weftRetract
  (repeat' split) <;> simp

@[simp] theorem outputChoice_frame (d : Device) :
    (outputChoice d).tracker = d.tracker ∧ (outputChoice d).seq = d.seq ∧ (outputChoice d).store = d.store ∧
    (outputChoice d).line = d.line ∧ (outputChoice d).roster = d.roster ∧ (outputChoice d).fire = d.fire ∧
    (outputChoice d).strings = d.strings ∧ (outputChoice d).trainer = d.trainer ∧
    (outputChoice d).control = d.control ∧ (outputChoice d).pins = d.pins ∧ (outputChoice d).weft.map = d.weft.map := by
  unfold outputChoice
  simp

@[simp] theorem lateChoice_frame (d : Device) :
    (lateChoice d).tracker = d.tracker ∧ (lateChoice d).seq = d.seq ∧ (lateChoice d).store = d.store ∧
    (lateChoice d).line = d.line ∧ (lateChoice d).roster = d.roster ∧ (lateChoice d).fire = d.fire ∧
    (lateChoice d).strings = d.strings ∧ (lateChoice d).trainer = d.trainer ∧ (lateChoice d).control = d.control ∧
    (lateChoice d).pins = d.pins ∧ (lateChoice d).weft.map = d.weft.map := by
  unfold lateChoice
  simp

@[simp] theorem weftCodeArrives_frame (k : Nat) (d : Device) :
    (weftCodeArrives k d).tracker = d.tracker ∧ (weftCodeArrives k d).store = d.store ∧
    (weftCodeArrives k d).roster = d.roster ∧ (weftCodeArrives k d).fire = d.fire ∧
    (weftCodeArrives k d).strings = d.strings ∧ (weftCodeArrives k d).trainer = d.trainer ∧
    (weftCodeArrives k d).pins = d.pins ∧ (weftCodeArrives k d).control.state = d.control.state ∧
    (weftCodeArrives k d).control.role = d.control.role ∧ (weftCodeArrives k d).control.number = d.control.number ∧
    (weftCodeArrives k d).control.config = d.control.config ∧
    (weftCodeArrives k d).control.powered = d.control.powered ∧
    (weftCodeArrives k d).control.resetPending = d.control.resetPending ∧
    (weftCodeArrives k d).seq.runs = d.seq.runs ∧ (weftCodeArrives k d).seq.table = d.seq.table ∧
    (weftCodeArrives k d).seq.pos = d.seq.pos ∧ (weftCodeArrives k d).seq.history = d.seq.history ∧
    (weftCodeArrives k d).line.queue = d.line.queue ∧ (weftCodeArrives k d).line.replySlot = d.line.replySlot ∧
    (weftCodeArrives k d).line.stuck = d.line.stuck ∧ (weftCodeArrives k d).weft.map = d.weft.map := by
  unfold weftCodeArrives
  (repeat' split) <;> simp

@[simp] theorem reexamine_frame (d : Device) :
    (reexamine d).tracker = d.tracker ∧ (reexamine d).store = d.store ∧ (reexamine d).roster = d.roster ∧
    (reexamine d).fire = d.fire ∧ (reexamine d).strings = d.strings ∧ (reexamine d).trainer = d.trainer ∧
    (reexamine d).pins = d.pins ∧ (reexamine d).control.state = d.control.state ∧
    (reexamine d).control.role = d.control.role ∧ (reexamine d).control.number = d.control.number ∧
    (reexamine d).control.config = d.control.config ∧ (reexamine d).control.powered = d.control.powered ∧
    (reexamine d).control.resetPending = d.control.resetPending ∧ (reexamine d).seq.runs = d.seq.runs ∧
    (reexamine d).seq.table = d.seq.table ∧ (reexamine d).seq.pos = d.seq.pos ∧
    (reexamine d).seq.history = d.seq.history ∧ (reexamine d).line.queue = d.line.queue ∧
    (reexamine d).line.replySlot = d.line.replySlot ∧ (reexamine d).line.stuck = d.line.stuck ∧
    (reexamine d).weft.map = d.weft.map := by
  unfold reexamine
  (repeat' split) <;> simp

@[simp] theorem fingerAngle_frame (d : Device) :
    (fingerAngle d).tracker = d.tracker ∧ (fingerAngle d).store = d.store ∧ (fingerAngle d).roster = d.roster ∧
    (fingerAngle d).fire = d.fire ∧ (fingerAngle d).strings = d.strings ∧ (fingerAngle d).trainer = d.trainer ∧
    (fingerAngle d).pins = d.pins ∧ (fingerAngle d).control.state = d.control.state ∧
    (fingerAngle d).control.role = d.control.role ∧ (fingerAngle d).control.number = d.control.number ∧
    (fingerAngle d).control.config = d.control.config ∧ (fingerAngle d).control.powered = d.control.powered ∧
    (fingerAngle d).control.resetPending = d.control.resetPending ∧ (fingerAngle d).seq.runs = d.seq.runs ∧
    (fingerAngle d).seq.table = d.seq.table ∧ (fingerAngle d).seq.pos = d.seq.pos ∧
    (fingerAngle d).seq.history = d.seq.history ∧ (fingerAngle d).line.queue = d.line.queue ∧
    (fingerAngle d).line.replySlot = d.line.replySlot ∧ (fingerAngle d).line.stuck = d.line.stuck ∧
    (fingerAngle d).weft.map = d.weft.map := by
  unfold fingerAngle
  simp

@[simp] theorem reverseFingerAngle_frame (d : Device) :
    (reverseFingerAngle d).tracker = d.tracker ∧ (reverseFingerAngle d).seq = d.seq ∧
    (reverseFingerAngle d).store = d.store ∧ (reverseFingerAngle d).line = d.line ∧
    (reverseFingerAngle d).roster = d.roster ∧ (reverseFingerAngle d).fire = d.fire ∧
    (reverseFingerAngle d).strings = d.strings ∧ (reverseFingerAngle d).trainer = d.trainer ∧
    (reverseFingerAngle d).control = d.control ∧ (reverseFingerAngle d).pins = d.pins ∧
    (reverseFingerAngle d).weft.map = d.weft.map := by
  unfold reverseFingerAngle
  simp

@[simp] theorem arrivalOpen_frame (d : Device) :
    (arrivalOpen d).tracker = d.tracker ∧ (arrivalOpen d).seq = d.seq ∧ (arrivalOpen d).store = d.store ∧
    (arrivalOpen d).line = d.line ∧ (arrivalOpen d).roster = d.roster ∧ (arrivalOpen d).fire = d.fire ∧
    (arrivalOpen d).strings = d.strings ∧ (arrivalOpen d).trainer = d.trainer ∧ (arrivalOpen d).control = d.control ∧
    (arrivalOpen d).pins = d.pins ∧ (arrivalOpen d).weft.map = d.weft.map := by
  unfold arrivalOpen
  simp

@[simp] theorem arrivalClose_frame (d : Device) :
    (arrivalClose d).tracker = d.tracker ∧ (arrivalClose d).store = d.store ∧ (arrivalClose d).roster = d.roster ∧
    (arrivalClose d).fire = d.fire ∧ (arrivalClose d).strings = d.strings ∧ (arrivalClose d).trainer = d.trainer ∧
    (arrivalClose d).pins = d.pins ∧ (arrivalClose d).control.state = d.control.state ∧
    (arrivalClose d).control.role = d.control.role ∧ (arrivalClose d).control.number = d.control.number ∧
    (arrivalClose d).control.config = d.control.config ∧ (arrivalClose d).control.powered = d.control.powered ∧
    (arrivalClose d).control.resetPending = d.control.resetPending ∧ (arrivalClose d).seq.runs = d.seq.runs ∧
    (arrivalClose d).seq.table = d.seq.table ∧ (arrivalClose d).seq.pos = d.seq.pos ∧
    (arrivalClose d).seq.history = d.seq.history ∧ (arrivalClose d).line.queue = d.line.queue ∧
    (arrivalClose d).line.replySlot = d.line.replySlot ∧ (arrivalClose d).line.stuck = d.line.stuck ∧
    (arrivalClose d).weft.map = d.weft.map := by
  unfold arrivalClose
  (repeat' split) <;> simp

@[simp] theorem detectorPulse_frame (d : Device) :
    (detectorPulse d).tracker = d.tracker ∧ (detectorPulse d).seq = d.seq ∧ (detectorPulse d).store = d.store ∧
    (detectorPulse d).line = d.line ∧ (detectorPulse d).roster = d.roster ∧ (detectorPulse d).fire = d.fire ∧
    (detectorPulse d).strings = d.strings ∧ (detectorPulse d).trainer = d.trainer ∧ (detectorPulse d).pins = d.pins ∧
    (detectorPulse d).control.state = d.control.state ∧ (detectorPulse d).control.role = d.control.role ∧
    (detectorPulse d).control.number = d.control.number ∧ (detectorPulse d).control.config = d.control.config ∧
    (detectorPulse d).control.powered = d.control.powered ∧
    (detectorPulse d).control.resetPending = d.control.resetPending ∧ (detectorPulse d).weft.map = d.weft.map := by
  unfold detectorPulse
  (repeat' split) <;> simp

@[simp] theorem feederInput_frame (finger : Nat) (active : Bool) (d : Device) :
    (feederInput finger active d).tracker = d.tracker ∧ (feederInput finger active d).store = d.store ∧
    (feederInput finger active d).roster = d.roster ∧ (feederInput finger active d).fire = d.fire ∧
    (feederInput finger active d).strings = d.strings ∧ (feederInput finger active d).trainer = d.trainer ∧
    (feederInput finger active d).control.state = d.control.state ∧
    (feederInput finger active d).control.role = d.control.role ∧
    (feederInput finger active d).control.number = d.control.number ∧
    (feederInput finger active d).control.config = d.control.config ∧
    (feederInput finger active d).control.powered = d.control.powered ∧
    (feederInput finger active d).control.resetPending = d.control.resetPending ∧
    (feederInput finger active d).seq.runs = d.seq.runs ∧ (feederInput finger active d).seq.table = d.seq.table ∧
    (feederInput finger active d).seq.pos = d.seq.pos ∧ (feederInput finger active d).seq.history = d.seq.history ∧
    (feederInput finger active d).line.queue = d.line.queue ∧
    (feederInput finger active d).line.replySlot = d.line.replySlot ∧
    (feederInput finger active d).line.stuck = d.line.stuck ∧ (feederInput finger active d).weft.map = d.weft.map := by
  unfold feederInput
  simp only []
  (repeat' split) <;> simp

@[simp] theorem weftLeave_frame (d : Device) :
    (weftLeave d).tracker = d.tracker ∧ (weftLeave d).seq = d.seq ∧ (weftLeave d).store = d.store ∧
    (weftLeave d).line = d.line ∧ (weftLeave d).roster = d.roster ∧ (weftLeave d).fire = d.fire ∧
    (weftLeave d).strings = d.strings ∧ (weftLeave d).trainer = d.trainer ∧ (weftLeave d).control = d.control ∧
    (weftLeave d).pins = d.pins ∧ (weftLeave d).weft.map = d.weft.map := by
  unfold weftLeave
  simp

@[simp] theorem judgeStopBit_frame (l : Line) :
    (judgeStopBit l).recessiveRun = l.recessiveRun ∧
    (judgeStopBit l).dominantRun = l.dominantRun ∧
    (judgeStopBit l).ownPulse = l.ownPulse ∧
    (judgeStopBit l).held = l.held ∧
    (judgeStopBit l).halfBit = l.halfBit ∧
    (judgeStopBit l).sentBits = l.sentBits ∧
    (judgeStopBit l).idleTicks = l.idleTicks ∧
    (judgeStopBit l).stuck = l.stuck ∧
    (judgeStopBit l).queue = l.queue ∧
    (judgeStopBit l).beaconSlot = l.beaconSlot ∧
    (judgeStopBit l).replySlot = l.replySlot ∧
    (judgeStopBit l).completion = l.completion ∧
    (judgeStopBit l).tx = l.tx ∧
    (judgeStopBit l).accessWait = l.accessWait ∧
    (judgeStopBit l).beaconDue = l.beaconDue := by
  unfold judgeStopBit
  split <;> simp

@[simp] theorem measuredRecessive_frame (n : Nat) (d : Device) :
    (measuredRecessive n d).tracker = d.tracker ∧
    (measuredRecessive n d).seq = d.seq ∧
    (measuredRecessive n d).store = d.store ∧
    (measuredRecessive n d).roster = d.roster ∧
    (measuredRecessive n d).fire = d.fire ∧
    (measuredRecessive n d).strings = d.strings ∧
    (measuredRecessive n d).trainer = d.trainer ∧
    (measuredRecessive n d).weft = d.weft ∧
    (measuredRecessive n d).control = d.control ∧
    (measuredRecessive n d).pins = d.pins ∧
    (measuredRecessive n d).line.queue = d.line.queue ∧
    (measuredRecessive n d).line.replySlot = d.line.replySlot ∧
    (measuredRecessive n d).line.stuck = d.line.stuck ∧
    (measuredRecessive n d).line.beaconSlot = d.line.beaconSlot := by
  unfold measuredRecessive
  split <;> simp

@[simp] theorem recessiveReaches_frame (n : Nat) (d : Device) :
    (recessiveReaches n d).tracker = d.tracker ∧
    (recessiveReaches n d).seq = d.seq ∧
    (recessiveReaches n d).store = d.store ∧
    (recessiveReaches n d).roster = d.roster ∧
    (recessiveReaches n d).fire = d.fire ∧
    (recessiveReaches n d).strings = d.strings ∧
    (recessiveReaches n d).trainer = d.trainer ∧
    (recessiveReaches n d).weft = d.weft ∧
    (recessiveReaches n d).control = d.control ∧
    (recessiveReaches n d).pins = d.pins ∧
    (recessiveReaches n d).line.queue = d.line.queue ∧
    (recessiveReaches n d).line.replySlot = d.line.replySlot ∧
    (recessiveReaches n d).line.stuck = d.line.stuck ∧
    (recessiveReaches n d).line.beaconSlot = d.line.beaconSlot := by
  unfold recessiveReaches
  simp

@[simp] theorem measuredDominant_frame (n : Nat) (d : Device) :
    (measuredDominant n d).tracker = d.tracker ∧
    (measuredDominant n d).seq = d.seq ∧
    (measuredDominant n d).store = d.store ∧
    (measuredDominant n d).roster = d.roster ∧
    (measuredDominant n d).fire = d.fire ∧
    (measuredDominant n d).strings = d.strings ∧
    (measuredDominant n d).trainer = d.trainer ∧
    (measuredDominant n d).weft = d.weft ∧
    (measuredDominant n d).control = d.control ∧
    (measuredDominant n d).pins = d.pins ∧
    (measuredDominant n d).line.queue = d.line.queue ∧
    (measuredDominant n d).line.replySlot = d.line.replySlot ∧
    (measuredDominant n d).line.stuck = d.line.stuck ∧
    (measuredDominant n d).line.beaconSlot = d.line.beaconSlot := by
  unfold measuredDominant
  simp

@[simp] theorem runBit_frame (l : Line) (b : Bool) :
    (runBit l b).stuck = l.stuck ∧
    (runBit l b).rx = l.rx ∧
    (runBit l b).queue = l.queue ∧
    (runBit l b).beaconSlot = l.beaconSlot ∧
    (runBit l b).replySlot = l.replySlot ∧
    (runBit l b).completion = l.completion ∧
    (runBit l b).tx = l.tx ∧
    (runBit l b).accessWait = l.accessWait ∧
    (runBit l b).counters = l.counters ∧
    (runBit l b).beaconDue = l.beaconDue ∧
    (runBit l b).held = l.held ∧
    (runBit l b).halfBit = l.halfBit ∧
    (runBit l b).sentBits = l.sentBits ∧
    (runBit l b).idleTicks = l.idleTicks := by
  unfold runBit
  split <;> simp

@[simp] theorem runBits_frame (bits : List Bool) (l : Line) :
    (runBits bits l).stuck = l.stuck ∧
    (runBits bits l).rx = l.rx ∧
    (runBits bits l).queue = l.queue ∧
    (runBits bits l).beaconSlot = l.beaconSlot ∧
    (runBits bits l).replySlot = l.replySlot ∧
    (runBits bits l).completion = l.completion ∧
    (runBits bits l).tx = l.tx ∧
    (runBits bits l).accessWait = l.accessWait ∧
    (runBits bits l).counters = l.counters ∧
    (runBits bits l).beaconDue = l.beaconDue ∧
    (runBits bits l).held = l.held ∧
    (runBits bits l).halfBit = l.halfBit ∧
    (runBits bits l).sentBits = l.sentBits ∧
    (runBits bits l).idleTicks = l.idleTicks := by
  unfold runBits
  induction bits generalizing l with
  | nil => simp
  | cons b bits ih => simpa using ih (runBit l b)

@[simp] theorem passedChars_frame (chars : List LineChar) (d : Device) :
    (passedChars chars d).tracker = d.tracker ∧
    (passedChars chars d).seq = d.seq ∧
    (passedChars chars d).store = d.store ∧
    (passedChars chars d).roster = d.roster ∧
    (passedChars chars d).fire = d.fire ∧
    (passedChars chars d).strings = d.strings ∧
    (passedChars chars d).trainer = d.trainer ∧
    (passedChars chars d).weft = d.weft ∧
    (passedChars chars d).control = d.control ∧
    (passedChars chars d).pins = d.pins ∧
    (passedChars chars d).line.queue = d.line.queue ∧
    (passedChars chars d).line.replySlot = d.line.replySlot ∧
    (passedChars chars d).line.stuck = d.line.stuck ∧
    (passedChars chars d).line.beaconSlot = d.line.beaconSlot := by
  unfold passedChars
  (repeat' split) <;> simp

@[simp] theorem setReceiver_frame (r : Receiver) (d : Device) :
    (setReceiver r d).tracker = d.tracker ∧ (setReceiver r d).seq = d.seq ∧ (setReceiver r d).store = d.store ∧
    (setReceiver r d).roster = d.roster ∧ (setReceiver r d).fire = d.fire ∧ (setReceiver r d).strings = d.strings ∧
    (setReceiver r d).trainer = d.trainer ∧ (setReceiver r d).weft = d.weft ∧ (setReceiver r d).control = d.control ∧
    (setReceiver r d).pins = d.pins ∧ (setReceiver r d).line.queue = d.line.queue ∧
    (setReceiver r d).line.replySlot = d.line.replySlot ∧ (setReceiver r d).line.stuck = d.line.stuck := by
  unfold setReceiver
  simp

@[simp] theorem dropForFraming_frame (d : Device) :
    (dropForFraming d).tracker = d.tracker ∧ (dropForFraming d).seq = d.seq ∧ (dropForFraming d).store = d.store ∧
    (dropForFraming d).roster = d.roster ∧ (dropForFraming d).fire = d.fire ∧
    (dropForFraming d).strings = d.strings ∧ (dropForFraming d).trainer = d.trainer ∧
    (dropForFraming d).weft = d.weft ∧ (dropForFraming d).control = d.control ∧ (dropForFraming d).pins = d.pins ∧
    (dropForFraming d).line.queue = d.line.queue ∧ (dropForFraming d).line.replySlot = d.line.replySlot ∧
    (dropForFraming d).line.stuck = d.line.stuck := by
  unfold dropForFraming
  simp

@[simp] theorem dropForCheck_frame (d : Device) :
    (dropForCheck d).tracker = d.tracker ∧ (dropForCheck d).seq = d.seq ∧ (dropForCheck d).store = d.store ∧
    (dropForCheck d).roster = d.roster ∧ (dropForCheck d).fire = d.fire ∧ (dropForCheck d).strings = d.strings ∧
    (dropForCheck d).trainer = d.trainer ∧ (dropForCheck d).weft = d.weft ∧ (dropForCheck d).control = d.control ∧
    (dropForCheck d).pins = d.pins ∧ (dropForCheck d).line.queue = d.line.queue ∧
    (dropForCheck d).line.replySlot = d.line.replySlot ∧ (dropForCheck d).line.stuck = d.line.stuck := by
  unfold dropForCheck
  simp

@[simp] theorem enqueue_frame (f : Frame) (d : Device) :
    (enqueue f d).tracker = d.tracker ∧ (enqueue f d).seq = d.seq ∧ (enqueue f d).store = d.store ∧
    (enqueue f d).roster = d.roster ∧ (enqueue f d).fire = d.fire ∧ (enqueue f d).strings = d.strings ∧
    (enqueue f d).trainer = d.trainer ∧ (enqueue f d).weft = d.weft ∧ (enqueue f d).control = d.control ∧
    (enqueue f d).pins = d.pins ∧ (enqueue f d).line.replySlot = d.line.replySlot ∧
    (enqueue f d).line.stuck = d.line.stuck := by
  unfold enqueue
  (repeat' split) <;> simp

@[simp] theorem goodFrame_frame (a : Assembly) (d : Device) :
    (goodFrame a d).tracker = d.tracker ∧ (goodFrame a d).seq = d.seq ∧ (goodFrame a d).store = d.store ∧
    (goodFrame a d).roster = d.roster ∧ (goodFrame a d).fire = d.fire ∧ (goodFrame a d).strings = d.strings ∧
    (goodFrame a d).trainer = d.trainer ∧ (goodFrame a d).weft = d.weft ∧ (goodFrame a d).control = d.control ∧
    (goodFrame a d).pins = d.pins ∧ (goodFrame a d).line.replySlot = d.line.replySlot ∧
    (goodFrame a d).line.stuck = d.line.stuck := by
  unfold goodFrame
  simp only []
  (repeat' split) <;> simp

@[simp] theorem takeChar_frame (r : Receiver) (b : Byte) (d : Device) :
    (takeChar r b d).tracker = d.tracker ∧ (takeChar r b d).seq = d.seq ∧ (takeChar r b d).store = d.store ∧
    (takeChar r b d).roster = d.roster ∧ (takeChar r b d).fire = d.fire ∧ (takeChar r b d).strings = d.strings ∧
    (takeChar r b d).trainer = d.trainer ∧ (takeChar r b d).weft = d.weft ∧ (takeChar r b d).control = d.control ∧
    (takeChar r b d).pins = d.pins ∧ (takeChar r b d).line.replySlot = d.line.replySlot ∧
    (takeChar r b d).line.stuck = d.line.stuck := by
  unfold takeChar
  simp only []
  (repeat' split) <;> simp

@[simp] theorem receiveChar_frame (d : Device) (c : LineChar) :
    (receiveChar d c).tracker = d.tracker ∧ (receiveChar d c).seq = d.seq ∧ (receiveChar d c).store = d.store ∧
    (receiveChar d c).roster = d.roster ∧ (receiveChar d c).fire = d.fire ∧ (receiveChar d c).strings = d.strings ∧
    (receiveChar d c).trainer = d.trainer ∧ (receiveChar d c).weft = d.weft ∧ (receiveChar d c).control = d.control ∧
    (receiveChar d c).pins = d.pins ∧ (receiveChar d c).line.replySlot = d.line.replySlot ∧
    (receiveChar d c).line.stuck = d.line.stuck := by
  unfold receiveChar
  simp only []
  (repeat' split) <;> simp

@[simp] theorem receiveChars_frame (chars : List LineChar) (d : Device) :
    (receiveChars chars d).tracker = d.tracker ∧ (receiveChars chars d).seq = d.seq ∧
    (receiveChars chars d).store = d.store ∧ (receiveChars chars d).roster = d.roster ∧
    (receiveChars chars d).fire = d.fire ∧ (receiveChars chars d).strings = d.strings ∧
    (receiveChars chars d).trainer = d.trainer ∧ (receiveChars chars d).weft = d.weft ∧
    (receiveChars chars d).control = d.control ∧ (receiveChars chars d).pins = d.pins ∧
    (receiveChars chars d).line.replySlot = d.line.replySlot ∧ (receiveChars chars d).line.stuck = d.line.stuck := by
  unfold receiveChars
  simp only [passedChars_frame]
  exact ⟨foldl_keeps (·.tracker) receiveChar (by intro d a; simp) chars d, foldl_keeps (·.seq) receiveChar (by intro d a; simp) chars d, foldl_keeps (·.store) receiveChar (by intro d a; simp) chars d, foldl_keeps (·.roster) receiveChar (by intro d a; simp) chars d, foldl_keeps (·.fire) receiveChar (by intro d a; simp) chars d, foldl_keeps (·.strings) receiveChar (by intro d a; simp) chars d, foldl_keeps (·.trainer) receiveChar (by intro d a; simp) chars d, foldl_keeps (·.weft) receiveChar (by intro d a; simp) chars d, foldl_keeps (·.control) receiveChar (by intro d a; simp) chars d, foldl_keeps (·.pins) receiveChar (by intro d a; simp) chars d, foldl_keeps (·.line.replySlot) receiveChar (by intro d a; simp) chars d, foldl_keeps (·.line.stuck) receiveChar (by intro d a; simp) chars d⟩

@[simp] theorem receiveMark_frame (recessive : Nat) (first : LineChar) (second : Option LineChar) (d : Device) :
    (receiveMark recessive first second d).tracker = d.tracker ∧ (receiveMark recessive first second d).seq = d.seq ∧
    (receiveMark recessive first second d).store = d.store ∧
    (receiveMark recessive first second d).roster = d.roster ∧ (receiveMark recessive first second d).fire = d.fire ∧
    (receiveMark recessive first second d).strings = d.strings ∧
    (receiveMark recessive first second d).trainer = d.trainer ∧
    (receiveMark recessive first second d).weft = d.weft ∧
    (receiveMark recessive first second d).control = d.control ∧
    (receiveMark recessive first second d).pins = d.pins ∧
    (receiveMark recessive first second d).line.queue = d.line.queue ∧
    (receiveMark recessive first second d).line.replySlot = d.line.replySlot ∧
    (receiveMark recessive first second d).line.stuck = d.line.stuck := by
  unfold receiveMark
  simp only []
  split <;> simp

@[simp] theorem receiveGap_frame (d : Device) :
    (receiveGap d).tracker = d.tracker ∧ (receiveGap d).seq = d.seq ∧ (receiveGap d).store = d.store ∧
    (receiveGap d).roster = d.roster ∧ (receiveGap d).fire = d.fire ∧ (receiveGap d).strings = d.strings ∧
    (receiveGap d).trainer = d.trainer ∧ (receiveGap d).weft = d.weft ∧ (receiveGap d).control = d.control ∧
    (receiveGap d).pins = d.pins ∧ (receiveGap d).line.queue = d.line.queue ∧
    (receiveGap d).line.replySlot = d.line.replySlot ∧ (receiveGap d).line.stuck = d.line.stuck := by
  unfold receiveGap
  simp

@[simp] theorem lineSticks_frame (d : Device) :
    (lineSticks d).tracker = d.tracker ∧ (lineSticks d).seq = d.seq ∧ (lineSticks d).store = d.store ∧
    (lineSticks d).roster = d.roster ∧ (lineSticks d).fire = d.fire ∧ (lineSticks d).strings = d.strings ∧
    (lineSticks d).trainer = d.trainer ∧ (lineSticks d).weft = d.weft ∧ (lineSticks d).pins = d.pins ∧
    (lineSticks d).control.state = d.control.state ∧ (lineSticks d).control.role = d.control.role ∧
    (lineSticks d).control.number = d.control.number ∧ (lineSticks d).control.config = d.control.config ∧
    (lineSticks d).control.powered = d.control.powered ∧
    (lineSticks d).control.resetPending = d.control.resetPending ∧ (lineSticks d).line.queue = d.line.queue ∧
    (lineSticks d).line.replySlot = d.line.replySlot := by
  unfold lineSticks
  simp

@[simp] theorem lineClears_frame (d : Device) :
    (lineClears d).tracker = d.tracker ∧ (lineClears d).seq = d.seq ∧ (lineClears d).store = d.store ∧
    (lineClears d).roster = d.roster ∧ (lineClears d).fire = d.fire ∧ (lineClears d).strings = d.strings ∧
    (lineClears d).trainer = d.trainer ∧ (lineClears d).weft = d.weft ∧ (lineClears d).control = d.control ∧
    (lineClears d).pins = d.pins ∧ (lineClears d).line.queue = d.line.queue ∧
    (lineClears d).line.replySlot = d.line.replySlot := by
  unfold lineClears
  (repeat' split) <;> simp

@[simp] theorem startFrame_frame (recessive : Nat) (d : Device) :
    (startFrame recessive d).tracker = d.tracker ∧ (startFrame recessive d).seq = d.seq ∧
    (startFrame recessive d).store = d.store ∧ (startFrame recessive d).roster = d.roster ∧
    (startFrame recessive d).fire = d.fire ∧ (startFrame recessive d).strings = d.strings ∧
    (startFrame recessive d).trainer = d.trainer ∧ (startFrame recessive d).weft = d.weft ∧
    (startFrame recessive d).control = d.control ∧ (startFrame recessive d).pins = d.pins ∧
    (startFrame recessive d).line.queue = d.line.queue ∧ (startFrame recessive d).line.replySlot = d.line.replySlot ∧
    (startFrame recessive d).line.stuck = d.line.stuck := by
  unfold startFrame
  simp only []
  (repeat' split) <;> simp

@[simp] theorem clearSlot_frame (slot : SlotName) (d : Device) :
    (clearSlot slot d).tracker = d.tracker ∧ (clearSlot slot d).seq = d.seq ∧ (clearSlot slot d).store = d.store ∧
    (clearSlot slot d).roster = d.roster ∧ (clearSlot slot d).fire = d.fire ∧
    (clearSlot slot d).strings = d.strings ∧ (clearSlot slot d).trainer = d.trainer ∧
    (clearSlot slot d).weft = d.weft ∧ (clearSlot slot d).control = d.control ∧ (clearSlot slot d).pins = d.pins ∧
    (clearSlot slot d).line.queue = d.line.queue ∧ (clearSlot slot d).line.stuck = d.line.stuck := by
  unfold clearSlot
  (repeat' split) <;> simp

@[simp] theorem raiseAttempts_frame (slot : SlotName) (d : Device) :
    (raiseAttempts slot d).tracker = d.tracker ∧ (raiseAttempts slot d).seq = d.seq ∧
    (raiseAttempts slot d).store = d.store ∧ (raiseAttempts slot d).roster = d.roster ∧
    (raiseAttempts slot d).fire = d.fire ∧ (raiseAttempts slot d).strings = d.strings ∧
    (raiseAttempts slot d).trainer = d.trainer ∧ (raiseAttempts slot d).weft = d.weft ∧
    (raiseAttempts slot d).control = d.control ∧ (raiseAttempts slot d).pins = d.pins ∧
    (raiseAttempts slot d).line.queue = d.line.queue ∧ (raiseAttempts slot d).line.stuck = d.line.stuck := by
  unfold raiseAttempts
  (repeat' split) <;> simp

@[simp] theorem endPulse_frame (d : Device) :
    (endPulse d).tracker = d.tracker ∧ (endPulse d).seq = d.seq ∧ (endPulse d).store = d.store ∧
    (endPulse d).roster = d.roster ∧ (endPulse d).fire = d.fire ∧ (endPulse d).strings = d.strings ∧
    (endPulse d).trainer = d.trainer ∧ (endPulse d).weft = d.weft ∧ (endPulse d).control = d.control ∧
    (endPulse d).pins = d.pins ∧ (endPulse d).line.queue = d.line.queue ∧
    (endPulse d).line.replySlot = d.line.replySlot ∧ (endPulse d).line.stuck = d.line.stuck := by
  unfold endPulse
  split <;> simp

@[simp] theorem completeWith_frame (f : Frame) (d : Device) :
    (completeWith f d).tracker = d.tracker ∧ (completeWith f d).seq = d.seq ∧ (completeWith f d).store = d.store ∧
    (completeWith f d).roster = d.roster ∧ (completeWith f d).fire = d.fire ∧
    (completeWith f d).strings = d.strings ∧ (completeWith f d).trainer = d.trainer ∧
    (completeWith f d).weft = d.weft ∧ (completeWith f d).control = d.control ∧ (completeWith f d).pins = d.pins ∧
    (completeWith f d).line.queue = d.line.queue ∧ (completeWith f d).line.stuck = d.line.stuck := by
  unfold completeWith
  (repeat' split) <;> simp

@[simp] theorem admitCompletion_frame (d : Device) :
    (admitCompletion d).tracker = d.tracker ∧ (admitCompletion d).seq = d.seq ∧ (admitCompletion d).store = d.store ∧
    (admitCompletion d).roster = d.roster ∧ (admitCompletion d).fire = d.fire ∧
    (admitCompletion d).strings = d.strings ∧ (admitCompletion d).trainer = d.trainer ∧
    (admitCompletion d).weft = d.weft ∧ (admitCompletion d).control = d.control ∧ (admitCompletion d).pins = d.pins ∧
    (admitCompletion d).line.queue = d.line.queue ∧ (admitCompletion d).line.stuck = d.line.stuck := by
  unfold admitCompletion
  (repeat' split) <;> simp

@[simp] theorem placeBeacon_frame (f : Frame) (d : Device) :
    (placeBeacon f d).tracker = d.tracker ∧ (placeBeacon f d).seq = d.seq ∧ (placeBeacon f d).store = d.store ∧
    (placeBeacon f d).roster = d.roster ∧ (placeBeacon f d).fire = d.fire ∧ (placeBeacon f d).strings = d.strings ∧
    (placeBeacon f d).trainer = d.trainer ∧ (placeBeacon f d).weft = d.weft ∧ (placeBeacon f d).control = d.control ∧
    (placeBeacon f d).pins = d.pins ∧ (placeBeacon f d).line.queue = d.line.queue ∧
    (placeBeacon f d).line.replySlot = d.line.replySlot ∧ (placeBeacon f d).line.stuck = d.line.stuck := by
  unfold placeBeacon
  simp

@[simp] theorem buildBeacon_frame (d : Device) :
    (buildBeacon d).tracker = d.tracker ∧ (buildBeacon d).seq = d.seq ∧ (buildBeacon d).store = d.store ∧
    (buildBeacon d).roster = d.roster ∧ (buildBeacon d).fire = d.fire ∧ (buildBeacon d).strings = d.strings ∧
    (buildBeacon d).trainer = d.trainer ∧ (buildBeacon d).weft = d.weft ∧ (buildBeacon d).control = d.control ∧
    (buildBeacon d).pins = d.pins ∧ (buildBeacon d).line.queue = d.line.queue ∧
    (buildBeacon d).line.replySlot = d.line.replySlot ∧ (buildBeacon d).line.stuck = d.line.stuck := by
  unfold buildBeacon
  (repeat' split) <;> simp

@[simp] theorem beaconFallsDue_frame (d : Device) :
    (beaconFallsDue d).tracker = d.tracker ∧ (beaconFallsDue d).seq = d.seq ∧ (beaconFallsDue d).store = d.store ∧
    (beaconFallsDue d).roster = d.roster ∧ (beaconFallsDue d).fire = d.fire ∧
    (beaconFallsDue d).strings = d.strings ∧ (beaconFallsDue d).trainer = d.trainer ∧
    (beaconFallsDue d).weft = d.weft ∧ (beaconFallsDue d).control = d.control ∧ (beaconFallsDue d).pins = d.pins ∧
    (beaconFallsDue d).line.queue = d.line.queue ∧ (beaconFallsDue d).line.replySlot = d.line.replySlot ∧
    (beaconFallsDue d).line.stuck = d.line.stuck := by
  unfold beaconFallsDue
  simp

@[simp] theorem beaconRowReady_frame (d : Device) :
    (beaconRowReady d).tracker = d.tracker ∧ (beaconRowReady d).seq = d.seq ∧ (beaconRowReady d).store = d.store ∧
    (beaconRowReady d).roster = d.roster ∧ (beaconRowReady d).fire = d.fire ∧
    (beaconRowReady d).strings = d.strings ∧ (beaconRowReady d).trainer = d.trainer ∧
    (beaconRowReady d).weft = d.weft ∧ (beaconRowReady d).control = d.control ∧ (beaconRowReady d).pins = d.pins ∧
    (beaconRowReady d).line.queue = d.line.queue ∧ (beaconRowReady d).line.replySlot = d.line.replySlot ∧
    (beaconRowReady d).line.stuck = d.line.stuck := by
  unfold beaconRowReady
  (repeat' split) <;> simp

@[simp] theorem beaconGuardPassed_frame (d : Device) :
    (beaconGuardPassed d).tracker = d.tracker ∧ (beaconGuardPassed d).seq = d.seq ∧
    (beaconGuardPassed d).store = d.store ∧ (beaconGuardPassed d).roster = d.roster ∧
    (beaconGuardPassed d).fire = d.fire ∧ (beaconGuardPassed d).strings = d.strings ∧
    (beaconGuardPassed d).trainer = d.trainer ∧ (beaconGuardPassed d).weft = d.weft ∧
    (beaconGuardPassed d).control = d.control ∧ (beaconGuardPassed d).pins = d.pins ∧
    (beaconGuardPassed d).line.queue = d.line.queue ∧ (beaconGuardPassed d).line.replySlot = d.line.replySlot ∧
    (beaconGuardPassed d).line.stuck = d.line.stuck := by
  unfold beaconGuardPassed
  (repeat' split) <;> simp

@[simp] theorem beaconRetracted_frame (d : Device) :
    (beaconRetracted d).tracker = d.tracker ∧ (beaconRetracted d).seq = d.seq ∧ (beaconRetracted d).store = d.store ∧
    (beaconRetracted d).roster = d.roster ∧ (beaconRetracted d).fire = d.fire ∧
    (beaconRetracted d).strings = d.strings ∧ (beaconRetracted d).trainer = d.trainer ∧
    (beaconRetracted d).weft = d.weft ∧ (beaconRetracted d).control = d.control ∧ (beaconRetracted d).pins = d.pins ∧
    (beaconRetracted d).line.queue = d.line.queue ∧ (beaconRetracted d).line.replySlot = d.line.replySlot ∧
    (beaconRetracted d).line.stuck = d.line.stuck := by
  unfold beaconRetracted
  (repeat' split) <;> simp

@[simp] theorem beaconIdle_frame (d : Device) :
    (beaconIdle d).tracker = d.tracker ∧ (beaconIdle d).seq = d.seq ∧ (beaconIdle d).store = d.store ∧
    (beaconIdle d).roster = d.roster ∧ (beaconIdle d).fire = d.fire ∧ (beaconIdle d).strings = d.strings ∧
    (beaconIdle d).trainer = d.trainer ∧ (beaconIdle d).weft = d.weft ∧ (beaconIdle d).control = d.control ∧
    (beaconIdle d).pins = d.pins ∧ (beaconIdle d).line.queue = d.line.queue ∧
    (beaconIdle d).line.replySlot = d.line.replySlot ∧ (beaconIdle d).line.stuck = d.line.stuck := by
  unfold beaconIdle
  simp

@[simp] theorem mapStrings_frame (f : Nat → SelString → SelString) (d : Device) :
    (mapStrings f d).tracker = d.tracker ∧ (mapStrings f d).seq = d.seq ∧ (mapStrings f d).store = d.store ∧
    (mapStrings f d).line = d.line ∧ (mapStrings f d).roster = d.roster ∧ (mapStrings f d).fire = d.fire ∧
    (mapStrings f d).trainer = d.trainer ∧ (mapStrings f d).weft = d.weft ∧ (mapStrings f d).control = d.control ∧
    (mapStrings f d).pins = d.pins ∧ (mapStrings f d).strings.power = d.strings.power ∧
    (mapStrings f d).strings.faults = d.strings.faults ∧ (mapStrings f d).strings.mode = d.strings.mode := by
  unfold mapStrings
  simp

@[simp] theorem mapAllStrings_frame (f : SelString → SelString) (d : Device) :
    (mapAllStrings f d).tracker = d.tracker ∧ (mapAllStrings f d).seq = d.seq ∧ (mapAllStrings f d).store = d.store ∧
    (mapAllStrings f d).line = d.line ∧ (mapAllStrings f d).roster = d.roster ∧ (mapAllStrings f d).fire = d.fire ∧
    (mapAllStrings f d).trainer = d.trainer ∧ (mapAllStrings f d).weft = d.weft ∧
    (mapAllStrings f d).control = d.control ∧ (mapAllStrings f d).pins = d.pins ∧
    (mapAllStrings f d).strings.power = d.strings.power ∧ (mapAllStrings f d).strings.faults = d.strings.faults ∧
    (mapAllStrings f d).strings.mode = d.strings.mode := by
  unfold mapAllStrings
  simp

@[simp] theorem dropAll_frame (d : Device) :
    (dropAll d).tracker = d.tracker ∧ (dropAll d).seq = d.seq ∧ (dropAll d).store = d.store ∧
    (dropAll d).line = d.line ∧ (dropAll d).roster = d.roster ∧ (dropAll d).fire = d.fire ∧
    (dropAll d).trainer = d.trainer ∧ (dropAll d).weft = d.weft ∧ (dropAll d).control = d.control ∧
    (dropAll d).pins = d.pins ∧ (dropAll d).strings.power = d.strings.power ∧
    (dropAll d).strings.faults = d.strings.faults ∧ (dropAll d).strings.mode = d.strings.mode := by
  unfold dropAll
  simp

@[simp] theorem restAll_frame (d : Device) :
    (restAll d).tracker = d.tracker ∧ (restAll d).seq = d.seq ∧ (restAll d).store = d.store ∧
    (restAll d).line = d.line ∧ (restAll d).roster = d.roster ∧ (restAll d).fire = d.fire ∧
    (restAll d).trainer = d.trainer ∧ (restAll d).weft = d.weft ∧ (restAll d).control = d.control ∧
    (restAll d).pins = d.pins ∧ (restAll d).strings.power = d.strings.power ∧
    (restAll d).strings.faults = d.strings.faults ∧ (restAll d).strings.mode = d.strings.mode := by
  unfold restAll
  simp

@[simp] theorem freshStrings_frame (d : Device) :
    (freshStrings d).tracker = d.tracker ∧ (freshStrings d).seq = d.seq ∧ (freshStrings d).store = d.store ∧
    (freshStrings d).line = d.line ∧ (freshStrings d).roster = d.roster ∧ (freshStrings d).fire = d.fire ∧
    (freshStrings d).trainer = d.trainer ∧ (freshStrings d).weft = d.weft ∧ (freshStrings d).control = d.control ∧
    (freshStrings d).pins = d.pins ∧ (freshStrings d).strings.power = d.strings.power ∧
    (freshStrings d).strings.faults = d.strings.faults ∧ (freshStrings d).strings.mode = d.strings.mode := by
  unfold freshStrings
  simp

@[simp] theorem reportFired_frame (p : Nat → SelString → Bool) (d : Device) :
    (reportFired p d).tracker = d.tracker ∧ (reportFired p d).seq = d.seq ∧ (reportFired p d).store = d.store ∧
    (reportFired p d).line = d.line ∧ (reportFired p d).roster = d.roster ∧ (reportFired p d).strings = d.strings ∧
    (reportFired p d).trainer = d.trainer ∧ (reportFired p d).weft = d.weft ∧ (reportFired p d).control = d.control ∧
    (reportFired p d).pins = d.pins := by
  unfold reportFired
  simp

@[simp] theorem fireWhere_frame (p : Nat → SelString → Bool) (d : Device) :
    (fireWhere p d).tracker = d.tracker ∧ (fireWhere p d).seq = d.seq ∧ (fireWhere p d).store = d.store ∧
    (fireWhere p d).line = d.line ∧ (fireWhere p d).roster = d.roster ∧ (fireWhere p d).trainer = d.trainer ∧
    (fireWhere p d).weft = d.weft ∧ (fireWhere p d).control = d.control ∧ (fireWhere p d).pins = d.pins ∧
    (fireWhere p d).strings.power = d.strings.power ∧ (fireWhere p d).strings.faults = d.strings.faults ∧
    (fireWhere p d).strings.mode = d.strings.mode := by
  unfold fireWhere
  simp

@[simp] theorem fallDue_frame (p : Nat → SelString → Bool) (d : Device) :
    (fallDue p d).tracker = d.tracker ∧ (fallDue p d).seq = d.seq ∧ (fallDue p d).store = d.store ∧
    (fallDue p d).line = d.line ∧ (fallDue p d).roster = d.roster ∧ (fallDue p d).trainer = d.trainer ∧
    (fallDue p d).weft = d.weft ∧ (fallDue p d).control = d.control ∧ (fallDue p d).pins = d.pins ∧
    (fallDue p d).strings.power = d.strings.power ∧ (fallDue p d).strings.faults = d.strings.faults ∧
    (fallDue p d).strings.mode = d.strings.mode := by
  unfold fallDue
  simp

@[simp] theorem fireWaiting_frame (d : Device) :
    (fireWaiting d).tracker = d.tracker ∧ (fireWaiting d).seq = d.seq ∧ (fireWaiting d).store = d.store ∧
    (fireWaiting d).line = d.line ∧ (fireWaiting d).roster = d.roster ∧ (fireWaiting d).trainer = d.trainer ∧
    (fireWaiting d).weft = d.weft ∧ (fireWaiting d).control = d.control ∧ (fireWaiting d).pins = d.pins ∧
    (fireWaiting d).strings.power = d.strings.power ∧ (fireWaiting d).strings.faults = d.strings.faults ∧
    (fireWaiting d).strings.mode = d.strings.mode := by
  unfold fireWaiting
  simp

@[simp] theorem setPower_frame (p : Power) (d : Device) :
    (setPower p d).tracker = d.tracker ∧ (setPower p d).seq = d.seq ∧ (setPower p d).store = d.store ∧
    (setPower p d).line = d.line ∧ (setPower p d).roster = d.roster ∧ (setPower p d).fire = d.fire ∧
    (setPower p d).trainer = d.trainer ∧ (setPower p d).weft = d.weft ∧ (setPower p d).control = d.control ∧
    (setPower p d).pins = d.pins ∧ (setPower p d).strings.faults = d.strings.faults ∧
    (setPower p d).strings.mode = d.strings.mode := by
  unfold setPower
  simp

@[simp] theorem wakePower_frame (d : Device) :
    (wakePower d).tracker = d.tracker ∧ (wakePower d).seq = d.seq ∧ (wakePower d).store = d.store ∧
    (wakePower d).line = d.line ∧ (wakePower d).roster = d.roster ∧ (wakePower d).fire = d.fire ∧
    (wakePower d).trainer = d.trainer ∧ (wakePower d).weft = d.weft ∧ (wakePower d).control = d.control ∧
    (wakePower d).pins = d.pins ∧ (wakePower d).strings.faults = d.strings.faults ∧
    (wakePower d).strings.mode = d.strings.mode := by
  unfold wakePower
  (repeat' split) <;> simp

@[simp] theorem powerOff_frame (d : Device) :
    (powerOff d).tracker = d.tracker ∧ (powerOff d).seq = d.seq ∧ (powerOff d).store = d.store ∧
    (powerOff d).line = d.line ∧ (powerOff d).roster = d.roster ∧ (powerOff d).fire = d.fire ∧
    (powerOff d).trainer = d.trainer ∧ (powerOff d).weft = d.weft ∧ (powerOff d).control = d.control ∧
    (powerOff d).pins = d.pins ∧ (powerOff d).strings.faults = d.strings.faults ∧
    (powerOff d).strings.mode = d.strings.mode := by
  unfold powerOff
  simp

@[simp] theorem dwellTest_frame (d : Device) :
    (dwellTest d).tracker = d.tracker ∧ (dwellTest d).seq = d.seq ∧ (dwellTest d).store = d.store ∧
    (dwellTest d).line = d.line ∧ (dwellTest d).roster = d.roster ∧ (dwellTest d).fire = d.fire ∧
    (dwellTest d).trainer = d.trainer ∧ (dwellTest d).weft = d.weft ∧ (dwellTest d).control = d.control ∧
    (dwellTest d).pins = d.pins ∧ (dwellTest d).strings.faults = d.strings.faults ∧
    (dwellTest d).strings.mode = d.strings.mode := by
  unfold dwellTest
  simp only []
  (repeat' split) <;> simp

@[simp] theorem takeFault_frame (d : Device) (f : FaultEntry) :
    (takeFault d f).tracker = d.tracker ∧ (takeFault d f).seq = d.seq ∧ (takeFault d f).store = d.store ∧
    (takeFault d f).line = d.line ∧ (takeFault d f).roster = d.roster ∧ (takeFault d f).fire = d.fire ∧
    (takeFault d f).trainer = d.trainer ∧ (takeFault d f).weft = d.weft ∧ (takeFault d f).pins = d.pins ∧
    (takeFault d f).control.state = d.control.state ∧ (takeFault d f).control.role = d.control.role ∧
    (takeFault d f).control.number = d.control.number ∧ (takeFault d f).control.config = d.control.config ∧
    (takeFault d f).control.powered = d.control.powered ∧
    (takeFault d f).control.resetPending = d.control.resetPending ∧ (takeFault d f).strings.power = d.strings.power ∧
    (takeFault d f).strings.mode = d.strings.mode := by
  unfold takeFault
  simp only []
  (repeat' split) <;> simp

@[simp] theorem takeFaults_frame (fs : List FaultEntry) (d : Device) :
    (takeFaults fs d).tracker = d.tracker ∧ (takeFaults fs d).store = d.store ∧ (takeFaults fs d).roster = d.roster ∧
    (takeFaults fs d).fire = d.fire ∧ (takeFaults fs d).trainer = d.trainer ∧ (takeFaults fs d).weft = d.weft ∧
    (takeFaults fs d).pins = d.pins ∧ (takeFaults fs d).control.state = d.control.state ∧
    (takeFaults fs d).control.role = d.control.role ∧ (takeFaults fs d).control.number = d.control.number ∧
    (takeFaults fs d).control.config = d.control.config ∧ (takeFaults fs d).control.powered = d.control.powered ∧
    (takeFaults fs d).control.resetPending = d.control.resetPending ∧ (takeFaults fs d).seq.runs = d.seq.runs ∧
    (takeFaults fs d).seq.table = d.seq.table ∧ (takeFaults fs d).seq.pos = d.seq.pos ∧
    (takeFaults fs d).seq.history = d.seq.history ∧ (takeFaults fs d).strings.power = d.strings.power ∧
    (takeFaults fs d).strings.mode = d.strings.mode ∧ (takeFaults fs d).line.queue = d.line.queue ∧
    (takeFaults fs d).line.replySlot = d.line.replySlot ∧ (takeFaults fs d).line.stuck = d.line.stuck := by
  unfold takeFaults
  simp only []
  refine ⟨(doIf_keeps (·.tracker) _ _ _ (by simp)).trans (foldl_keeps (·.tracker) takeFault (by intro d a; simp) fs d),
    (doIf_keeps (·.store) _ _ _ (by simp)).trans (foldl_keeps (·.store) takeFault (by intro d a; simp) fs d),
    (doIf_keeps (·.roster) _ _ _ (by simp)).trans (foldl_keeps (·.roster) takeFault (by intro d a; simp) fs d),
    (doIf_keeps (·.fire) _ _ _ (by simp)).trans (foldl_keeps (·.fire) takeFault (by intro d a; simp) fs d),
    (doIf_keeps (·.trainer) _ _ _ (by simp)).trans (foldl_keeps (·.trainer) takeFault (by intro d a; simp) fs d),
    (doIf_keeps (·.weft) _ _ _ (by simp)).trans (foldl_keeps (·.weft) takeFault (by intro d a; simp) fs d),
    (doIf_keeps (·.pins) _ _ _ (by simp)).trans (foldl_keeps (·.pins) takeFault (by intro d a; simp) fs d),
    (doIf_keeps (·.control.state) _ _ _ (by simp)).trans (foldl_keeps (·.control.state) takeFault (by intro d a; simp) fs d),
    (doIf_keeps (·.control.role) _ _ _ (by simp)).trans (foldl_keeps (·.control.role) takeFault (by intro d a; simp) fs d),
    (doIf_keeps (·.control.number) _ _ _ (by simp)).trans (foldl_keeps (·.control.number) takeFault (by intro d a; simp) fs d),
    (doIf_keeps (·.control.config) _ _ _ (by simp)).trans (foldl_keeps (·.control.config) takeFault (by intro d a; simp) fs d),
    (doIf_keeps (·.control.powered) _ _ _ (by simp)).trans (foldl_keeps (·.control.powered) takeFault (by intro d a; simp) fs d),
    (doIf_keeps (·.control.resetPending) _ _ _ (by simp)).trans (foldl_keeps (·.control.resetPending) takeFault (by intro d a; simp) fs d),
    (doIf_keeps (·.seq.runs) _ _ _ (by simp)).trans (foldl_keeps (·.seq.runs) takeFault (by intro d a; simp) fs d),
    (doIf_keeps (·.seq.table) _ _ _ (by simp)).trans (foldl_keeps (·.seq.table) takeFault (by intro d a; simp) fs d),
    (doIf_keeps (·.seq.pos) _ _ _ (by simp)).trans (foldl_keeps (·.seq.pos) takeFault (by intro d a; simp) fs d),
    (doIf_keeps (·.seq.history) _ _ _ (by simp)).trans (foldl_keeps (·.seq.history) takeFault (by intro d a; simp) fs d),
    (doIf_keeps (·.strings.power) _ _ _ (by simp)).trans (foldl_keeps (·.strings.power) takeFault (by intro d a; simp) fs d),
    (doIf_keeps (·.strings.mode) _ _ _ (by simp)).trans (foldl_keeps (·.strings.mode) takeFault (by intro d a; simp) fs d),
    (doIf_keeps (·.line.queue) _ _ _ (by simp)).trans (foldl_keeps (·.line.queue) takeFault (by intro d a; simp) fs d),
    (doIf_keeps (·.line.replySlot) _ _ _ (by simp)).trans (foldl_keeps (·.line.replySlot) takeFault (by intro d a; simp) fs d),
    (doIf_keeps (·.line.stuck) _ _ _ (by simp)).trans (foldl_keeps (·.line.stuck) takeFault (by intro d a; simp) fs d)⟩

@[simp] theorem shiftAll_frame (field : Nat → StringBits) (d : Device) :
    (shiftAll field d).tracker = d.tracker ∧ (shiftAll field d).store = d.store ∧
    (shiftAll field d).roster = d.roster ∧ (shiftAll field d).trainer = d.trainer ∧
    (shiftAll field d).weft = d.weft ∧ (shiftAll field d).pins = d.pins ∧
    (shiftAll field d).control.state = d.control.state ∧ (shiftAll field d).control.role = d.control.role ∧
    (shiftAll field d).control.number = d.control.number ∧ (shiftAll field d).control.config = d.control.config ∧
    (shiftAll field d).control.powered = d.control.powered ∧
    (shiftAll field d).control.resetPending = d.control.resetPending ∧ (shiftAll field d).seq.runs = d.seq.runs ∧
    (shiftAll field d).seq.table = d.seq.table ∧ (shiftAll field d).seq.pos = d.seq.pos ∧
    (shiftAll field d).seq.history = d.seq.history ∧ (shiftAll field d).strings.power = d.strings.power ∧
    (shiftAll field d).strings.mode = d.strings.mode ∧ (shiftAll field d).line.queue = d.line.queue ∧
    (shiftAll field d).line.replySlot = d.line.replySlot ∧ (shiftAll field d).line.stuck = d.line.stuck := by
  unfold shiftAll
  simp

@[simp] theorem clearEchoMarks_frame (d : Device) :
    (clearEchoMarks d).tracker = d.tracker ∧ (clearEchoMarks d).seq = d.seq ∧ (clearEchoMarks d).store = d.store ∧
    (clearEchoMarks d).line = d.line ∧ (clearEchoMarks d).roster = d.roster ∧ (clearEchoMarks d).fire = d.fire ∧
    (clearEchoMarks d).trainer = d.trainer ∧ (clearEchoMarks d).weft = d.weft ∧
    (clearEchoMarks d).control = d.control ∧ (clearEchoMarks d).pins = d.pins ∧
    (clearEchoMarks d).strings.power = d.strings.power ∧ (clearEchoMarks d).strings.faults = d.strings.faults ∧
    (clearEchoMarks d).strings.mode = d.strings.mode := by
  unfold clearEchoMarks
  simp

@[simp] theorem setBlank_frame (d : Device) :
    (setBlank d).tracker = d.tracker ∧ (setBlank d).seq = d.seq ∧ (setBlank d).store = d.store ∧
    (setBlank d).line = d.line ∧ (setBlank d).roster = d.roster ∧ (setBlank d).fire = d.fire ∧
    (setBlank d).trainer = d.trainer ∧ (setBlank d).weft = d.weft ∧ (setBlank d).control = d.control ∧
    (setBlank d).pins = d.pins ∧ (setBlank d).strings.power = d.strings.power ∧
    (setBlank d).strings.faults = d.strings.faults ∧ (setBlank d).strings.mode = d.strings.mode := by
  unfold setBlank
  simp

@[simp] theorem captureAll_frame (d : Device) :
    (captureAll d).tracker = d.tracker ∧ (captureAll d).seq = d.seq ∧ (captureAll d).store = d.store ∧
    (captureAll d).line = d.line ∧ (captureAll d).roster = d.roster ∧ (captureAll d).fire = d.fire ∧
    (captureAll d).trainer = d.trainer ∧ (captureAll d).weft = d.weft ∧ (captureAll d).control = d.control ∧
    (captureAll d).pins = d.pins ∧ (captureAll d).strings.power = d.strings.power ∧
    (captureAll d).strings.faults = d.strings.faults ∧ (captureAll d).strings.mode = d.strings.mode := by
  unfold captureAll
  simp

@[simp] theorem missTest_frame (d : Device) :
    (missTest d).tracker = d.tracker ∧ (missTest d).store = d.store ∧ (missTest d).roster = d.roster ∧
    (missTest d).fire = d.fire ∧ (missTest d).trainer = d.trainer ∧ (missTest d).weft = d.weft ∧
    (missTest d).pins = d.pins ∧ (missTest d).control.state = d.control.state ∧
    (missTest d).control.role = d.control.role ∧ (missTest d).control.number = d.control.number ∧
    (missTest d).control.config = d.control.config ∧ (missTest d).control.powered = d.control.powered ∧
    (missTest d).control.resetPending = d.control.resetPending ∧ (missTest d).seq.runs = d.seq.runs ∧
    (missTest d).seq.table = d.seq.table ∧ (missTest d).seq.pos = d.seq.pos ∧
    (missTest d).seq.history = d.seq.history ∧ (missTest d).strings.power = d.strings.power ∧
    (missTest d).strings.faults = d.strings.faults ∧ (missTest d).strings.mode = d.strings.mode ∧
    (missTest d).line.queue = d.line.queue ∧ (missTest d).line.replySlot = d.line.replySlot ∧
    (missTest d).line.stuck = d.line.stuck := by
  unfold missTest
  (repeat' split) <;> simp

@[simp] theorem outstandingMissTest_frame (d : Device) :
    (outstandingMissTest d).tracker = d.tracker ∧ (outstandingMissTest d).store = d.store ∧
    (outstandingMissTest d).roster = d.roster ∧ (outstandingMissTest d).fire = d.fire ∧
    (outstandingMissTest d).trainer = d.trainer ∧ (outstandingMissTest d).weft = d.weft ∧
    (outstandingMissTest d).pins = d.pins ∧ (outstandingMissTest d).control.state = d.control.state ∧
    (outstandingMissTest d).control.role = d.control.role ∧
    (outstandingMissTest d).control.number = d.control.number ∧
    (outstandingMissTest d).control.config = d.control.config ∧
    (outstandingMissTest d).control.powered = d.control.powered ∧
    (outstandingMissTest d).control.resetPending = d.control.resetPending ∧
    (outstandingMissTest d).seq.runs = d.seq.runs ∧ (outstandingMissTest d).seq.table = d.seq.table ∧
    (outstandingMissTest d).seq.pos = d.seq.pos ∧ (outstandingMissTest d).seq.history = d.seq.history ∧
    (outstandingMissTest d).strings.power = d.strings.power ∧
    (outstandingMissTest d).strings.faults = d.strings.faults ∧
    (outstandingMissTest d).strings.mode = d.strings.mode ∧ (outstandingMissTest d).line.queue = d.line.queue ∧
    (outstandingMissTest d).line.replySlot = d.line.replySlot ∧ (outstandingMissTest d).line.stuck = d.line.stuck := by
  unfold outstandingMissTest
  simp

@[simp] theorem stringsForwardK_frame (d : Device) :
    (stringsForwardK d).tracker = d.tracker ∧ (stringsForwardK d).store = d.store ∧
    (stringsForwardK d).roster = d.roster ∧ (stringsForwardK d).fire = d.fire ∧
    (stringsForwardK d).trainer = d.trainer ∧ (stringsForwardK d).weft = d.weft ∧ (stringsForwardK d).pins = d.pins ∧
    (stringsForwardK d).control.state = d.control.state ∧ (stringsForwardK d).control.role = d.control.role ∧
    (stringsForwardK d).control.number = d.control.number ∧ (stringsForwardK d).control.config = d.control.config ∧
    (stringsForwardK d).control.powered = d.control.powered ∧
    (stringsForwardK d).control.resetPending = d.control.resetPending ∧ (stringsForwardK d).seq.runs = d.seq.runs ∧
    (stringsForwardK d).seq.table = d.seq.table ∧ (stringsForwardK d).seq.pos = d.seq.pos ∧
    (stringsForwardK d).seq.history = d.seq.history ∧ (stringsForwardK d).strings.power = d.strings.power ∧
    (stringsForwardK d).strings.faults = d.strings.faults ∧ (stringsForwardK d).strings.mode = d.strings.mode ∧
    (stringsForwardK d).line.queue = d.line.queue ∧ (stringsForwardK d).line.replySlot = d.line.replySlot ∧
    (stringsForwardK d).line.stuck = d.line.stuck := by
  unfold stringsForwardK captureAndTest
  simp

@[simp] theorem stringsForwardD_frame (d : Device) :
    (stringsForwardD d).tracker = d.tracker ∧ (stringsForwardD d).store = d.store ∧
    (stringsForwardD d).roster = d.roster ∧ (stringsForwardD d).fire = d.fire ∧
    (stringsForwardD d).trainer = d.trainer ∧ (stringsForwardD d).weft = d.weft ∧ (stringsForwardD d).pins = d.pins ∧
    (stringsForwardD d).control.state = d.control.state ∧ (stringsForwardD d).control.role = d.control.role ∧
    (stringsForwardD d).control.number = d.control.number ∧ (stringsForwardD d).control.config = d.control.config ∧
    (stringsForwardD d).control.powered = d.control.powered ∧
    (stringsForwardD d).control.resetPending = d.control.resetPending ∧ (stringsForwardD d).seq.runs = d.seq.runs ∧
    (stringsForwardD d).seq.table = d.seq.table ∧ (stringsForwardD d).seq.pos = d.seq.pos ∧
    (stringsForwardD d).seq.history = d.seq.history ∧ (stringsForwardD d).strings.power = d.strings.power ∧
    (stringsForwardD d).strings.faults = d.strings.faults ∧ (stringsForwardD d).line.queue = d.line.queue ∧
    (stringsForwardD d).line.replySlot = d.line.replySlot ∧ (stringsForwardD d).line.stuck = d.line.stuck := by
  unfold stringsForwardD
  simp

@[simp] theorem stringsForwardW_frame (d : Device) :
    (stringsForwardW d).tracker = d.tracker ∧ (stringsForwardW d).seq = d.seq ∧ (stringsForwardW d).store = d.store ∧
    (stringsForwardW d).line = d.line ∧ (stringsForwardW d).roster = d.roster ∧
    (stringsForwardW d).trainer = d.trainer ∧ (stringsForwardW d).weft = d.weft ∧
    (stringsForwardW d).control = d.control ∧ (stringsForwardW d).pins = d.pins ∧
    (stringsForwardW d).strings.power = d.strings.power ∧ (stringsForwardW d).strings.faults = d.strings.faults ∧
    (stringsForwardW d).strings.mode = d.strings.mode := by
  unfold stringsForwardW
  simp

@[simp] theorem stringsAtAngle_frame (a : Nat) (d : Device) :
    (stringsAtAngle a d).tracker = d.tracker ∧ (stringsAtAngle a d).seq = d.seq ∧
    (stringsAtAngle a d).store = d.store ∧ (stringsAtAngle a d).line = d.line ∧
    (stringsAtAngle a d).roster = d.roster ∧ (stringsAtAngle a d).trainer = d.trainer ∧
    (stringsAtAngle a d).weft = d.weft ∧ (stringsAtAngle a d).control = d.control ∧
    (stringsAtAngle a d).pins = d.pins ∧ (stringsAtAngle a d).strings.power = d.strings.power ∧
    (stringsAtAngle a d).strings.faults = d.strings.faults ∧ (stringsAtAngle a d).strings.mode = d.strings.mode := by
  unfold stringsAtAngle
  simp

@[simp] theorem openForwardPick_frame (d : Device) :
    (openForwardPick d).tracker = d.tracker ∧ (openForwardPick d).store = d.store ∧
    (openForwardPick d).roster = d.roster ∧ (openForwardPick d).fire = d.fire ∧
    (openForwardPick d).trainer = d.trainer ∧ (openForwardPick d).weft = d.weft ∧ (openForwardPick d).pins = d.pins ∧
    (openForwardPick d).control.state = d.control.state ∧ (openForwardPick d).control.role = d.control.role ∧
    (openForwardPick d).control.number = d.control.number ∧ (openForwardPick d).control.config = d.control.config ∧
    (openForwardPick d).control.powered = d.control.powered ∧
    (openForwardPick d).control.resetPending = d.control.resetPending ∧ (openForwardPick d).seq.runs = d.seq.runs ∧
    (openForwardPick d).seq.table = d.seq.table ∧ (openForwardPick d).seq.pos = d.seq.pos ∧
    (openForwardPick d).seq.history = d.seq.history ∧ (openForwardPick d).strings.power = d.strings.power ∧
    (openForwardPick d).strings.faults = d.strings.faults ∧ (openForwardPick d).line.queue = d.line.queue ∧
    (openForwardPick d).line.replySlot = d.line.replySlot ∧ (openForwardPick d).line.stuck = d.line.stuck := by
  unfold openForwardPick
  simp

@[simp] theorem stringsRetracted_frame (d : Device) :
    (stringsRetracted d).tracker = d.tracker ∧ (stringsRetracted d).seq = d.seq ∧
    (stringsRetracted d).store = d.store ∧ (stringsRetracted d).line = d.line ∧
    (stringsRetracted d).roster = d.roster ∧ (stringsRetracted d).fire = d.fire ∧
    (stringsRetracted d).trainer = d.trainer ∧ (stringsRetracted d).weft = d.weft ∧
    (stringsRetracted d).control = d.control ∧ (stringsRetracted d).pins = d.pins ∧
    (stringsRetracted d).strings.power = d.strings.power ∧ (stringsRetracted d).strings.faults = d.strings.faults ∧
    (stringsRetracted d).strings.mode = d.strings.mode := by
  unfold stringsRetracted
  simp

@[simp] theorem openReversePick_frame (d : Device) :
    (openReversePick d).tracker = d.tracker ∧ (openReversePick d).store = d.store ∧
    (openReversePick d).roster = d.roster ∧ (openReversePick d).fire = d.fire ∧
    (openReversePick d).trainer = d.trainer ∧ (openReversePick d).weft = d.weft ∧ (openReversePick d).pins = d.pins ∧
    (openReversePick d).control.state = d.control.state ∧ (openReversePick d).control.role = d.control.role ∧
    (openReversePick d).control.number = d.control.number ∧ (openReversePick d).control.config = d.control.config ∧
    (openReversePick d).control.powered = d.control.powered ∧
    (openReversePick d).control.resetPending = d.control.resetPending ∧ (openReversePick d).seq.runs = d.seq.runs ∧
    (openReversePick d).seq.table = d.seq.table ∧ (openReversePick d).seq.pos = d.seq.pos ∧
    (openReversePick d).seq.history = d.seq.history ∧ (openReversePick d).strings.power = d.strings.power ∧
    (openReversePick d).strings.faults = d.strings.faults ∧ (openReversePick d).line.queue = d.line.queue ∧
    (openReversePick d).line.replySlot = d.line.replySlot ∧ (openReversePick d).line.stuck = d.line.stuck := by
  unfold openReversePick
  simp

@[simp] theorem stringsReverseD_frame (d : Device) :
    (stringsReverseD d).tracker = d.tracker ∧ (stringsReverseD d).seq = d.seq ∧ (stringsReverseD d).store = d.store ∧
    (stringsReverseD d).line = d.line ∧ (stringsReverseD d).roster = d.roster ∧
    (stringsReverseD d).trainer = d.trainer ∧ (stringsReverseD d).weft = d.weft ∧
    (stringsReverseD d).control = d.control ∧ (stringsReverseD d).pins = d.pins ∧
    (stringsReverseD d).strings.power = d.strings.power ∧ (stringsReverseD d).strings.faults = d.strings.faults ∧
    (stringsReverseD d).strings.mode = d.strings.mode := by
  unfold stringsReverseD
  simp

@[simp] theorem stringsReverseK_frame (d : Device) :
    (stringsReverseK d).tracker = d.tracker ∧ (stringsReverseK d).seq = d.seq ∧ (stringsReverseK d).store = d.store ∧
    (stringsReverseK d).line = d.line ∧ (stringsReverseK d).roster = d.roster ∧ (stringsReverseK d).fire = d.fire ∧
    (stringsReverseK d).trainer = d.trainer ∧ (stringsReverseK d).weft = d.weft ∧ (stringsReverseK d).pins = d.pins ∧
    (stringsReverseK d).control.state = d.control.state ∧ (stringsReverseK d).control.role = d.control.role ∧
    (stringsReverseK d).control.number = d.control.number ∧ (stringsReverseK d).control.config = d.control.config ∧
    (stringsReverseK d).control.powered = d.control.powered ∧
    (stringsReverseK d).control.resetPending = d.control.resetPending ∧
    (stringsReverseK d).strings.power = d.strings.power ∧ (stringsReverseK d).strings.faults = d.strings.faults ∧
    (stringsReverseK d).strings.mode = d.strings.mode := by
  unfold stringsReverseK
  simp

@[simp] theorem stringsReverseW_frame (d : Device) :
    (stringsReverseW d).tracker = d.tracker ∧ (stringsReverseW d).seq = d.seq ∧ (stringsReverseW d).store = d.store ∧
    (stringsReverseW d).line = d.line ∧ (stringsReverseW d).roster = d.roster ∧ (stringsReverseW d).fire = d.fire ∧
    (stringsReverseW d).trainer = d.trainer ∧ (stringsReverseW d).weft = d.weft ∧
    (stringsReverseW d).control = d.control ∧ (stringsReverseW d).pins = d.pins ∧
    (stringsReverseW d).strings.power = d.strings.power ∧ (stringsReverseW d).strings.faults = d.strings.faults := by
  unfold stringsReverseW
  simp

@[simp] theorem stringsTurn_frame (d : Device) :
    (stringsTurn d).tracker = d.tracker ∧ (stringsTurn d).seq = d.seq ∧ (stringsTurn d).store = d.store ∧
    (stringsTurn d).line = d.line ∧ (stringsTurn d).roster = d.roster ∧ (stringsTurn d).fire = d.fire ∧
    (stringsTurn d).trainer = d.trainer ∧ (stringsTurn d).weft = d.weft ∧ (stringsTurn d).control = d.control ∧
    (stringsTurn d).pins = d.pins ∧ (stringsTurn d).strings.power = d.strings.power ∧
    (stringsTurn d).strings.faults = d.strings.faults ∧ (stringsTurn d).strings.mode = d.strings.mode := by
  unfold stringsTurn
  (repeat' split) <;> simp

@[simp] theorem nextStep_frame (d : Device) :
    (nextStep d).tracker = d.tracker ∧ (nextStep d).seq = d.seq ∧ (nextStep d).store = d.store ∧
    (nextStep d).line = d.line ∧ (nextStep d).roster = d.roster ∧ (nextStep d).fire = d.fire ∧
    (nextStep d).trainer = d.trainer ∧ (nextStep d).weft = d.weft ∧ (nextStep d).control = d.control ∧
    (nextStep d).pins = d.pins ∧ (nextStep d).strings.power = d.strings.power ∧
    (nextStep d).strings.faults = d.strings.faults ∧ (nextStep d).strings.mode = d.strings.mode := by
  unfold nextStep
  simp

@[simp] theorem openTestPick_frame (w : Nat) (d : Device) :
    (openTestPick w d).tracker = d.tracker ∧ (openTestPick w d).roster = d.roster ∧
    (openTestPick w d).trainer = d.trainer ∧ (openTestPick w d).weft = d.weft ∧ (openTestPick w d).pins = d.pins ∧
    (openTestPick w d).control.state = d.control.state ∧ (openTestPick w d).control.role = d.control.role ∧
    (openTestPick w d).control.number = d.control.number ∧ (openTestPick w d).control.config = d.control.config ∧
    (openTestPick w d).control.powered = d.control.powered ∧
    (openTestPick w d).control.resetPending = d.control.resetPending ∧ (openTestPick w d).store.mem = d.store.mem ∧
    (openTestPick w d).store.written = d.store.written ∧ (openTestPick w d).seq.runs = d.seq.runs ∧
    (openTestPick w d).seq.table = d.seq.table ∧ (openTestPick w d).seq.pos = d.seq.pos ∧
    (openTestPick w d).seq.history = d.seq.history ∧ (openTestPick w d).strings.power = d.strings.power ∧
    (openTestPick w d).line.queue = d.line.queue ∧ (openTestPick w d).line.replySlot = d.line.replySlot ∧
    (openTestPick w d).line.stuck = d.line.stuck := by
  unfold openTestPick
  simp only []
  (repeat' split) <;> simp

@[simp] theorem stringsLeave_frame (d : Device) :
    (stringsLeave d).tracker = d.tracker ∧ (stringsLeave d).seq = d.seq ∧ (stringsLeave d).store = d.store ∧
    (stringsLeave d).line = d.line ∧ (stringsLeave d).roster = d.roster ∧ (stringsLeave d).fire = d.fire ∧
    (stringsLeave d).trainer = d.trainer ∧ (stringsLeave d).weft = d.weft ∧ (stringsLeave d).control = d.control ∧
    (stringsLeave d).pins = d.pins ∧ (stringsLeave d).strings.power = d.strings.power ∧
    (stringsLeave d).strings.faults = d.strings.faults := by
  unfold stringsLeave
  simp

@[simp] theorem stepFires_frame (d : Device) :
    (stepFires d).tracker = d.tracker ∧ (stepFires d).seq = d.seq ∧ (stepFires d).store = d.store ∧
    (stepFires d).line = d.line ∧ (stepFires d).roster = d.roster ∧ (stepFires d).trainer = d.trainer ∧
    (stepFires d).weft = d.weft ∧ (stepFires d).control = d.control ∧ (stepFires d).pins = d.pins ∧
    (stepFires d).strings.power = d.strings.power ∧ (stepFires d).strings.faults = d.strings.faults ∧
    (stepFires d).strings.mode = d.strings.mode := by
  unfold stepFires
  (repeat' split) <;> simp

@[simp] theorem inrushEnds_frame (i : Nat) (d : Device) :
    (inrushEnds i d).tracker = d.tracker ∧ (inrushEnds i d).seq = d.seq ∧ (inrushEnds i d).store = d.store ∧
    (inrushEnds i d).line = d.line ∧ (inrushEnds i d).roster = d.roster ∧ (inrushEnds i d).fire = d.fire ∧
    (inrushEnds i d).trainer = d.trainer ∧ (inrushEnds i d).weft = d.weft ∧ (inrushEnds i d).control = d.control ∧
    (inrushEnds i d).pins = d.pins ∧ (inrushEnds i d).strings.power = d.strings.power ∧
    (inrushEnds i d).strings.faults = d.strings.faults ∧ (inrushEnds i d).strings.mode = d.strings.mode := by
  unfold inrushEnds
  simp

@[simp] theorem configureStrings_frame (latency : Nat) (d : Device) :
    (configureStrings latency d).tracker = d.tracker ∧ (configureStrings latency d).seq = d.seq ∧
    (configureStrings latency d).store = d.store ∧ (configureStrings latency d).line = d.line ∧
    (configureStrings latency d).roster = d.roster ∧ (configureStrings latency d).fire = d.fire ∧
    (configureStrings latency d).trainer = d.trainer ∧ (configureStrings latency d).weft = d.weft ∧
    (configureStrings latency d).control = d.control ∧ (configureStrings latency d).pins = d.pins ∧
    (configureStrings latency d).strings.power = d.strings.power ∧
    (configureStrings latency d).strings.faults = d.strings.faults ∧
    (configureStrings latency d).strings.mode = d.strings.mode := by
  unfold configureStrings
  simp

@[simp] theorem computeStrings_frame (c : Configuration) (held : Bool) (d : Device) :
    (computeStrings c held d).tracker = d.tracker ∧ (computeStrings c held d).seq = d.seq ∧
    (computeStrings c held d).store = d.store ∧ (computeStrings c held d).line = d.line ∧
    (computeStrings c held d).roster = d.roster ∧ (computeStrings c held d).trainer = d.trainer ∧
    (computeStrings c held d).weft = d.weft ∧ (computeStrings c held d).pins = d.pins ∧
    (computeStrings c held d).control.state = d.control.state ∧
    (computeStrings c held d).control.role = d.control.role ∧
    (computeStrings c held d).control.number = d.control.number ∧
    (computeStrings c held d).control.config = d.control.config ∧
    (computeStrings c held d).control.powered = d.control.powered ∧
    (computeStrings c held d).control.resetPending = d.control.resetPending ∧
    (computeStrings c held d).strings.power = d.strings.power ∧
    (computeStrings c held d).strings.faults = d.strings.faults ∧
    (computeStrings c held d).strings.mode = d.strings.mode := by
  unfold computeStrings
  simp

@[simp] theorem firePassed_frame (c : Configuration) (d : Device) :
    (firePassed c d).tracker = d.tracker ∧ (firePassed c d).seq = d.seq ∧ (firePassed c d).store = d.store ∧
    (firePassed c d).line = d.line ∧ (firePassed c d).roster = d.roster ∧ (firePassed c d).trainer = d.trainer ∧
    (firePassed c d).weft = d.weft ∧ (firePassed c d).control = d.control ∧ (firePassed c d).pins = d.pins ∧
    (firePassed c d).strings.power = d.strings.power ∧ (firePassed c d).strings.faults = d.strings.faults ∧
    (firePassed c d).strings.mode = d.strings.mode := by
  unfold firePassed
  simp

@[simp] theorem recompute_frame (c : Configuration) (d : Device) :
    (recompute c d).tracker = d.tracker ∧ (recompute c d).seq = d.seq ∧ (recompute c d).store = d.store ∧
    (recompute c d).line = d.line ∧ (recompute c d).roster = d.roster ∧ (recompute c d).trainer = d.trainer ∧
    (recompute c d).weft = d.weft ∧ (recompute c d).pins = d.pins ∧ (recompute c d).control.state = d.control.state ∧
    (recompute c d).control.role = d.control.role ∧ (recompute c d).control.number = d.control.number ∧
    (recompute c d).control.config = d.control.config ∧ (recompute c d).control.powered = d.control.powered ∧
    (recompute c d).control.resetPending = d.control.resetPending ∧ (recompute c d).strings.power = d.strings.power ∧
    (recompute c d).strings.faults = d.strings.faults ∧ (recompute c d).strings.mode = d.strings.mode := by
  unfold recompute
  simp

@[simp] theorem takeWaves_frame (c : Configuration) (s : Snapshot) (d : Device) :
    (takeWaves c s d).tracker = d.tracker ∧ (takeWaves c s d).seq = d.seq ∧ (takeWaves c s d).store = d.store ∧
    (takeWaves c s d).line = d.line ∧ (takeWaves c s d).roster = d.roster ∧ (takeWaves c s d).strings = d.strings ∧
    (takeWaves c s d).trainer = d.trainer ∧ (takeWaves c s d).weft = d.weft ∧ (takeWaves c s d).control = d.control ∧
    (takeWaves c s d).pins = d.pins := by
  unfold takeWaves
  simp

@[simp] theorem clearFired_frame (d : Device) :
    (clearFired d).tracker = d.tracker ∧ (clearFired d).seq = d.seq ∧ (clearFired d).store = d.store ∧
    (clearFired d).line = d.line ∧ (clearFired d).roster = d.roster ∧ (clearFired d).strings = d.strings ∧
    (clearFired d).trainer = d.trainer ∧ (clearFired d).weft = d.weft ∧ (clearFired d).control = d.control ∧
    (clearFired d).pins = d.pins := by
  unfold clearFired
  simp

@[simp] theorem fireClose_frame (s : Snapshot) (d : Device) :
    (fireClose s d).tracker = d.tracker ∧ (fireClose s d).seq = d.seq ∧ (fireClose s d).store = d.store ∧
    (fireClose s d).line = d.line ∧ (fireClose s d).roster = d.roster ∧ (fireClose s d).trainer = d.trainer ∧
    (fireClose s d).weft = d.weft ∧ (fireClose s d).pins = d.pins ∧ (fireClose s d).control.state = d.control.state ∧
    (fireClose s d).control.role = d.control.role ∧ (fireClose s d).control.number = d.control.number ∧
    (fireClose s d).control.config = d.control.config ∧ (fireClose s d).control.powered = d.control.powered ∧
    (fireClose s d).control.resetPending = d.control.resetPending ∧ (fireClose s d).strings.power = d.strings.power ∧
    (fireClose s d).strings.faults = d.strings.faults ∧ (fireClose s d).strings.mode = d.strings.mode := by
  unfold fireClose
  (repeat' split) <;> simp

@[simp] theorem enterHeld_frame (d : Device) :
    (enterHeld d).tracker = d.tracker ∧ (enterHeld d).seq = d.seq ∧ (enterHeld d).store = d.store ∧
    (enterHeld d).line = d.line ∧ (enterHeld d).roster = d.roster ∧ (enterHeld d).trainer = d.trainer ∧
    (enterHeld d).weft = d.weft ∧ (enterHeld d).pins = d.pins ∧ (enterHeld d).control.state = d.control.state ∧
    (enterHeld d).control.role = d.control.role ∧ (enterHeld d).control.number = d.control.number ∧
    (enterHeld d).control.config = d.control.config ∧ (enterHeld d).control.powered = d.control.powered ∧
    (enterHeld d).control.resetPending = d.control.resetPending ∧ (enterHeld d).strings.power = d.strings.power ∧
    (enterHeld d).strings.faults = d.strings.faults ∧ (enterHeld d).strings.mode = d.strings.mode := by
  unfold enterHeld
  (repeat' split) <;> simp

@[simp] theorem fireTurn_frame (d : Device) :
    (fireTurn d).tracker = d.tracker ∧ (fireTurn d).seq = d.seq ∧ (fireTurn d).store = d.store ∧
    (fireTurn d).line = d.line ∧ (fireTurn d).roster = d.roster ∧ (fireTurn d).trainer = d.trainer ∧
    (fireTurn d).weft = d.weft ∧ (fireTurn d).pins = d.pins ∧ (fireTurn d).control.state = d.control.state ∧
    (fireTurn d).control.role = d.control.role ∧ (fireTurn d).control.number = d.control.number ∧
    (fireTurn d).control.config = d.control.config ∧ (fireTurn d).control.powered = d.control.powered ∧
    (fireTurn d).control.resetPending = d.control.resetPending ∧ (fireTurn d).strings.power = d.strings.power ∧
    (fireTurn d).strings.faults = d.strings.faults ∧ (fireTurn d).strings.mode = d.strings.mode := by
  unfold fireTurn
  (repeat' split) <;> simp

@[simp] theorem fireSpan_frame (s : Nat) (d : Device) :
    (fireSpan s d).tracker = d.tracker ∧ (fireSpan s d).seq = d.seq ∧ (fireSpan s d).store = d.store ∧
    (fireSpan s d).line = d.line ∧ (fireSpan s d).roster = d.roster ∧ (fireSpan s d).trainer = d.trainer ∧
    (fireSpan s d).weft = d.weft ∧ (fireSpan s d).pins = d.pins ∧ (fireSpan s d).control.state = d.control.state ∧
    (fireSpan s d).control.role = d.control.role ∧ (fireSpan s d).control.number = d.control.number ∧
    (fireSpan s d).control.config = d.control.config ∧ (fireSpan s d).control.powered = d.control.powered ∧
    (fireSpan s d).control.resetPending = d.control.resetPending ∧ (fireSpan s d).strings.power = d.strings.power ∧
    (fireSpan s d).strings.faults = d.strings.faults ∧ (fireSpan s d).strings.mode = d.strings.mode := by
  unfold fireSpan
  simp only []
  (repeat' split) <;> simp

@[simp] theorem fireLeavesFast_frame (d : Device) :
    (fireLeavesFast d).tracker = d.tracker ∧ (fireLeavesFast d).seq = d.seq ∧ (fireLeavesFast d).store = d.store ∧
    (fireLeavesFast d).line = d.line ∧ (fireLeavesFast d).roster = d.roster ∧
    (fireLeavesFast d).trainer = d.trainer ∧ (fireLeavesFast d).weft = d.weft ∧ (fireLeavesFast d).pins = d.pins ∧
    (fireLeavesFast d).control.state = d.control.state ∧ (fireLeavesFast d).control.role = d.control.role ∧
    (fireLeavesFast d).control.number = d.control.number ∧ (fireLeavesFast d).control.config = d.control.config ∧
    (fireLeavesFast d).control.powered = d.control.powered ∧
    (fireLeavesFast d).control.resetPending = d.control.resetPending ∧
    (fireLeavesFast d).strings.power = d.strings.power ∧ (fireLeavesFast d).strings.faults = d.strings.faults ∧
    (fireLeavesFast d).strings.mode = d.strings.mode := by
  unfold fireLeavesFast
  (repeat' split) <;> simp

@[simp] theorem fireForwardK_frame (d : Device) :
    (fireForwardK d).tracker = d.tracker ∧ (fireForwardK d).seq = d.seq ∧ (fireForwardK d).store = d.store ∧
    (fireForwardK d).line = d.line ∧ (fireForwardK d).roster = d.roster ∧ (fireForwardK d).strings = d.strings ∧
    (fireForwardK d).trainer = d.trainer ∧ (fireForwardK d).weft = d.weft ∧ (fireForwardK d).control = d.control ∧
    (fireForwardK d).pins = d.pins := by
  unfold fireForwardK
  (repeat' split) <;> simp

@[simp] theorem fireIdle_frame (d : Device) :
    (fireIdle d).tracker = d.tracker ∧ (fireIdle d).seq = d.seq ∧ (fireIdle d).store = d.store ∧
    (fireIdle d).line = d.line ∧ (fireIdle d).roster = d.roster ∧ (fireIdle d).strings = d.strings ∧
    (fireIdle d).trainer = d.trainer ∧ (fireIdle d).weft = d.weft ∧ (fireIdle d).control = d.control ∧
    (fireIdle d).pins = d.pins := by
  unfold fireIdle
  simp

@[simp] theorem fireLeaveWeave_frame (d : Device) :
    (fireLeaveWeave d).tracker = d.tracker ∧ (fireLeaveWeave d).seq = d.seq ∧ (fireLeaveWeave d).store = d.store ∧
    (fireLeaveWeave d).line = d.line ∧ (fireLeaveWeave d).roster = d.roster ∧
    (fireLeaveWeave d).strings = d.strings ∧ (fireLeaveWeave d).trainer = d.trainer ∧
    (fireLeaveWeave d).weft = d.weft ∧ (fireLeaveWeave d).control = d.control ∧ (fireLeaveWeave d).pins = d.pins := by
  unfold fireLeaveWeave
  (repeat' split) <;> simp

@[simp] theorem turnPick_frame (d : Device) :
    (turnPick d).tracker = d.tracker ∧ (turnPick d).seq = d.seq ∧ (turnPick d).store = d.store ∧
    (turnPick d).line = d.line ∧ (turnPick d).roster = d.roster ∧ (turnPick d).trainer = d.trainer ∧
    (turnPick d).weft = d.weft ∧ (turnPick d).pins = d.pins ∧ (turnPick d).control.state = d.control.state ∧
    (turnPick d).control.role = d.control.role ∧ (turnPick d).control.number = d.control.number ∧
    (turnPick d).control.config = d.control.config ∧ (turnPick d).control.powered = d.control.powered ∧
    (turnPick d).control.resetPending = d.control.resetPending ∧ (turnPick d).strings.power = d.strings.power ∧
    (turnPick d).strings.faults = d.strings.faults ∧ (turnPick d).strings.mode = d.strings.mode := by
  unfold turnPick
  simp

@[simp] theorem closeGuard_frame (d : Device) :
    (closeGuard d).tracker = d.tracker ∧ (closeGuard d).store = d.store ∧ (closeGuard d).line = d.line ∧
    (closeGuard d).roster = d.roster ∧ (closeGuard d).fire = d.fire ∧ (closeGuard d).strings = d.strings ∧
    (closeGuard d).trainer = d.trainer ∧ (closeGuard d).weft = d.weft ∧ (closeGuard d).control = d.control ∧
    (closeGuard d).pins = d.pins ∧ (closeGuard d).seq.runs = d.seq.runs ∧ (closeGuard d).seq.table = d.seq.table ∧
    (closeGuard d).seq.pos = d.seq.pos ∧ (closeGuard d).seq.history = d.seq.history := by
  unfold closeGuard
  simp

@[simp] theorem crossPosition_frame (d : Device) :
    (crossPosition d).tracker = d.tracker ∧ (crossPosition d).store = d.store ∧ (crossPosition d).line = d.line ∧
    (crossPosition d).roster = d.roster ∧ (crossPosition d).fire = d.fire ∧ (crossPosition d).strings = d.strings ∧
    (crossPosition d).trainer = d.trainer ∧ (crossPosition d).weft = d.weft ∧ (crossPosition d).control = d.control ∧
    (crossPosition d).pins = d.pins ∧ (crossPosition d).seq.runs = d.seq.runs ∧
    (crossPosition d).seq.table = d.seq.table := by
  unfold crossPosition
  simp

@[simp] theorem openWindow_frame (d : Device) :
    (openWindow d).tracker = d.tracker ∧ (openWindow d).seq = d.seq ∧ (openWindow d).store = d.store ∧
    (openWindow d).line = d.line ∧ (openWindow d).fire = d.fire ∧ (openWindow d).strings = d.strings ∧
    (openWindow d).trainer = d.trainer ∧ (openWindow d).weft = d.weft ∧ (openWindow d).control = d.control ∧
    (openWindow d).pins = d.pins := by
  unfold openWindow
  simp

@[simp] theorem closeWindow_frame (d : Device) :
    (closeWindow d).tracker = d.tracker ∧ (closeWindow d).seq = d.seq ∧ (closeWindow d).store = d.store ∧
    (closeWindow d).line = d.line ∧ (closeWindow d).fire = d.fire ∧ (closeWindow d).strings = d.strings ∧
    (closeWindow d).trainer = d.trainer ∧ (closeWindow d).weft = d.weft ∧ (closeWindow d).control = d.control ∧
    (closeWindow d).pins = d.pins ∧ (closeWindow d).roster.entries = d.roster.entries := by
  unfold closeWindow
  simp

@[simp] theorem stuckVoid_frame (d : Device) :
    (stuckVoid d).tracker = d.tracker ∧ (stuckVoid d).store = d.store ∧ (stuckVoid d).line = d.line ∧
    (stuckVoid d).roster = d.roster ∧ (stuckVoid d).fire = d.fire ∧ (stuckVoid d).strings = d.strings ∧
    (stuckVoid d).trainer = d.trainer ∧ (stuckVoid d).weft = d.weft ∧ (stuckVoid d).control = d.control ∧
    (stuckVoid d).pins = d.pins ∧ (stuckVoid d).seq.runs = d.seq.runs ∧ (stuckVoid d).seq.table = d.seq.table ∧
    (stuckVoid d).seq.pos = d.seq.pos ∧ (stuckVoid d).seq.history = d.seq.history := by
  unfold stuckVoid
  simp

@[simp] theorem seqForwardB_frame (d : Device) :
    (seqForwardB d).tracker = d.tracker ∧ (seqForwardB d).fire = d.fire ∧ (seqForwardB d).strings = d.strings ∧
    (seqForwardB d).trainer = d.trainer ∧ (seqForwardB d).pins = d.pins ∧
    (seqForwardB d).control.state = d.control.state ∧ (seqForwardB d).control.role = d.control.role ∧
    (seqForwardB d).control.number = d.control.number ∧ (seqForwardB d).control.config = d.control.config ∧
    (seqForwardB d).control.powered = d.control.powered ∧
    (seqForwardB d).control.resetPending = d.control.resetPending ∧ (seqForwardB d).store.mem = d.store.mem ∧
    (seqForwardB d).store.written = d.store.written ∧ (seqForwardB d).seq.runs = d.seq.runs ∧
    (seqForwardB d).seq.table = d.seq.table ∧ (seqForwardB d).line.queue = d.line.queue ∧
    (seqForwardB d).line.replySlot = d.line.replySlot ∧ (seqForwardB d).line.stuck = d.line.stuck ∧
    (seqForwardB d).weft.map = d.weft.map := by
  unfold seqForwardB
  simp

@[simp] theorem reversePop_frame (e : HistoryEntry) (rest : List HistoryEntry) (d : Device) :
    (reversePop e rest d).tracker = d.tracker ∧ (reversePop e rest d).line = d.line ∧
    (reversePop e rest d).roster = d.roster ∧ (reversePop e rest d).fire = d.fire ∧
    (reversePop e rest d).strings = d.strings ∧ (reversePop e rest d).trainer = d.trainer ∧
    (reversePop e rest d).pins = d.pins ∧ (reversePop e rest d).control.state = d.control.state ∧
    (reversePop e rest d).control.role = d.control.role ∧ (reversePop e rest d).control.number = d.control.number ∧
    (reversePop e rest d).control.config = d.control.config ∧
    (reversePop e rest d).control.powered = d.control.powered ∧
    (reversePop e rest d).control.resetPending = d.control.resetPending ∧
    (reversePop e rest d).store.mem = d.store.mem ∧ (reversePop e rest d).store.written = d.store.written ∧
    (reversePop e rest d).seq.runs = d.seq.runs ∧ (reversePop e rest d).seq.table = d.seq.table ∧
    (reversePop e rest d).weft.map = d.weft.map := by
  unfold reversePop
  simp

@[simp] theorem reverseExhausted_frame (d : Device) :
    (reverseExhausted d).tracker = d.tracker ∧ (reverseExhausted d).roster = d.roster ∧
    (reverseExhausted d).fire = d.fire ∧ (reverseExhausted d).strings = d.strings ∧
    (reverseExhausted d).trainer = d.trainer ∧ (reverseExhausted d).pins = d.pins ∧
    (reverseExhausted d).control.state = d.control.state ∧ (reverseExhausted d).control.role = d.control.role ∧
    (reverseExhausted d).control.number = d.control.number ∧ (reverseExhausted d).control.config = d.control.config ∧
    (reverseExhausted d).control.powered = d.control.powered ∧
    (reverseExhausted d).control.resetPending = d.control.resetPending ∧
    (reverseExhausted d).store.mem = d.store.mem ∧ (reverseExhausted d).store.written = d.store.written ∧
    (reverseExhausted d).seq.runs = d.seq.runs ∧ (reverseExhausted d).seq.table = d.seq.table ∧
    (reverseExhausted d).seq.pos = d.seq.pos ∧ (reverseExhausted d).seq.history = d.seq.history ∧
    (reverseExhausted d).line.queue = d.line.queue ∧ (reverseExhausted d).line.replySlot = d.line.replySlot ∧
    (reverseExhausted d).line.stuck = d.line.stuck ∧ (reverseExhausted d).weft.map = d.weft.map := by
  unfold reverseExhausted
  simp

@[simp] theorem seqReverseB_frame (d : Device) :
    (seqReverseB d).tracker = d.tracker ∧ (seqReverseB d).fire = d.fire ∧ (seqReverseB d).strings = d.strings ∧
    (seqReverseB d).trainer = d.trainer ∧ (seqReverseB d).pins = d.pins ∧
    (seqReverseB d).control.state = d.control.state ∧ (seqReverseB d).control.role = d.control.role ∧
    (seqReverseB d).control.number = d.control.number ∧ (seqReverseB d).control.config = d.control.config ∧
    (seqReverseB d).control.powered = d.control.powered ∧
    (seqReverseB d).control.resetPending = d.control.resetPending ∧ (seqReverseB d).store.mem = d.store.mem ∧
    (seqReverseB d).store.written = d.store.written ∧ (seqReverseB d).seq.runs = d.seq.runs ∧
    (seqReverseB d).seq.table = d.seq.table ∧ (seqReverseB d).line.queue = d.line.queue ∧
    (seqReverseB d).line.replySlot = d.line.replySlot ∧ (seqReverseB d).line.stuck = d.line.stuck ∧
    (seqReverseB d).weft.map = d.weft.map ∧ (seqReverseB d).roster.entries = d.roster.entries := by
  unfold seqReverseB
  (repeat' split) <;> simp

@[simp] theorem retract_frame (e : HistoryEntry) (rest : List HistoryEntry) (d : Device) :
    (retract e rest d).tracker = d.tracker ∧ (retract e rest d).roster = d.roster ∧
    (retract e rest d).fire = d.fire ∧ (retract e rest d).trainer = d.trainer ∧ (retract e rest d).pins = d.pins ∧
    (retract e rest d).control.state = d.control.state ∧ (retract e rest d).control.role = d.control.role ∧
    (retract e rest d).control.number = d.control.number ∧ (retract e rest d).control.config = d.control.config ∧
    (retract e rest d).control.powered = d.control.powered ∧
    (retract e rest d).control.resetPending = d.control.resetPending ∧ (retract e rest d).store.mem = d.store.mem ∧
    (retract e rest d).store.written = d.store.written ∧ (retract e rest d).seq.runs = d.seq.runs ∧
    (retract e rest d).seq.table = d.seq.table ∧ (retract e rest d).strings.power = d.strings.power ∧
    (retract e rest d).strings.faults = d.strings.faults ∧ (retract e rest d).strings.mode = d.strings.mode ∧
    (retract e rest d).line.queue = d.line.queue ∧ (retract e rest d).line.replySlot = d.line.replySlot ∧
    (retract e rest d).line.stuck = d.line.stuck ∧ (retract e rest d).weft.map = d.weft.map := by
  unfold retract
  simp

@[simp] theorem lineHold_frame (d : Device) :
    (lineHold d).tracker = d.tracker ∧ (lineHold d).roster = d.roster ∧ (lineHold d).fire = d.fire ∧
    (lineHold d).trainer = d.trainer ∧ (lineHold d).pins = d.pins ∧ (lineHold d).control.state = d.control.state ∧
    (lineHold d).control.role = d.control.role ∧ (lineHold d).control.number = d.control.number ∧
    (lineHold d).control.config = d.control.config ∧ (lineHold d).control.powered = d.control.powered ∧
    (lineHold d).control.resetPending = d.control.resetPending ∧ (lineHold d).store.mem = d.store.mem ∧
    (lineHold d).store.written = d.store.written ∧ (lineHold d).seq.runs = d.seq.runs ∧
    (lineHold d).seq.table = d.seq.table ∧ (lineHold d).strings.power = d.strings.power ∧
    (lineHold d).strings.faults = d.strings.faults ∧ (lineHold d).strings.mode = d.strings.mode ∧
    (lineHold d).line.queue = d.line.queue ∧ (lineHold d).line.replySlot = d.line.replySlot ∧
    (lineHold d).line.stuck = d.line.stuck ∧ (lineHold d).weft.map = d.weft.map := by
  unfold lineHold
  (repeat' split) <;> simp

@[simp] theorem adoptPosition_frame (p : Position) (d : Device) :
    (adoptPosition p d).tracker = d.tracker ∧ (adoptPosition p d).store = d.store ∧
    (adoptPosition p d).line = d.line ∧ (adoptPosition p d).roster = d.roster ∧ (adoptPosition p d).fire = d.fire ∧
    (adoptPosition p d).strings = d.strings ∧ (adoptPosition p d).trainer = d.trainer ∧
    (adoptPosition p d).weft = d.weft ∧ (adoptPosition p d).pins = d.pins ∧
    (adoptPosition p d).control.state = d.control.state ∧ (adoptPosition p d).control.role = d.control.role ∧
    (adoptPosition p d).control.number = d.control.number ∧ (adoptPosition p d).control.config = d.control.config ∧
    (adoptPosition p d).control.powered = d.control.powered ∧
    (adoptPosition p d).control.resetPending = d.control.resetPending ∧ (adoptPosition p d).seq.runs = d.seq.runs ∧
    (adoptPosition p d).seq.table = d.seq.table := by
  unfold adoptPosition
  simp

@[simp] theorem setPosition_frame (p : Position) (d : Device) :
    (setPosition p d).tracker = d.tracker ∧ (setPosition p d).store = d.store ∧ (setPosition p d).line = d.line ∧
    (setPosition p d).roster = d.roster ∧ (setPosition p d).fire = d.fire ∧ (setPosition p d).strings = d.strings ∧
    (setPosition p d).trainer = d.trainer ∧ (setPosition p d).weft = d.weft ∧ (setPosition p d).control = d.control ∧
    (setPosition p d).pins = d.pins ∧ (setPosition p d).seq.runs = d.seq.runs ∧
    (setPosition p d).seq.table = d.seq.table := by
  unfold setPosition
  simp

@[simp] theorem takeBeacon_frame (e : RosterEntry) (d : Device) :
    (takeBeacon e d).tracker = d.tracker ∧ (takeBeacon e d).seq = d.seq ∧ (takeBeacon e d).store = d.store ∧
    (takeBeacon e d).line = d.line ∧ (takeBeacon e d).fire = d.fire ∧ (takeBeacon e d).strings = d.strings ∧
    (takeBeacon e d).trainer = d.trainer ∧ (takeBeacon e d).weft = d.weft ∧ (takeBeacon e d).pins = d.pins ∧
    (takeBeacon e d).control.state = d.control.state ∧ (takeBeacon e d).control.role = d.control.role ∧
    (takeBeacon e d).control.number = d.control.number ∧ (takeBeacon e d).control.config = d.control.config ∧
    (takeBeacon e d).control.powered = d.control.powered ∧
    (takeBeacon e d).control.resetPending = d.control.resetPending := by
  unfold takeBeacon
  simp

@[simp] theorem countMisses_frame (d : Device) :
    (countMisses d).tracker = d.tracker ∧ (countMisses d).seq = d.seq ∧ (countMisses d).store = d.store ∧
    (countMisses d).line = d.line ∧ (countMisses d).fire = d.fire ∧ (countMisses d).strings = d.strings ∧
    (countMisses d).trainer = d.trainer ∧ (countMisses d).weft = d.weft ∧ (countMisses d).control = d.control ∧
    (countMisses d).pins = d.pins := by
  unfold countMisses
  simp

@[simp] theorem setMinority_frame (b : Bool) (d : Device) :
    (setMinority b d).tracker = d.tracker ∧ (setMinority b d).seq = d.seq ∧ (setMinority b d).store = d.store ∧
    (setMinority b d).line = d.line ∧ (setMinority b d).fire = d.fire ∧ (setMinority b d).strings = d.strings ∧
    (setMinority b d).trainer = d.trainer ∧ (setMinority b d).weft = d.weft ∧ (setMinority b d).control = d.control ∧
    (setMinority b d).pins = d.pins ∧ (setMinority b d).roster.entries = d.roster.entries := by
  unfold setMinority
  simp

@[simp] theorem realign_frame (p : BeaconPos) (d : Device) :
    (realign p d).tracker = d.tracker ∧ (realign p d).store = d.store ∧ (realign p d).fire = d.fire ∧
    (realign p d).strings = d.strings ∧ (realign p d).trainer = d.trainer ∧ (realign p d).weft = d.weft ∧
    (realign p d).pins = d.pins ∧ (realign p d).control.state = d.control.state ∧
    (realign p d).control.role = d.control.role ∧ (realign p d).control.number = d.control.number ∧
    (realign p d).control.config = d.control.config ∧ (realign p d).control.powered = d.control.powered ∧
    (realign p d).control.resetPending = d.control.resetPending ∧ (realign p d).seq.runs = d.seq.runs ∧
    (realign p d).seq.table = d.seq.table ∧ (realign p d).line.queue = d.line.queue ∧
    (realign p d).line.replySlot = d.line.replySlot ∧ (realign p d).line.stuck = d.line.stuck ∧
    (realign p d).roster.entries = d.roster.entries := by
  unfold realign
  simp only []
  (repeat' split) <;> simp

@[simp] theorem judgeAgreement_frame (d : Device) :
    (judgeAgreement d).tracker = d.tracker ∧ (judgeAgreement d).store = d.store ∧ (judgeAgreement d).fire = d.fire ∧
    (judgeAgreement d).strings = d.strings ∧ (judgeAgreement d).trainer = d.trainer ∧
    (judgeAgreement d).weft = d.weft ∧ (judgeAgreement d).pins = d.pins ∧
    (judgeAgreement d).control.state = d.control.state ∧ (judgeAgreement d).control.role = d.control.role ∧
    (judgeAgreement d).control.number = d.control.number ∧ (judgeAgreement d).control.config = d.control.config ∧
    (judgeAgreement d).control.powered = d.control.powered ∧
    (judgeAgreement d).control.resetPending = d.control.resetPending ∧ (judgeAgreement d).seq.runs = d.seq.runs ∧
    (judgeAgreement d).seq.table = d.seq.table ∧ (judgeAgreement d).line.queue = d.line.queue ∧
    (judgeAgreement d).line.replySlot = d.line.replySlot ∧ (judgeAgreement d).line.stuck = d.line.stuck ∧
    (judgeAgreement d).roster.entries = d.roster.entries := by
  unfold judgeAgreement
  (repeat' split) <;> simp

@[simp] theorem checkWeftCode_frame (d : Device) :
    (checkWeftCode d).tracker = d.tracker ∧ (checkWeftCode d).store = d.store ∧ (checkWeftCode d).roster = d.roster ∧
    (checkWeftCode d).fire = d.fire ∧ (checkWeftCode d).strings = d.strings ∧ (checkWeftCode d).trainer = d.trainer ∧
    (checkWeftCode d).weft = d.weft ∧ (checkWeftCode d).pins = d.pins ∧
    (checkWeftCode d).control.state = d.control.state ∧ (checkWeftCode d).control.role = d.control.role ∧
    (checkWeftCode d).control.number = d.control.number ∧ (checkWeftCode d).control.config = d.control.config ∧
    (checkWeftCode d).control.powered = d.control.powered ∧
    (checkWeftCode d).control.resetPending = d.control.resetPending ∧ (checkWeftCode d).seq.runs = d.seq.runs ∧
    (checkWeftCode d).seq.table = d.seq.table ∧ (checkWeftCode d).seq.pos = d.seq.pos ∧
    (checkWeftCode d).seq.history = d.seq.history ∧ (checkWeftCode d).line.queue = d.line.queue ∧
    (checkWeftCode d).line.replySlot = d.line.replySlot ∧ (checkWeftCode d).line.stuck = d.line.stuck := by
  unfold checkWeftCode
  (repeat' split) <;> simp

@[simp] theorem closeSection_frame (d : Device) :
    (closeSection d).tracker = d.tracker ∧ (closeSection d).store = d.store ∧ (closeSection d).trainer = d.trainer ∧
    (closeSection d).weft = d.weft ∧ (closeSection d).pins = d.pins ∧
    (closeSection d).control.state = d.control.state ∧ (closeSection d).control.role = d.control.role ∧
    (closeSection d).control.number = d.control.number ∧ (closeSection d).control.config = d.control.config ∧
    (closeSection d).control.powered = d.control.powered ∧
    (closeSection d).control.resetPending = d.control.resetPending ∧ (closeSection d).seq.runs = d.seq.runs ∧
    (closeSection d).seq.table = d.seq.table ∧ (closeSection d).strings.power = d.strings.power ∧
    (closeSection d).strings.faults = d.strings.faults ∧ (closeSection d).strings.mode = d.strings.mode ∧
    (closeSection d).line.queue = d.line.queue ∧ (closeSection d).line.replySlot = d.line.replySlot ∧
    (closeSection d).line.stuck = d.line.stuck := by
  unfold closeSection
  simp

@[simp] theorem closeWeft_frame (d : Device) :
    (closeWeft d).tracker = d.tracker ∧ (closeWeft d).store = d.store ∧ (closeWeft d).fire = d.fire ∧
    (closeWeft d).strings = d.strings ∧ (closeWeft d).trainer = d.trainer ∧ (closeWeft d).weft = d.weft ∧
    (closeWeft d).pins = d.pins ∧ (closeWeft d).control.state = d.control.state ∧
    (closeWeft d).control.role = d.control.role ∧ (closeWeft d).control.number = d.control.number ∧
    (closeWeft d).control.config = d.control.config ∧ (closeWeft d).control.powered = d.control.powered ∧
    (closeWeft d).control.resetPending = d.control.resetPending ∧ (closeWeft d).seq.runs = d.seq.runs ∧
    (closeWeft d).seq.table = d.seq.table ∧ (closeWeft d).line.queue = d.line.queue ∧
    (closeWeft d).line.replySlot = d.line.replySlot ∧ (closeWeft d).line.stuck = d.line.stuck := by
  unfold closeWeft
  simp

@[simp] theorem rosterClose_frame (d : Device) :
    (rosterClose d).tracker = d.tracker ∧ (rosterClose d).store = d.store ∧ (rosterClose d).trainer = d.trainer ∧
    (rosterClose d).weft = d.weft ∧ (rosterClose d).pins = d.pins ∧ (rosterClose d).control.state = d.control.state ∧
    (rosterClose d).control.role = d.control.role ∧ (rosterClose d).control.number = d.control.number ∧
    (rosterClose d).control.config = d.control.config ∧ (rosterClose d).control.powered = d.control.powered ∧
    (rosterClose d).control.resetPending = d.control.resetPending ∧ (rosterClose d).seq.runs = d.seq.runs ∧
    (rosterClose d).seq.table = d.seq.table ∧ (rosterClose d).strings.power = d.strings.power ∧
    (rosterClose d).strings.faults = d.strings.faults ∧ (rosterClose d).strings.mode = d.strings.mode ∧
    (rosterClose d).line.queue = d.line.queue ∧ (rosterClose d).line.replySlot = d.line.replySlot ∧
    (rosterClose d).line.stuck = d.line.stuck := by
  unfold rosterClose
  simp only []
  (repeat' split) <;> simp

@[simp] theorem fillResult_frame (r : PickResult) (d : Device) :
    (fillResult r d).tracker = d.tracker ∧ (fillResult r d).seq = d.seq ∧ (fillResult r d).line = d.line ∧
    (fillResult r d).roster = d.roster ∧ (fillResult r d).fire = d.fire ∧ (fillResult r d).strings = d.strings ∧
    (fillResult r d).trainer = d.trainer ∧ (fillResult r d).weft = d.weft ∧ (fillResult r d).control = d.control ∧
    (fillResult r d).pins = d.pins ∧ (fillResult r d).store.mem = d.store.mem ∧
    (fillResult r d).store.written = d.store.written := by
  unfold fillResult
  simp

@[simp] theorem handPick_frame (weft lift : Nat) (d : Device) :
    (handPick weft lift d).tracker = d.tracker ∧ (handPick weft lift d).store = d.store ∧
    (handPick weft lift d).line = d.line ∧ (handPick weft lift d).roster = d.roster ∧
    (handPick weft lift d).fire = d.fire ∧ (handPick weft lift d).strings = d.strings ∧
    (handPick weft lift d).trainer = d.trainer ∧ (handPick weft lift d).weft = d.weft ∧
    (handPick weft lift d).control = d.control ∧ (handPick weft lift d).pins = d.pins ∧
    (handPick weft lift d).seq.runs = d.seq.runs ∧ (handPick weft lift d).seq.table = d.seq.table ∧
    (handPick weft lift d).seq.pos = d.seq.pos ∧ (handPick weft lift d).seq.history = d.seq.history := by
  unfold handPick
  simp

@[simp] theorem handRow_frame (weft : Nat) (field : List Byte) (d : Device) :
    (handRow weft field d).tracker = d.tracker ∧ (handRow weft field d).store = d.store ∧
    (handRow weft field d).roster = d.roster ∧ (handRow weft field d).trainer = d.trainer ∧
    (handRow weft field d).pins = d.pins ∧ (handRow weft field d).control.state = d.control.state ∧
    (handRow weft field d).control.role = d.control.role ∧ (handRow weft field d).control.number = d.control.number ∧
    (handRow weft field d).control.config = d.control.config ∧
    (handRow weft field d).control.powered = d.control.powered ∧
    (handRow weft field d).control.resetPending = d.control.resetPending ∧
    (handRow weft field d).seq.runs = d.seq.runs ∧ (handRow weft field d).seq.table = d.seq.table ∧
    (handRow weft field d).seq.pos = d.seq.pos ∧ (handRow weft field d).seq.history = d.seq.history ∧
    (handRow weft field d).strings.power = d.strings.power ∧ (handRow weft field d).strings.mode = d.strings.mode ∧
    (handRow weft field d).line.queue = d.line.queue ∧ (handRow weft field d).line.replySlot = d.line.replySlot ∧
    (handRow weft field d).line.stuck = d.line.stuck ∧ (handRow weft field d).weft.map = d.weft.map := by
  unfold handRow
  (repeat' split) <;> simp

@[simp] theorem tellLine_frame (reverse : Bool) (d : Device) :
    (tellLine reverse d).tracker = d.tracker ∧ (tellLine reverse d).seq = d.seq ∧
    (tellLine reverse d).store = d.store ∧ (tellLine reverse d).roster = d.roster ∧
    (tellLine reverse d).fire = d.fire ∧ (tellLine reverse d).strings = d.strings ∧
    (tellLine reverse d).trainer = d.trainer ∧ (tellLine reverse d).weft = d.weft ∧
    (tellLine reverse d).control = d.control ∧ (tellLine reverse d).pins = d.pins ∧
    (tellLine reverse d).line.queue = d.line.queue ∧ (tellLine reverse d).line.replySlot = d.line.replySlot ∧
    (tellLine reverse d).line.stuck = d.line.stuck := by
  unfold tellLine
  (repeat' split) <;> simp

@[simp] theorem soundPick_frame (row : Nat) (reverse : Bool) (override : Option Nat) (r : RowRead) (d : Device) :
    (soundPick row reverse override r d).tracker = d.tracker ∧
    (soundPick row reverse override r d).roster = d.roster ∧
    (soundPick row reverse override r d).trainer = d.trainer ∧ (soundPick row reverse override r d).pins = d.pins ∧
    (soundPick row reverse override r d).control.state = d.control.state ∧
    (soundPick row reverse override r d).control.role = d.control.role ∧
    (soundPick row reverse override r d).control.number = d.control.number ∧
    (soundPick row reverse override r d).control.config = d.control.config ∧
    (soundPick row reverse override r d).control.powered = d.control.powered ∧
    (soundPick row reverse override r d).control.resetPending = d.control.resetPending ∧
    (soundPick row reverse override r d).store.mem = d.store.mem ∧
    (soundPick row reverse override r d).store.written = d.store.written ∧
    (soundPick row reverse override r d).seq.runs = d.seq.runs ∧
    (soundPick row reverse override r d).seq.table = d.seq.table ∧
    (soundPick row reverse override r d).seq.pos = d.seq.pos ∧
    (soundPick row reverse override r d).seq.history = d.seq.history ∧
    (soundPick row reverse override r d).strings.power = d.strings.power ∧
    (soundPick row reverse override r d).strings.mode = d.strings.mode ∧
    (soundPick row reverse override r d).line.queue = d.line.queue ∧
    (soundPick row reverse override r d).line.replySlot = d.line.replySlot ∧
    (soundPick row reverse override r d).line.stuck = d.line.stuck ∧
    (soundPick row reverse override r d).weft.map = d.weft.map := by
  unfold soundPick
  simp

@[simp] theorem markDamaged_frame (row : Nat) (d : Device) :
    (markDamaged row d).tracker = d.tracker ∧ (markDamaged row d).seq = d.seq ∧ (markDamaged row d).line = d.line ∧
    (markDamaged row d).roster = d.roster ∧ (markDamaged row d).fire = d.fire ∧
    (markDamaged row d).strings = d.strings ∧ (markDamaged row d).trainer = d.trainer ∧
    (markDamaged row d).weft = d.weft ∧ (markDamaged row d).pins = d.pins ∧
    (markDamaged row d).control.state = d.control.state ∧ (markDamaged row d).control.role = d.control.role ∧
    (markDamaged row d).control.number = d.control.number ∧ (markDamaged row d).control.config = d.control.config ∧
    (markDamaged row d).control.powered = d.control.powered ∧
    (markDamaged row d).control.resetPending = d.control.resetPending ∧ (markDamaged row d).store.mem = d.store.mem ∧
    (markDamaged row d).store.written = d.store.written := by
  unfold markDamaged
  simp

@[simp] theorem damagedPick_frame (row : Nat) (reverse : Bool) (override : Option Nat) (d : Device) :
    (damagedPick row reverse override d).tracker = d.tracker ∧
    (damagedPick row reverse override d).roster = d.roster ∧
    (damagedPick row reverse override d).trainer = d.trainer ∧ (damagedPick row reverse override d).pins = d.pins ∧
    (damagedPick row reverse override d).control.state = d.control.state ∧
    (damagedPick row reverse override d).control.role = d.control.role ∧
    (damagedPick row reverse override d).control.number = d.control.number ∧
    (damagedPick row reverse override d).control.config = d.control.config ∧
    (damagedPick row reverse override d).control.powered = d.control.powered ∧
    (damagedPick row reverse override d).control.resetPending = d.control.resetPending ∧
    (damagedPick row reverse override d).store.mem = d.store.mem ∧
    (damagedPick row reverse override d).store.written = d.store.written ∧
    (damagedPick row reverse override d).seq.runs = d.seq.runs ∧
    (damagedPick row reverse override d).seq.table = d.seq.table ∧
    (damagedPick row reverse override d).seq.pos = d.seq.pos ∧
    (damagedPick row reverse override d).seq.history = d.seq.history ∧
    (damagedPick row reverse override d).strings.power = d.strings.power ∧
    (damagedPick row reverse override d).strings.mode = d.strings.mode ∧
    (damagedPick row reverse override d).line.queue = d.line.queue ∧
    (damagedPick row reverse override d).line.replySlot = d.line.replySlot ∧
    (damagedPick row reverse override d).line.stuck = d.line.stuck ∧
    (damagedPick row reverse override d).weft.map = d.weft.map := by
  unfold damagedPick
  simp only []
  (repeat' split) <;> simp

@[simp] theorem stepFetched_frame (d : Device) :
    (stepFetched d).tracker = d.tracker ∧ (stepFetched d).seq = d.seq ∧ (stepFetched d).store = d.store ∧
    (stepFetched d).line = d.line ∧ (stepFetched d).roster = d.roster ∧ (stepFetched d).trainer = d.trainer ∧
    (stepFetched d).weft = d.weft ∧ (stepFetched d).control = d.control ∧ (stepFetched d).pins = d.pins ∧
    (stepFetched d).strings.power = d.strings.power ∧ (stepFetched d).strings.faults = d.strings.faults ∧
    (stepFetched d).strings.mode = d.strings.mode := by
  unfold stepFetched
  (repeat' split) <;> simp

@[simp] theorem testFetched_frame (row : Nat) (sound : Bool) (r : RowRead) (d : Device) :
    (testFetched row sound r d).tracker = d.tracker ∧ (testFetched row sound r d).roster = d.roster ∧
    (testFetched row sound r d).trainer = d.trainer ∧ (testFetched row sound r d).weft = d.weft ∧
    (testFetched row sound r d).pins = d.pins ∧ (testFetched row sound r d).control.state = d.control.state ∧
    (testFetched row sound r d).control.role = d.control.role ∧
    (testFetched row sound r d).control.number = d.control.number ∧
    (testFetched row sound r d).control.config = d.control.config ∧
    (testFetched row sound r d).control.powered = d.control.powered ∧
    (testFetched row sound r d).control.resetPending = d.control.resetPending ∧
    (testFetched row sound r d).store.mem = d.store.mem ∧
    (testFetched row sound r d).store.written = d.store.written ∧ (testFetched row sound r d).seq.runs = d.seq.runs ∧
    (testFetched row sound r d).seq.table = d.seq.table ∧ (testFetched row sound r d).seq.pos = d.seq.pos ∧
    (testFetched row sound r d).seq.history = d.seq.history ∧
    (testFetched row sound r d).strings.power = d.strings.power ∧
    (testFetched row sound r d).strings.mode = d.strings.mode ∧
    (testFetched row sound r d).line.queue = d.line.queue ∧
    (testFetched row sound r d).line.replySlot = d.line.replySlot ∧
    (testFetched row sound r d).line.stuck = d.line.stuck := by
  unfold testFetched
  (repeat' split) <;> simp

@[simp] theorem fetchCompletes_frame (upset : List Host.Cell) (d : Device) :
    (fetchCompletes upset d).tracker = d.tracker ∧ (fetchCompletes upset d).roster = d.roster ∧
    (fetchCompletes upset d).trainer = d.trainer ∧ (fetchCompletes upset d).pins = d.pins ∧
    (fetchCompletes upset d).control.state = d.control.state ∧
    (fetchCompletes upset d).control.role = d.control.role ∧
    (fetchCompletes upset d).control.number = d.control.number ∧
    (fetchCompletes upset d).control.config = d.control.config ∧
    (fetchCompletes upset d).control.powered = d.control.powered ∧
    (fetchCompletes upset d).control.resetPending = d.control.resetPending ∧
    (fetchCompletes upset d).store.written = d.store.written ∧ (fetchCompletes upset d).seq.runs = d.seq.runs ∧
    (fetchCompletes upset d).seq.table = d.seq.table ∧ (fetchCompletes upset d).seq.pos = d.seq.pos ∧
    (fetchCompletes upset d).seq.history = d.seq.history ∧ (fetchCompletes upset d).strings.power = d.strings.power ∧
    (fetchCompletes upset d).strings.mode = d.strings.mode ∧ (fetchCompletes upset d).line.queue = d.line.queue ∧
    (fetchCompletes upset d).line.replySlot = d.line.replySlot ∧ (fetchCompletes upset d).line.stuck = d.line.stuck ∧
    (fetchCompletes upset d).weft.map = d.weft.map := by
  unfold fetchCompletes
  simp only []
  (repeat' split) <;> simp

@[simp] theorem setState_frame (st : StationState) (d : Device) :
    (setState st d).tracker = d.tracker ∧ (setState st d).seq = d.seq ∧ (setState st d).store = d.store ∧
    (setState st d).line = d.line ∧ (setState st d).roster = d.roster ∧ (setState st d).fire = d.fire ∧
    (setState st d).strings = d.strings ∧ (setState st d).trainer = d.trainer ∧ (setState st d).weft = d.weft ∧
    (setState st d).pins = d.pins ∧ (setState st d).control.role = d.control.role ∧
    (setState st d).control.number = d.control.number ∧ (setState st d).control.config = d.control.config ∧
    (setState st d).control.powered = d.control.powered ∧
    (setState st d).control.resetPending = d.control.resetPending := by
  unfold setState
  simp

@[simp] theorem enterReady_frame (d : Device) :
    (enterReady d).tracker = d.tracker ∧ (enterReady d).seq = d.seq ∧ (enterReady d).store = d.store ∧
    (enterReady d).line = d.line ∧ (enterReady d).roster = d.roster ∧ (enterReady d).fire = d.fire ∧
    (enterReady d).trainer = d.trainer ∧ (enterReady d).weft = d.weft ∧ (enterReady d).pins = d.pins ∧
    (enterReady d).control.role = d.control.role ∧ (enterReady d).control.number = d.control.number ∧
    (enterReady d).control.config = d.control.config ∧ (enterReady d).control.powered = d.control.powered ∧
    (enterReady d).control.resetPending = d.control.resetPending ∧ (enterReady d).strings.faults = d.strings.faults ∧
    (enterReady d).strings.mode = d.strings.mode := by
  unfold enterReady
  simp

@[simp] theorem leaveWeave_frame (d : Device) :
    (leaveWeave d).tracker = d.tracker ∧ (leaveWeave d).trainer = d.trainer ∧ (leaveWeave d).control = d.control ∧
    (leaveWeave d).pins = d.pins ∧ (leaveWeave d).store.mem = d.store.mem ∧
    (leaveWeave d).store.written = d.store.written ∧ (leaveWeave d).seq.runs = d.seq.runs ∧
    (leaveWeave d).seq.table = d.seq.table ∧ (leaveWeave d).seq.pos = d.seq.pos ∧
    (leaveWeave d).seq.history = d.seq.history ∧ (leaveWeave d).strings.power = d.strings.power ∧
    (leaveWeave d).strings.faults = d.strings.faults ∧ (leaveWeave d).line.queue = d.line.queue ∧
    (leaveWeave d).line.replySlot = d.line.replySlot ∧ (leaveWeave d).line.stuck = d.line.stuck ∧
    (leaveWeave d).weft.map = d.weft.map ∧ (leaveWeave d).roster.entries = d.roster.entries := by
  unfold leaveWeave
  simp

@[simp] theorem leaveTest_frame (d : Device) :
    (leaveTest d).tracker = d.tracker ∧ (leaveTest d).seq = d.seq ∧ (leaveTest d).line = d.line ∧
    (leaveTest d).roster = d.roster ∧ (leaveTest d).fire = d.fire ∧ (leaveTest d).trainer = d.trainer ∧
    (leaveTest d).weft = d.weft ∧ (leaveTest d).control = d.control ∧ (leaveTest d).pins = d.pins ∧
    (leaveTest d).store.mem = d.store.mem ∧ (leaveTest d).store.written = d.store.written ∧
    (leaveTest d).strings.power = d.strings.power ∧ (leaveTest d).strings.faults = d.strings.faults := by
  unfold leaveTest
  simp

@[simp] theorem onCurrent_frame (f : SelString → SelString) (d : Device) :
    (onCurrent f d).tracker = d.tracker ∧ (onCurrent f d).seq = d.seq ∧ (onCurrent f d).store = d.store ∧
    (onCurrent f d).line = d.line ∧ (onCurrent f d).roster = d.roster ∧ (onCurrent f d).fire = d.fire ∧
    (onCurrent f d).trainer = d.trainer ∧ (onCurrent f d).weft = d.weft ∧ (onCurrent f d).control = d.control ∧
    (onCurrent f d).pins = d.pins ∧ (onCurrent f d).strings.power = d.strings.power ∧
    (onCurrent f d).strings.faults = d.strings.faults ∧ (onCurrent f d).strings.mode = d.strings.mode := by
  unfold onCurrent
  simp

@[simp] theorem trainerIdle_frame (d : Device) :
    (trainerIdle d).tracker = d.tracker ∧ (trainerIdle d).seq = d.seq ∧ (trainerIdle d).store = d.store ∧
    (trainerIdle d).line = d.line ∧ (trainerIdle d).roster = d.roster ∧ (trainerIdle d).fire = d.fire ∧
    (trainerIdle d).weft = d.weft ∧ (trainerIdle d).control = d.control ∧ (trainerIdle d).pins = d.pins ∧
    (trainerIdle d).strings.power = d.strings.power ∧ (trainerIdle d).strings.faults = d.strings.faults ∧
    (trainerIdle d).strings.mode = d.strings.mode := by
  unfold trainerIdle
  simp

@[simp] theorem trainComplete_frame (d : Device) :
    (trainComplete d).tracker = d.tracker ∧ (trainComplete d).seq = d.seq ∧ (trainComplete d).store = d.store ∧
    (trainComplete d).line = d.line ∧ (trainComplete d).roster = d.roster ∧ (trainComplete d).fire = d.fire ∧
    (trainComplete d).weft = d.weft ∧ (trainComplete d).pins = d.pins ∧
    (trainComplete d).control.role = d.control.role ∧ (trainComplete d).control.number = d.control.number ∧
    (trainComplete d).control.config = d.control.config ∧ (trainComplete d).control.powered = d.control.powered ∧
    (trainComplete d).control.resetPending = d.control.resetPending ∧
    (trainComplete d).strings.faults = d.strings.faults ∧ (trainComplete d).strings.mode = d.strings.mode := by
  unfold trainComplete
  simp

@[simp] theorem abandonTraining_frame (d : Device) :
    (abandonTraining d).tracker = d.tracker ∧ (abandonTraining d).seq = d.seq ∧ (abandonTraining d).store = d.store ∧
    (abandonTraining d).line = d.line ∧ (abandonTraining d).roster = d.roster ∧ (abandonTraining d).fire = d.fire ∧
    (abandonTraining d).weft = d.weft ∧ (abandonTraining d).pins = d.pins ∧
    (abandonTraining d).control.state = d.control.state ∧ (abandonTraining d).control.role = d.control.role ∧
    (abandonTraining d).control.number = d.control.number ∧ (abandonTraining d).control.config = d.control.config ∧
    (abandonTraining d).control.powered = d.control.powered ∧
    (abandonTraining d).control.resetPending = d.control.resetPending ∧
    (abandonTraining d).strings.power = d.strings.power ∧ (abandonTraining d).strings.faults = d.strings.faults ∧
    (abandonTraining d).strings.mode = d.strings.mode := by
  unfold abandonTraining
  simp

@[simp] theorem startTrial_frame (d : Device) :
    (startTrial d).tracker = d.tracker ∧ (startTrial d).seq = d.seq ∧ (startTrial d).store = d.store ∧
    (startTrial d).line = d.line ∧ (startTrial d).roster = d.roster ∧ (startTrial d).fire = d.fire ∧
    (startTrial d).weft = d.weft ∧ (startTrial d).control = d.control ∧ (startTrial d).pins = d.pins ∧
    (startTrial d).strings.power = d.strings.power ∧ (startTrial d).strings.faults = d.strings.faults ∧
    (startTrial d).strings.mode = d.strings.mode := by
  unfold startTrial
  simp

@[simp] theorem preCheck_frame (n : Nat) (d : Device) :
    (preCheck n d).tracker = d.tracker ∧ (preCheck n d).seq = d.seq ∧ (preCheck n d).store = d.store ∧
    (preCheck n d).line = d.line ∧ (preCheck n d).roster = d.roster ∧ (preCheck n d).fire = d.fire ∧
    (preCheck n d).weft = d.weft ∧ (preCheck n d).pins = d.pins ∧ (preCheck n d).control.role = d.control.role ∧
    (preCheck n d).control.number = d.control.number ∧ (preCheck n d).control.config = d.control.config ∧
    (preCheck n d).control.powered = d.control.powered ∧
    (preCheck n d).control.resetPending = d.control.resetPending ∧ (preCheck n d).strings.faults = d.strings.faults ∧
    (preCheck n d).strings.mode = d.strings.mode := by
  induction n generalizing d with
  | zero => unfold preCheck; simp
  | succ n ih => unfold preCheck; simp only []; (repeat' split) <;> simp [ih]

@[simp] theorem nextTrained_frame (d : Device) :
    (nextTrained d).tracker = d.tracker ∧ (nextTrained d).seq = d.seq ∧ (nextTrained d).store = d.store ∧
    (nextTrained d).line = d.line ∧ (nextTrained d).roster = d.roster ∧ (nextTrained d).fire = d.fire ∧
    (nextTrained d).weft = d.weft ∧ (nextTrained d).pins = d.pins ∧ (nextTrained d).control.role = d.control.role ∧
    (nextTrained d).control.number = d.control.number ∧ (nextTrained d).control.config = d.control.config ∧
    (nextTrained d).control.powered = d.control.powered ∧
    (nextTrained d).control.resetPending = d.control.resetPending ∧
    (nextTrained d).strings.faults = d.strings.faults ∧ (nextTrained d).strings.mode = d.strings.mode := by
  unfold nextTrained
  (repeat' split) <;> simp

@[simp] theorem endString_frame (f : SelString → SelString) (d : Device) :
    (endString f d).tracker = d.tracker ∧ (endString f d).seq = d.seq ∧ (endString f d).store = d.store ∧
    (endString f d).line = d.line ∧ (endString f d).roster = d.roster ∧ (endString f d).fire = d.fire ∧
    (endString f d).weft = d.weft ∧ (endString f d).pins = d.pins ∧ (endString f d).control.role = d.control.role ∧
    (endString f d).control.number = d.control.number ∧ (endString f d).control.config = d.control.config ∧
    (endString f d).control.powered = d.control.powered ∧
    (endString f d).control.resetPending = d.control.resetPending ∧
    (endString f d).strings.faults = d.strings.faults ∧ (endString f d).strings.mode = d.strings.mode := by
  unfold endString
  simp

@[simp] theorem sampleTrial_frame (held : Bool) (d : Device) :
    (sampleTrial held d).tracker = d.tracker ∧ (sampleTrial held d).seq = d.seq ∧
    (sampleTrial held d).store = d.store ∧ (sampleTrial held d).line = d.line ∧
    (sampleTrial held d).roster = d.roster ∧ (sampleTrial held d).fire = d.fire ∧
    (sampleTrial held d).weft = d.weft ∧ (sampleTrial held d).control = d.control ∧
    (sampleTrial held d).pins = d.pins ∧ (sampleTrial held d).strings.power = d.strings.power ∧
    (sampleTrial held d).strings.faults = d.strings.faults ∧ (sampleTrial held d).strings.mode = d.strings.mode := by
  unfold sampleTrial
  (repeat' split) <;> simp

@[simp] theorem endRest_frame (armature : BitVec 8) (d : Device) :
    (endRest armature d).tracker = d.tracker ∧ (endRest armature d).seq = d.seq ∧
    (endRest armature d).store = d.store ∧ (endRest armature d).line = d.line ∧
    (endRest armature d).roster = d.roster ∧ (endRest armature d).fire = d.fire ∧
    (endRest armature d).weft = d.weft ∧ (endRest armature d).control.role = d.control.role ∧
    (endRest armature d).control.number = d.control.number ∧ (endRest armature d).control.config = d.control.config ∧
    (endRest armature d).control.powered = d.control.powered ∧
    (endRest armature d).control.resetPending = d.control.resetPending ∧
    (endRest armature d).strings.faults = d.strings.faults ∧ (endRest armature d).strings.mode = d.strings.mode := by
  unfold endRest
  simp only []
  (repeat' split) <;> simp

@[simp] theorem startTraining_frame (armature : BitVec 8) (d : Device) :
    (startTraining armature d).tracker = d.tracker ∧ (startTraining armature d).seq = d.seq ∧
    (startTraining armature d).store = d.store ∧ (startTraining armature d).line = d.line ∧
    (startTraining armature d).roster = d.roster ∧ (startTraining armature d).fire = d.fire ∧
    (startTraining armature d).weft = d.weft ∧ (startTraining armature d).control.role = d.control.role ∧
    (startTraining armature d).control.number = d.control.number ∧
    (startTraining armature d).control.config = d.control.config ∧
    (startTraining armature d).control.powered = d.control.powered ∧
    (startTraining armature d).control.resetPending = d.control.resetPending ∧
    (startTraining armature d).strings.faults = d.strings.faults := by
  unfold startTraining
  simp only []
  (repeat' split) <;> simp

@[simp] theorem powerComesOn_frame (armature : BitVec 8) (d : Device) :
    (powerComesOn armature d).tracker = d.tracker ∧ (powerComesOn armature d).seq = d.seq ∧
    (powerComesOn armature d).store = d.store ∧ (powerComesOn armature d).line = d.line ∧
    (powerComesOn armature d).roster = d.roster ∧ (powerComesOn armature d).weft = d.weft ∧
    (powerComesOn armature d).control.role = d.control.role ∧
    (powerComesOn armature d).control.number = d.control.number ∧
    (powerComesOn armature d).control.config = d.control.config ∧
    (powerComesOn armature d).control.powered = d.control.powered ∧
    (powerComesOn armature d).control.resetPending = d.control.resetPending ∧
    (powerComesOn armature d).strings.faults = d.strings.faults ∧
    (powerComesOn armature d).strings.mode = d.strings.mode := by
  unfold powerComesOn
  simp only []
  (repeat' split) <;> simp

@[simp] theorem stepCaptured_frame (sense : List StringBits) (d : Device) :
    (stepCaptured sense d).tracker = d.tracker ∧ (stepCaptured sense d).seq = d.seq ∧
    (stepCaptured sense d).store = d.store ∧ (stepCaptured sense d).roster = d.roster ∧
    (stepCaptured sense d).fire = d.fire ∧ (stepCaptured sense d).trainer = d.trainer ∧
    (stepCaptured sense d).weft = d.weft ∧ (stepCaptured sense d).control = d.control ∧
    (stepCaptured sense d).strings.power = d.strings.power ∧
    (stepCaptured sense d).strings.faults = d.strings.faults ∧ (stepCaptured sense d).line.queue = d.line.queue ∧
    (stepCaptured sense d).line.stuck = d.line.stuck := by
  unfold stepCaptured
  (repeat' split) <;> simp

@[simp] theorem enterFault_frame (d : Device) :
    (enterFault d).tracker = d.tracker ∧ (enterFault d).pins = d.pins ∧
    (enterFault d).control.role = d.control.role ∧ (enterFault d).control.number = d.control.number ∧
    (enterFault d).control.config = d.control.config ∧ (enterFault d).control.powered = d.control.powered ∧
    (enterFault d).control.resetPending = d.control.resetPending ∧ (enterFault d).store.mem = d.store.mem ∧
    (enterFault d).store.written = d.store.written ∧ (enterFault d).seq.runs = d.seq.runs ∧
    (enterFault d).seq.table = d.seq.table ∧ (enterFault d).seq.pos = d.seq.pos ∧
    (enterFault d).seq.history = d.seq.history ∧ (enterFault d).strings.faults = d.strings.faults ∧
    (enterFault d).line.queue = d.line.queue ∧ (enterFault d).line.replySlot = d.line.replySlot ∧
    (enterFault d).line.stuck = d.line.stuck ∧ (enterFault d).weft.map = d.weft.map ∧
    (enterFault d).roster.entries = d.roster.entries := by
  unfold enterFault
  (repeat' split) <;> simp

@[simp] theorem duplicateFound_frame (d : Device) :
    (duplicateFound d).tracker = d.tracker ∧ (duplicateFound d).pins = d.pins ∧
    (duplicateFound d).control.role = d.control.role ∧ (duplicateFound d).control.number = d.control.number ∧
    (duplicateFound d).control.config = d.control.config ∧ (duplicateFound d).control.powered = d.control.powered ∧
    (duplicateFound d).control.resetPending = d.control.resetPending ∧ (duplicateFound d).store.mem = d.store.mem ∧
    (duplicateFound d).store.written = d.store.written ∧ (duplicateFound d).seq.runs = d.seq.runs ∧
    (duplicateFound d).seq.table = d.seq.table ∧ (duplicateFound d).seq.pos = d.seq.pos ∧
    (duplicateFound d).seq.history = d.seq.history ∧ (duplicateFound d).strings.faults = d.strings.faults ∧
    (duplicateFound d).line.queue = d.line.queue ∧ (duplicateFound d).line.replySlot = d.line.replySlot ∧
    (duplicateFound d).line.stuck = d.line.stuck ∧ (duplicateFound d).weft.map = d.weft.map ∧
    (duplicateFound d).roster.entries = d.roster.entries := by
  unfold duplicateFound
  simp only []
  (repeat' split) <;> simp

@[simp] theorem takeBeaconFrame_frame (d : Device) :
    (takeBeaconFrame d).tracker = d.tracker ∧ (takeBeaconFrame d).pins = d.pins ∧
    (takeBeaconFrame d).control.role = d.control.role ∧ (takeBeaconFrame d).control.number = d.control.number ∧
    (takeBeaconFrame d).control.config = d.control.config ∧ (takeBeaconFrame d).control.powered = d.control.powered ∧
    (takeBeaconFrame d).control.resetPending = d.control.resetPending ∧ (takeBeaconFrame d).store.mem = d.store.mem ∧
    (takeBeaconFrame d).store.written = d.store.written ∧ (takeBeaconFrame d).seq.runs = d.seq.runs ∧
    (takeBeaconFrame d).seq.table = d.seq.table ∧ (takeBeaconFrame d).seq.pos = d.seq.pos ∧
    (takeBeaconFrame d).seq.history = d.seq.history ∧ (takeBeaconFrame d).strings.faults = d.strings.faults ∧
    (takeBeaconFrame d).line.replySlot = d.line.replySlot ∧ (takeBeaconFrame d).line.stuck = d.line.stuck ∧
    (takeBeaconFrame d).weft.map = d.weft.map := by
  unfold takeBeaconFrame
  simp only []
  (repeat' split) <;> simp

@[simp] theorem powerFails_frame (d : Device) :
    (powerFails d).tracker = d.tracker ∧ (powerFails d).seq = d.seq ∧ (powerFails d).store = d.store ∧
    (powerFails d).line = d.line ∧ (powerFails d).roster = d.roster ∧ (powerFails d).fire = d.fire ∧
    (powerFails d).strings = d.strings ∧ (powerFails d).trainer = d.trainer ∧ (powerFails d).weft = d.weft ∧
    (powerFails d).pins = d.pins := by
  unfold powerFails
  simp

@[simp] theorem retainedWritten_frame (d : Device) :
    (retainedWritten d).tracker = d.tracker ∧ (retainedWritten d).seq = d.seq ∧ (retainedWritten d).store = d.store ∧
    (retainedWritten d).line = d.line ∧ (retainedWritten d).roster = d.roster ∧ (retainedWritten d).fire = d.fire ∧
    (retainedWritten d).strings = d.strings ∧ (retainedWritten d).trainer = d.trainer ∧
    (retainedWritten d).weft = d.weft ∧ (retainedWritten d).pins = d.pins := by
  unfold retainedWritten
  simp

@[simp] theorem measureRun_frame (l : Line) (r : LineRun) :
    (measureRun l r).stuck = l.stuck ∧
    (measureRun l r).queue = l.queue ∧
    (measureRun l r).beaconSlot = l.beaconSlot ∧
    (measureRun l r).replySlot = l.replySlot ∧
    (measureRun l r).completion = l.completion ∧
    (measureRun l r).tx = l.tx ∧
    (measureRun l r).accessWait = l.accessWait ∧
    (measureRun l r).beaconDue = l.beaconDue ∧
    (measureRun l r).idleTicks = l.idleTicks ∧
    (measureRun l r).held = l.held ∧
    (measureRun l r).halfBit = l.halfBit ∧
    (measureRun l r).sentBits = l.sentBits := by
  unfold measureRun
  (repeat' split) <;> simp

@[simp] theorem measureRuns_frame (rs : List LineRun) (l : Line) :
    (measureRuns rs l).stuck = l.stuck ∧
    (measureRuns rs l).queue = l.queue ∧
    (measureRuns rs l).beaconSlot = l.beaconSlot ∧
    (measureRuns rs l).replySlot = l.replySlot ∧
    (measureRuns rs l).completion = l.completion ∧
    (measureRuns rs l).tx = l.tx ∧
    (measureRuns rs l).accessWait = l.accessWait ∧
    (measureRuns rs l).beaconDue = l.beaconDue ∧
    (measureRuns rs l).idleTicks = l.idleTicks ∧
    (measureRuns rs l).held = l.held ∧
    (measureRuns rs l).halfBit = l.halfBit ∧
    (measureRuns rs l).sentBits = l.sentBits := by
  unfold measureRuns
  induction rs generalizing l with
  | nil => simp
  | cons r rs ih => simpa using ih (measureRun l r)

@[simp] theorem sendBits_frame (bits : List Bool) (n : Nat) (others : List LineRun) (l : Line) :
    (sendBits bits n others l).stuck = l.stuck ∧
    (sendBits bits n others l).queue = l.queue ∧
    (sendBits bits n others l).beaconSlot = l.beaconSlot ∧
    (sendBits bits n others l).replySlot = l.replySlot ∧
    (sendBits bits n others l).completion = l.completion ∧
    (sendBits bits n others l).tx = l.tx ∧
    (sendBits bits n others l).accessWait = l.accessWait ∧
    (sendBits bits n others l).beaconDue = l.beaconDue ∧
    (sendBits bits n others l).idleTicks = l.idleTicks := by
  induction bits generalizing n others l with
  | nil => cases n <;> simp [sendBits]
  | cons b bits ih =>
    cases n with
    | zero => simp [sendBits]
    | succ n =>
      simp only [sendBits]
      split
      · simp
      · simpa using ih n _ _

@[simp] theorem elapseRuns_frame (dt : Nat) (others : List LineRun) (l : Line) :
    (elapseRuns dt others l).stuck = l.stuck ∧
    (elapseRuns dt others l).queue = l.queue ∧
    (elapseRuns dt others l).beaconSlot = l.beaconSlot ∧
    (elapseRuns dt others l).replySlot = l.replySlot ∧
    (elapseRuns dt others l).completion = l.completion ∧
    (elapseRuns dt others l).tx = l.tx ∧
    (elapseRuns dt others l).accessWait = l.accessWait ∧
    (elapseRuns dt others l).beaconDue = l.beaconDue ∧
    (elapseRuns dt others l).idleTicks = l.idleTicks := by
  unfold elapseRuns measureLine
  (repeat' split) <;> simp_all

@[simp] theorem elapse_frame (dt : Nat) (others : List LineRun) (d : Device) :
    (elapse dt others d).seq = d.seq ∧ (elapse dt others d).roster = d.roster ∧ (elapse dt others d).fire = d.fire ∧
    (elapse dt others d).weft = d.weft ∧ (elapse dt others d).pins = d.pins ∧ (elapse dt others d).control.state = d.control.state ∧
    (elapse dt others d).control.role = d.control.role ∧ (elapse dt others d).control.number = d.control.number ∧
    (elapse dt others d).control.config = d.control.config ∧ (elapse dt others d).control.powered = d.control.powered ∧
    (elapse dt others d).store.mem = d.store.mem ∧ (elapse dt others d).store.written = d.store.written ∧
    (elapse dt others d).strings.faults = d.strings.faults ∧ (elapse dt others d).strings.mode = d.strings.mode ∧
    (elapse dt others d).line.queue = d.line.queue ∧ (elapse dt others d).line.replySlot = d.line.replySlot ∧
    (elapse dt others d).line.beaconSlot = d.line.beaconSlot ∧
    (elapse dt others d).line.stuck = d.line.stuck := by
  unfold elapse
  simp

@[simp] theorem pass_frame (p : Lapse) (d : Device) :
    (pass p d).seq = d.seq ∧
    (pass p d).roster = d.roster ∧
    (pass p d).fire = d.fire ∧
    (pass p d).weft = d.weft ∧
    (pass p d).pins.feederStop = d.pins.feederStop ∧
    (pass p d).pins.sense = d.pins.sense ∧
    (pass p d).pins.armature = d.pins.armature ∧
    (pass p d).control.state = d.control.state ∧
    (pass p d).control.role = d.control.role ∧
    (pass p d).control.number = d.control.number ∧
    (pass p d).control.config = d.control.config ∧
    (pass p d).control.powered = d.control.powered ∧
    (pass p d).store.mem = d.store.mem ∧
    (pass p d).store.written = d.store.written ∧
    (pass p d).strings.faults = d.strings.faults ∧
    (pass p d).strings.mode = d.strings.mode ∧
    (pass p d).line.queue = d.line.queue ∧
    (pass p d).line.replySlot = d.line.replySlot ∧
    (pass p d).line.beaconSlot = d.line.beaconSlot ∧
    (pass p d).line.stuck = d.line.stuck := by
  unfold pass
  (repeat' split) <;> simp

@[simp] theorem forwardB_frame (c : Configuration) (d : Device) :
    (forwardB c d).tracker = d.tracker ∧ (forwardB c d).trainer = d.trainer ∧ (forwardB c d).pins = d.pins ∧
    (forwardB c d).control.state = d.control.state ∧ (forwardB c d).control.role = d.control.role ∧
    (forwardB c d).control.number = d.control.number ∧ (forwardB c d).control.config = d.control.config ∧
    (forwardB c d).control.powered = d.control.powered ∧
    (forwardB c d).control.resetPending = d.control.resetPending ∧ (forwardB c d).store.mem = d.store.mem ∧
    (forwardB c d).store.written = d.store.written ∧ (forwardB c d).seq.runs = d.seq.runs ∧
    (forwardB c d).seq.table = d.seq.table ∧ (forwardB c d).strings.power = d.strings.power ∧
    (forwardB c d).line.queue = d.line.queue ∧ (forwardB c d).line.replySlot = d.line.replySlot ∧
    (forwardB c d).line.stuck = d.line.stuck ∧ (forwardB c d).weft.map = d.weft.map := by
  unfold forwardB
  (repeat' split) <;> simp

@[simp] theorem reverseB_frame (d : Device) :
    (reverseB d).tracker = d.tracker ∧ (reverseB d).trainer = d.trainer ∧ (reverseB d).pins = d.pins ∧
    (reverseB d).control.state = d.control.state ∧ (reverseB d).control.role = d.control.role ∧
    (reverseB d).control.number = d.control.number ∧ (reverseB d).control.config = d.control.config ∧
    (reverseB d).control.powered = d.control.powered ∧ (reverseB d).control.resetPending = d.control.resetPending ∧
    (reverseB d).store.mem = d.store.mem ∧ (reverseB d).store.written = d.store.written ∧
    (reverseB d).seq.runs = d.seq.runs ∧ (reverseB d).seq.table = d.seq.table ∧
    (reverseB d).strings.power = d.strings.power ∧ (reverseB d).strings.faults = d.strings.faults ∧
    (reverseB d).line.queue = d.line.queue ∧ (reverseB d).line.replySlot = d.line.replySlot ∧
    (reverseB d).line.stuck = d.line.stuck ∧ (reverseB d).weft.map = d.weft.map ∧
    (reverseB d).roster.entries = d.roster.entries := by
  unfold reverseB
  (repeat' split) <;> simp

@[simp] theorem forwardGuardEnd_frame (d : Device) :
    (forwardGuardEnd d).tracker = d.tracker ∧ (forwardGuardEnd d).store = d.store ∧
    (forwardGuardEnd d).roster = d.roster ∧ (forwardGuardEnd d).fire = d.fire ∧
    (forwardGuardEnd d).strings = d.strings ∧ (forwardGuardEnd d).trainer = d.trainer ∧
    (forwardGuardEnd d).weft = d.weft ∧ (forwardGuardEnd d).control = d.control ∧ (forwardGuardEnd d).pins = d.pins ∧
    (forwardGuardEnd d).seq.runs = d.seq.runs ∧ (forwardGuardEnd d).seq.table = d.seq.table ∧
    (forwardGuardEnd d).seq.pos = d.seq.pos ∧ (forwardGuardEnd d).seq.history = d.seq.history ∧
    (forwardGuardEnd d).line.queue = d.line.queue ∧ (forwardGuardEnd d).line.replySlot = d.line.replySlot ∧
    (forwardGuardEnd d).line.stuck = d.line.stuck := by
  unfold forwardGuardEnd
  simp

@[simp] theorem forwardK_frame (d : Device) :
    (forwardK d).tracker = d.tracker ∧ (forwardK d).store = d.store ∧ (forwardK d).roster = d.roster ∧
    (forwardK d).trainer = d.trainer ∧ (forwardK d).weft = d.weft ∧ (forwardK d).pins = d.pins ∧
    (forwardK d).control.state = d.control.state ∧ (forwardK d).control.role = d.control.role ∧
    (forwardK d).control.number = d.control.number ∧ (forwardK d).control.config = d.control.config ∧
    (forwardK d).control.powered = d.control.powered ∧ (forwardK d).control.resetPending = d.control.resetPending ∧
    (forwardK d).seq.runs = d.seq.runs ∧ (forwardK d).seq.table = d.seq.table ∧ (forwardK d).seq.pos = d.seq.pos ∧
    (forwardK d).seq.history = d.seq.history ∧ (forwardK d).strings.power = d.strings.power ∧
    (forwardK d).strings.faults = d.strings.faults ∧ (forwardK d).strings.mode = d.strings.mode ∧
    (forwardK d).line.queue = d.line.queue ∧ (forwardK d).line.replySlot = d.line.replySlot ∧
    (forwardK d).line.stuck = d.line.stuck := by
  unfold forwardK
  simp

@[simp] theorem forwardFa_frame (d : Device) :
    (forwardFa d).tracker = d.tracker ∧ (forwardFa d).store = d.store ∧ (forwardFa d).trainer = d.trainer ∧
    (forwardFa d).pins = d.pins ∧ (forwardFa d).control.state = d.control.state ∧
    (forwardFa d).control.role = d.control.role ∧ (forwardFa d).control.number = d.control.number ∧
    (forwardFa d).control.config = d.control.config ∧ (forwardFa d).control.powered = d.control.powered ∧
    (forwardFa d).control.resetPending = d.control.resetPending ∧ (forwardFa d).seq.runs = d.seq.runs ∧
    (forwardFa d).seq.table = d.seq.table ∧ (forwardFa d).strings.power = d.strings.power ∧
    (forwardFa d).strings.faults = d.strings.faults ∧ (forwardFa d).strings.mode = d.strings.mode ∧
    (forwardFa d).line.queue = d.line.queue ∧ (forwardFa d).line.replySlot = d.line.replySlot ∧
    (forwardFa d).line.stuck = d.line.stuck ∧ (forwardFa d).weft.map = d.weft.map := by
  unfold forwardFa
  simp

@[simp] theorem forwardCrossings_frame (c : Configuration) (role : Role) (a : Nat) (d : Device) :
    (forwardCrossings c role a d).tracker = d.tracker ∧ (forwardCrossings c role a d).trainer = d.trainer ∧
    (forwardCrossings c role a d).pins = d.pins ∧ (forwardCrossings c role a d).control.state = d.control.state ∧
    (forwardCrossings c role a d).control.role = d.control.role ∧
    (forwardCrossings c role a d).control.number = d.control.number ∧
    (forwardCrossings c role a d).control.config = d.control.config ∧
    (forwardCrossings c role a d).control.powered = d.control.powered ∧
    (forwardCrossings c role a d).control.resetPending = d.control.resetPending ∧
    (forwardCrossings c role a d).store.mem = d.store.mem ∧
    (forwardCrossings c role a d).store.written = d.store.written ∧
    (forwardCrossings c role a d).seq.runs = d.seq.runs ∧ (forwardCrossings c role a d).seq.table = d.seq.table ∧
    (forwardCrossings c role a d).strings.power = d.strings.power ∧
    (forwardCrossings c role a d).line.queue = d.line.queue ∧
    (forwardCrossings c role a d).line.replySlot = d.line.replySlot ∧
    (forwardCrossings c role a d).line.stuck = d.line.stuck ∧ (forwardCrossings c role a d).weft.map = d.weft.map := by
  cases role <;> simp [forwardCrossings]

@[simp] theorem reverseCrossings_frame (c : Configuration) (role : Role) (a : Nat) (d : Device) :
    (reverseCrossings c role a d).tracker = d.tracker ∧ (reverseCrossings c role a d).trainer = d.trainer ∧
    (reverseCrossings c role a d).pins = d.pins ∧ (reverseCrossings c role a d).control.state = d.control.state ∧
    (reverseCrossings c role a d).control.role = d.control.role ∧
    (reverseCrossings c role a d).control.number = d.control.number ∧
    (reverseCrossings c role a d).control.config = d.control.config ∧
    (reverseCrossings c role a d).control.powered = d.control.powered ∧
    (reverseCrossings c role a d).control.resetPending = d.control.resetPending ∧
    (reverseCrossings c role a d).store.mem = d.store.mem ∧
    (reverseCrossings c role a d).store.written = d.store.written ∧
    (reverseCrossings c role a d).seq.runs = d.seq.runs ∧ (reverseCrossings c role a d).seq.table = d.seq.table ∧
    (reverseCrossings c role a d).strings.power = d.strings.power ∧
    (reverseCrossings c role a d).strings.faults = d.strings.faults ∧
    (reverseCrossings c role a d).line.queue = d.line.queue ∧
    (reverseCrossings c role a d).line.replySlot = d.line.replySlot ∧
    (reverseCrossings c role a d).line.stuck = d.line.stuck ∧ (reverseCrossings c role a d).weft.map = d.weft.map ∧
    (reverseCrossings c role a d).roster.entries = d.roster.entries := by
  unfold reverseCrossings
  (repeat' split) <;> simp

@[simp] theorem crossings_frame (dir : Direction) (d : Device) :
    (crossings dir d).tracker = d.tracker ∧ (crossings dir d).trainer = d.trainer ∧ (crossings dir d).pins = d.pins ∧
    (crossings dir d).control.state = d.control.state ∧ (crossings dir d).control.role = d.control.role ∧
    (crossings dir d).control.number = d.control.number ∧ (crossings dir d).control.config = d.control.config ∧
    (crossings dir d).control.powered = d.control.powered ∧
    (crossings dir d).control.resetPending = d.control.resetPending ∧ (crossings dir d).store.mem = d.store.mem ∧
    (crossings dir d).store.written = d.store.written ∧ (crossings dir d).seq.runs = d.seq.runs ∧
    (crossings dir d).seq.table = d.seq.table ∧ (crossings dir d).strings.power = d.strings.power ∧
    (crossings dir d).line.queue = d.line.queue ∧ (crossings dir d).line.replySlot = d.line.replySlot ∧
    (crossings dir d).line.stuck = d.line.stuck ∧ (crossings dir d).weft.map = d.weft.map := by
  unfold crossings
  cases dir <;> (repeat' split) <;> simp

@[simp] theorem unsettling_frame (f : Tracker → Tracker) (d : Device) :
    (unsettling f d).seq = d.seq ∧ (unsettling f d).store = d.store ∧ (unsettling f d).line = d.line ∧
    (unsettling f d).roster = d.roster ∧ (unsettling f d).trainer = d.trainer ∧ (unsettling f d).weft = d.weft ∧
    (unsettling f d).pins = d.pins ∧ (unsettling f d).control.state = d.control.state ∧
    (unsettling f d).control.role = d.control.role ∧ (unsettling f d).control.number = d.control.number ∧
    (unsettling f d).control.config = d.control.config ∧ (unsettling f d).control.powered = d.control.powered ∧
    (unsettling f d).control.resetPending = d.control.resetPending ∧
    (unsettling f d).strings.power = d.strings.power ∧ (unsettling f d).strings.faults = d.strings.faults ∧
    (unsettling f d).strings.mode = d.strings.mode := by
  unfold unsettling
  simp

@[simp] theorem reference_frame (i : Nat) (d : Device) :
    (reference i d).seq = d.seq ∧ (reference i d).store = d.store ∧ (reference i d).line = d.line ∧
    (reference i d).roster = d.roster ∧ (reference i d).trainer = d.trainer ∧ (reference i d).weft = d.weft ∧
    (reference i d).pins = d.pins ∧ (reference i d).control.state = d.control.state ∧
    (reference i d).control.role = d.control.role ∧ (reference i d).control.number = d.control.number ∧
    (reference i d).control.config = d.control.config ∧ (reference i d).control.powered = d.control.powered ∧
    (reference i d).control.resetPending = d.control.resetPending ∧ (reference i d).strings.power = d.strings.power ∧
    (reference i d).strings.faults = d.strings.faults ∧ (reference i d).strings.mode = d.strings.mode := by
  unfold reference
  simp

@[simp] theorem checkIndex_frame (i : Nat) (d : Device) :
    (checkIndex i d).store = d.store ∧ (checkIndex i d).roster = d.roster ∧ (checkIndex i d).trainer = d.trainer ∧
    (checkIndex i d).weft = d.weft ∧ (checkIndex i d).pins = d.pins ∧
    (checkIndex i d).control.state = d.control.state ∧ (checkIndex i d).control.role = d.control.role ∧
    (checkIndex i d).control.number = d.control.number ∧ (checkIndex i d).control.config = d.control.config ∧
    (checkIndex i d).control.powered = d.control.powered ∧
    (checkIndex i d).control.resetPending = d.control.resetPending ∧ (checkIndex i d).seq.runs = d.seq.runs ∧
    (checkIndex i d).seq.table = d.seq.table ∧ (checkIndex i d).seq.pos = d.seq.pos ∧
    (checkIndex i d).seq.history = d.seq.history ∧ (checkIndex i d).strings.power = d.strings.power ∧
    (checkIndex i d).strings.faults = d.strings.faults ∧ (checkIndex i d).strings.mode = d.strings.mode ∧
    (checkIndex i d).line.queue = d.line.queue ∧ (checkIndex i d).line.replySlot = d.line.replySlot ∧
    (checkIndex i d).line.stuck = d.line.stuck := by
  unfold checkIndex
  simp only []
  (repeat' split) <;> simp

@[simp] theorem takeIndexEdge_frame (d : Device) :
    (takeIndexEdge d).store = d.store ∧ (takeIndexEdge d).roster = d.roster ∧ (takeIndexEdge d).trainer = d.trainer ∧
    (takeIndexEdge d).weft = d.weft ∧ (takeIndexEdge d).pins = d.pins ∧
    (takeIndexEdge d).control.state = d.control.state ∧ (takeIndexEdge d).control.role = d.control.role ∧
    (takeIndexEdge d).control.number = d.control.number ∧ (takeIndexEdge d).control.config = d.control.config ∧
    (takeIndexEdge d).control.powered = d.control.powered ∧
    (takeIndexEdge d).control.resetPending = d.control.resetPending ∧ (takeIndexEdge d).seq.runs = d.seq.runs ∧
    (takeIndexEdge d).seq.table = d.seq.table ∧ (takeIndexEdge d).seq.pos = d.seq.pos ∧
    (takeIndexEdge d).seq.history = d.seq.history ∧ (takeIndexEdge d).strings.power = d.strings.power ∧
    (takeIndexEdge d).strings.faults = d.strings.faults ∧ (takeIndexEdge d).strings.mode = d.strings.mode ∧
    (takeIndexEdge d).line.queue = d.line.queue ∧ (takeIndexEdge d).line.replySlot = d.line.replySlot ∧
    (takeIndexEdge d).line.stuck = d.line.stuck := by
  unfold takeIndexEdge
  (repeat' split) <;> simp

@[simp] theorem checkDistance_frame (d : Device) :
    (checkDistance d).store = d.store ∧ (checkDistance d).roster = d.roster ∧ (checkDistance d).fire = d.fire ∧
    (checkDistance d).strings = d.strings ∧ (checkDistance d).trainer = d.trainer ∧ (checkDistance d).weft = d.weft ∧
    (checkDistance d).pins = d.pins ∧ (checkDistance d).control.state = d.control.state ∧
    (checkDistance d).control.role = d.control.role ∧ (checkDistance d).control.number = d.control.number ∧
    (checkDistance d).control.config = d.control.config ∧ (checkDistance d).control.powered = d.control.powered ∧
    (checkDistance d).control.resetPending = d.control.resetPending ∧ (checkDistance d).seq.runs = d.seq.runs ∧
    (checkDistance d).seq.table = d.seq.table ∧ (checkDistance d).seq.pos = d.seq.pos ∧
    (checkDistance d).seq.history = d.seq.history ∧ (checkDistance d).line.queue = d.line.queue ∧
    (checkDistance d).line.replySlot = d.line.replySlot ∧ (checkDistance d).line.stuck = d.line.stuck := by
  unfold checkDistance
  (repeat' split) <;> simp

@[simp] theorem handSpeed_frame (before : Speed) (completed : Bool) (d : Device) :
    (handSpeed before completed d).tracker = d.tracker ∧ (handSpeed before completed d).seq = d.seq ∧
    (handSpeed before completed d).store = d.store ∧ (handSpeed before completed d).line = d.line ∧
    (handSpeed before completed d).roster = d.roster ∧ (handSpeed before completed d).trainer = d.trainer ∧
    (handSpeed before completed d).weft = d.weft ∧ (handSpeed before completed d).pins = d.pins ∧
    (handSpeed before completed d).control.state = d.control.state ∧
    (handSpeed before completed d).control.role = d.control.role ∧
    (handSpeed before completed d).control.number = d.control.number ∧
    (handSpeed before completed d).control.config = d.control.config ∧
    (handSpeed before completed d).control.powered = d.control.powered ∧
    (handSpeed before completed d).control.resetPending = d.control.resetPending ∧
    (handSpeed before completed d).strings.power = d.strings.power ∧
    (handSpeed before completed d).strings.faults = d.strings.faults ∧
    (handSpeed before completed d).strings.mode = d.strings.mode := by
  unfold handSpeed
  simp only []
  (repeat' split) <;> simp

@[simp] theorem handMotion_frame (d : Device) :
    (handMotion d).tracker = d.tracker ∧ (handMotion d).seq = d.seq ∧ (handMotion d).store = d.store ∧
    (handMotion d).line = d.line ∧ (handMotion d).roster = d.roster ∧ (handMotion d).fire = d.fire ∧
    (handMotion d).weft = d.weft ∧ (handMotion d).pins = d.pins ∧ (handMotion d).control.role = d.control.role ∧
    (handMotion d).control.number = d.control.number ∧ (handMotion d).control.config = d.control.config ∧
    (handMotion d).control.powered = d.control.powered ∧
    (handMotion d).control.resetPending = d.control.resetPending ∧ (handMotion d).strings.faults = d.strings.faults ∧
    (handMotion d).strings.mode = d.strings.mode := by
  unfold handMotion
  (repeat' split) <;> simp

@[simp] theorem handStep_frame (before : Tracker) (dir : Direction) (index : Bool) (d : Device) :
    (handStep before dir index d).pins = d.pins ∧ (handStep before dir index d).control.role = d.control.role ∧
    (handStep before dir index d).control.number = d.control.number ∧
    (handStep before dir index d).control.config = d.control.config ∧
    (handStep before dir index d).control.powered = d.control.powered ∧
    (handStep before dir index d).control.resetPending = d.control.resetPending ∧
    (handStep before dir index d).store.mem = d.store.mem ∧
    (handStep before dir index d).store.written = d.store.written ∧
    (handStep before dir index d).seq.runs = d.seq.runs ∧ (handStep before dir index d).seq.table = d.seq.table ∧
    (handStep before dir index d).line.queue = d.line.queue ∧
    (handStep before dir index d).line.replySlot = d.line.replySlot ∧
    (handStep before dir index d).line.stuck = d.line.stuck ∧ (handStep before dir index d).weft.map = d.weft.map := by
  unfold handStep
  simp

@[simp] theorem takeStep_frame (dir : Direction) (index : Bool) (d : Device) :
    (takeStep dir index d).pins = d.pins ∧ (takeStep dir index d).control.role = d.control.role ∧
    (takeStep dir index d).control.number = d.control.number ∧
    (takeStep dir index d).control.config = d.control.config ∧
    (takeStep dir index d).control.powered = d.control.powered ∧
    (takeStep dir index d).control.resetPending = d.control.resetPending ∧
    (takeStep dir index d).store.mem = d.store.mem ∧ (takeStep dir index d).store.written = d.store.written ∧
    (takeStep dir index d).seq.runs = d.seq.runs ∧ (takeStep dir index d).seq.table = d.seq.table ∧
    (takeStep dir index d).line.queue = d.line.queue ∧ (takeStep dir index d).line.replySlot = d.line.replySlot ∧
    (takeStep dir index d).line.stuck = d.line.stuck ∧ (takeStep dir index d).weft.map = d.weft.map := by
  unfold takeStep
  simp

@[simp] theorem shaftStep_frame (a b index : Bool) (dt : Lapse) (sense : List StringBits) (d : Device) :
    (shaftStep a b index dt sense d).control.role = d.control.role ∧
    (shaftStep a b index dt sense d).control.number = d.control.number ∧
    (shaftStep a b index dt sense d).control.config = d.control.config ∧
    (shaftStep a b index dt sense d).control.powered = d.control.powered ∧
    (shaftStep a b index dt sense d).store.mem = d.store.mem ∧
    (shaftStep a b index dt sense d).store.written = d.store.written ∧
    (shaftStep a b index dt sense d).seq.runs = d.seq.runs ∧
    (shaftStep a b index dt sense d).seq.table = d.seq.table ∧
    (shaftStep a b index dt sense d).line.queue = d.line.queue ∧
    (shaftStep a b index dt sense d).line.replySlot = d.line.replySlot ∧
    (shaftStep a b index dt sense d).line.stuck = d.line.stuck ∧
    (shaftStep a b index dt sense d).weft.map = d.weft.map := by
  unfold shaftStep
  split <;> simp

@[simp] theorem glitch_frame (dt : Lapse) (d : Device) :
    (glitch dt d).seq = d.seq ∧ (glitch dt d).roster = d.roster ∧ (glitch dt d).fire = d.fire ∧
    (glitch dt d).weft = d.weft ∧ (glitch dt d).pins.feederStop = d.pins.feederStop ∧ (glitch dt d).control.state = d.control.state ∧
    (glitch dt d).control.role = d.control.role ∧ (glitch dt d).control.number = d.control.number ∧
    (glitch dt d).control.config = d.control.config ∧ (glitch dt d).control.powered = d.control.powered ∧
    (glitch dt d).store.mem = d.store.mem ∧ (glitch dt d).store.written = d.store.written ∧
    (glitch dt d).strings.faults = d.strings.faults ∧ (glitch dt d).strings.mode = d.strings.mode ∧
    (glitch dt d).line.queue = d.line.queue ∧ (glitch dt d).line.replySlot = d.line.replySlot ∧
    (glitch dt d).line.stuck = d.line.stuck := by
  unfold glitch
  simp

@[simp] theorem stalls_frame (d : Device) :
    (stalls d).seq = d.seq ∧ (stalls d).store = d.store ∧ (stalls d).line = d.line ∧ (stalls d).roster = d.roster ∧
    (stalls d).trainer = d.trainer ∧ (stalls d).weft = d.weft ∧ (stalls d).pins = d.pins ∧
    (stalls d).control.state = d.control.state ∧ (stalls d).control.role = d.control.role ∧
    (stalls d).control.number = d.control.number ∧ (stalls d).control.config = d.control.config ∧
    (stalls d).control.powered = d.control.powered ∧ (stalls d).control.resetPending = d.control.resetPending ∧
    (stalls d).strings.power = d.strings.power ∧ (stalls d).strings.faults = d.strings.faults ∧
    (stalls d).strings.mode = d.strings.mode := by
  unfold stalls
  (repeat' split) <;> simp

@[simp] theorem stationaryRises_frame (d : Device) :
    (stationaryRises d).seq = d.seq ∧ (stationaryRises d).store = d.store ∧ (stationaryRises d).line = d.line ∧
    (stationaryRises d).roster = d.roster ∧ (stationaryRises d).fire = d.fire ∧
    (stationaryRises d).trainer = d.trainer ∧ (stationaryRises d).weft = d.weft ∧
    (stationaryRises d).control = d.control ∧ (stationaryRises d).pins = d.pins ∧
    (stationaryRises d).strings.faults = d.strings.faults ∧ (stationaryRises d).strings.mode = d.strings.mode := by
  unfold stationaryRises
  (repeat' split) <;> simp

@[simp] theorem popQueue_frame (d : Device) :
    (popQueue d).tracker = d.tracker ∧ (popQueue d).seq = d.seq ∧ (popQueue d).store = d.store ∧
    (popQueue d).roster = d.roster ∧ (popQueue d).fire = d.fire ∧ (popQueue d).strings = d.strings ∧
    (popQueue d).trainer = d.trainer ∧ (popQueue d).weft = d.weft ∧ (popQueue d).control = d.control ∧
    (popQueue d).pins = d.pins ∧ (popQueue d).line.replySlot = d.line.replySlot ∧
    (popQueue d).line.stuck = d.line.stuck := by
  unfold popQueue
  simp

@[simp] theorem dropRequest_frame (d : Device) :
    (dropRequest d).tracker = d.tracker ∧ (dropRequest d).seq = d.seq ∧ (dropRequest d).store = d.store ∧
    (dropRequest d).roster = d.roster ∧ (dropRequest d).fire = d.fire ∧ (dropRequest d).strings = d.strings ∧
    (dropRequest d).trainer = d.trainer ∧ (dropRequest d).weft = d.weft ∧ (dropRequest d).control = d.control ∧
    (dropRequest d).pins = d.pins ∧ (dropRequest d).line.queue = d.line.queue ∧
    (dropRequest d).line.replySlot = d.line.replySlot ∧ (dropRequest d).line.stuck = d.line.stuck := by
  unfold dropRequest
  simp

@[simp] theorem discardHead_frame (f : Frame) (d : Device) :
    (discardHead f d).tracker = d.tracker ∧ (discardHead f d).seq = d.seq ∧ (discardHead f d).store = d.store ∧
    (discardHead f d).roster = d.roster ∧ (discardHead f d).fire = d.fire ∧ (discardHead f d).strings = d.strings ∧
    (discardHead f d).trainer = d.trainer ∧ (discardHead f d).weft = d.weft ∧ (discardHead f d).control = d.control ∧
    (discardHead f d).pins = d.pins ∧ (discardHead f d).line.replySlot = d.line.replySlot ∧
    (discardHead f d).line.stuck = d.line.stuck := by
  unfold discardHead
  (repeat' split) <;> simp

@[simp] theorem discardFrame_frame (d : Device) :
    (discardFrame d).tracker = d.tracker ∧ (discardFrame d).seq = d.seq ∧ (discardFrame d).store = d.store ∧
    (discardFrame d).roster = d.roster ∧ (discardFrame d).fire = d.fire ∧ (discardFrame d).strings = d.strings ∧
    (discardFrame d).trainer = d.trainer ∧ (discardFrame d).weft = d.weft ∧ (discardFrame d).control = d.control ∧
    (discardFrame d).pins = d.pins ∧ (discardFrame d).line.replySlot = d.line.replySlot ∧
    (discardFrame d).line.stuck = d.line.stuck := by
  unfold discardFrame
  (repeat' split) <;> simp

@[simp] theorem storeConfig_frame (c : Configuration) (d : Device) :
    (storeConfig c d).tracker = d.tracker ∧ (storeConfig c d).seq = d.seq ∧ (storeConfig c d).store = d.store ∧
    (storeConfig c d).line = d.line ∧ (storeConfig c d).roster = d.roster ∧ (storeConfig c d).fire = d.fire ∧
    (storeConfig c d).trainer = d.trainer ∧ (storeConfig c d).weft = d.weft ∧ (storeConfig c d).pins = d.pins ∧
    (storeConfig c d).control.role = d.control.role ∧ (storeConfig c d).control.number = d.control.number ∧
    (storeConfig c d).control.powered = d.control.powered ∧
    (storeConfig c d).control.resetPending = d.control.resetPending ∧
    (storeConfig c d).strings.faults = d.strings.faults ∧ (storeConfig c d).strings.mode = d.strings.mode := by
  unfold storeConfig
  simp

@[simp] theorem runConfigure_frame (p : List Byte) (d : Device) :
    (runConfigure p d).tracker = d.tracker ∧ (runConfigure p d).seq = d.seq ∧ (runConfigure p d).store = d.store ∧
    (runConfigure p d).roster = d.roster ∧ (runConfigure p d).fire = d.fire ∧
    (runConfigure p d).trainer = d.trainer ∧ (runConfigure p d).weft = d.weft ∧ (runConfigure p d).pins = d.pins ∧
    (runConfigure p d).control.role = d.control.role ∧ (runConfigure p d).control.number = d.control.number ∧
    (runConfigure p d).control.powered = d.control.powered ∧
    (runConfigure p d).control.resetPending = d.control.resetPending ∧
    (runConfigure p d).strings.faults = d.strings.faults ∧ (runConfigure p d).strings.mode = d.strings.mode ∧
    (runConfigure p d).line.queue = d.line.queue ∧ (runConfigure p d).line.stuck = d.line.stuck := by
  unfold runConfigure
  simp only []
  (repeat' split) <;> simp

@[simp] theorem storeRow_frame (row : Nat) (weft : Byte) (field : List Byte) (d : Device) :
    (storeRow row weft field d).tracker = d.tracker ∧ (storeRow row weft field d).seq = d.seq ∧
    (storeRow row weft field d).line = d.line ∧ (storeRow row weft field d).roster = d.roster ∧
    (storeRow row weft field d).fire = d.fire ∧ (storeRow row weft field d).strings = d.strings ∧
    (storeRow row weft field d).trainer = d.trainer ∧ (storeRow row weft field d).weft = d.weft ∧
    (storeRow row weft field d).control = d.control ∧ (storeRow row weft field d).pins = d.pins := by
  unfold storeRow
  simp

@[simp] theorem runRowWrite_frame (p : List Byte) (d : Device) :
    (runRowWrite p d).tracker = d.tracker ∧ (runRowWrite p d).seq = d.seq ∧ (runRowWrite p d).roster = d.roster ∧
    (runRowWrite p d).fire = d.fire ∧ (runRowWrite p d).strings = d.strings ∧ (runRowWrite p d).trainer = d.trainer ∧
    (runRowWrite p d).weft = d.weft ∧ (runRowWrite p d).control = d.control ∧ (runRowWrite p d).pins = d.pins ∧
    (runRowWrite p d).line.queue = d.line.queue ∧ (runRowWrite p d).line.stuck = d.line.stuck := by
  unfold runRowWrite
  simp only []
  (repeat' split) <;> simp

@[simp] theorem runRowRead_frame (p : List Byte) (d : Device) :
    (runRowRead p d).tracker = d.tracker ∧ (runRowRead p d).seq = d.seq ∧ (runRowRead p d).store = d.store ∧
    (runRowRead p d).roster = d.roster ∧ (runRowRead p d).fire = d.fire ∧ (runRowRead p d).strings = d.strings ∧
    (runRowRead p d).trainer = d.trainer ∧ (runRowRead p d).weft = d.weft ∧ (runRowRead p d).control = d.control ∧
    (runRowRead p d).pins = d.pins ∧ (runRowRead p d).line.queue = d.line.queue ∧
    (runRowRead p d).line.stuck = d.line.stuck := by
  unfold runRowRead
  simp only []
  (repeat' split) <;> simp

@[simp] theorem storeRun_frame (i : Nat) (r : Run) (start : Bool) (d : Device) :
    (storeRun i r start d).tracker = d.tracker ∧ (storeRun i r start d).store = d.store ∧
    (storeRun i r start d).line = d.line ∧ (storeRun i r start d).roster = d.roster ∧
    (storeRun i r start d).fire = d.fire ∧ (storeRun i r start d).strings = d.strings ∧
    (storeRun i r start d).trainer = d.trainer ∧ (storeRun i r start d).weft = d.weft ∧
    (storeRun i r start d).control = d.control ∧ (storeRun i r start d).pins = d.pins ∧
    (storeRun i r start d).seq.table = d.seq.table ∧ (storeRun i r start d).seq.pos = d.seq.pos ∧
    (storeRun i r start d).seq.history = d.seq.history := by
  unfold storeRun
  simp

@[simp] theorem runRunWrite_frame (p : List Byte) (d : Device) :
    (runRunWrite p d).tracker = d.tracker ∧ (runRunWrite p d).store = d.store ∧ (runRunWrite p d).roster = d.roster ∧
    (runRunWrite p d).fire = d.fire ∧ (runRunWrite p d).strings = d.strings ∧ (runRunWrite p d).trainer = d.trainer ∧
    (runRunWrite p d).weft = d.weft ∧ (runRunWrite p d).control = d.control ∧ (runRunWrite p d).pins = d.pins ∧
    (runRunWrite p d).seq.table = d.seq.table ∧ (runRunWrite p d).seq.pos = d.seq.pos ∧
    (runRunWrite p d).seq.history = d.seq.history ∧ (runRunWrite p d).line.queue = d.line.queue ∧
    (runRunWrite p d).line.stuck = d.line.stuck := by
  unfold runRunWrite
  (repeat' split) <;> simp

@[simp] theorem storeMatch_frame (i : Nat) (e : MatchEntry) (d : Device) :
    (storeMatch i e d).tracker = d.tracker ∧ (storeMatch i e d).store = d.store ∧ (storeMatch i e d).line = d.line ∧
    (storeMatch i e d).roster = d.roster ∧ (storeMatch i e d).fire = d.fire ∧
    (storeMatch i e d).strings = d.strings ∧ (storeMatch i e d).trainer = d.trainer ∧
    (storeMatch i e d).weft = d.weft ∧ (storeMatch i e d).control = d.control ∧ (storeMatch i e d).pins = d.pins ∧
    (storeMatch i e d).seq.runs = d.seq.runs ∧ (storeMatch i e d).seq.pos = d.seq.pos ∧
    (storeMatch i e d).seq.history = d.seq.history := by
  unfold storeMatch
  simp

@[simp] theorem runMatchWrite_frame (p : List Byte) (d : Device) :
    (runMatchWrite p d).tracker = d.tracker ∧ (runMatchWrite p d).store = d.store ∧
    (runMatchWrite p d).roster = d.roster ∧ (runMatchWrite p d).fire = d.fire ∧
    (runMatchWrite p d).strings = d.strings ∧ (runMatchWrite p d).trainer = d.trainer ∧
    (runMatchWrite p d).weft = d.weft ∧ (runMatchWrite p d).control = d.control ∧ (runMatchWrite p d).pins = d.pins ∧
    (runMatchWrite p d).seq.runs = d.seq.runs ∧ (runMatchWrite p d).seq.pos = d.seq.pos ∧
    (runMatchWrite p d).seq.history = d.seq.history ∧ (runMatchWrite p d).line.queue = d.line.queue ∧
    (runMatchWrite p d).line.stuck = d.line.stuck := by
  unfold runMatchWrite
  (repeat' split) <;> simp

@[simp] theorem storeMap_frame (k : Nat) (e : MapEntry) (d : Device) :
    (storeMap k e d).tracker = d.tracker ∧ (storeMap k e d).seq = d.seq ∧ (storeMap k e d).store = d.store ∧
    (storeMap k e d).line = d.line ∧ (storeMap k e d).roster = d.roster ∧ (storeMap k e d).fire = d.fire ∧
    (storeMap k e d).strings = d.strings ∧ (storeMap k e d).trainer = d.trainer ∧
    (storeMap k e d).control = d.control ∧ (storeMap k e d).pins = d.pins := by
  unfold storeMap
  simp

@[simp] theorem runWeftMapWrite_frame (p : List Byte) (d : Device) :
    (runWeftMapWrite p d).tracker = d.tracker ∧ (runWeftMapWrite p d).seq = d.seq ∧
    (runWeftMapWrite p d).store = d.store ∧ (runWeftMapWrite p d).roster = d.roster ∧
    (runWeftMapWrite p d).fire = d.fire ∧ (runWeftMapWrite p d).strings = d.strings ∧
    (runWeftMapWrite p d).trainer = d.trainer ∧ (runWeftMapWrite p d).control = d.control ∧
    (runWeftMapWrite p d).pins = d.pins ∧ (runWeftMapWrite p d).line.queue = d.line.queue ∧
    (runWeftMapWrite p d).line.stuck = d.line.stuck := by
  unfold runWeftMapWrite
  (repeat' split) <;> simp

@[simp] theorem finishLoad_frame (d : Device) :
    (finishLoad d).tracker = d.tracker ∧ (finishLoad d).store = d.store ∧ (finishLoad d).line = d.line ∧
    (finishLoad d).roster = d.roster ∧ (finishLoad d).fire = d.fire ∧ (finishLoad d).trainer = d.trainer ∧
    (finishLoad d).pins = d.pins ∧ (finishLoad d).control.role = d.control.role ∧
    (finishLoad d).control.number = d.control.number ∧ (finishLoad d).control.config = d.control.config ∧
    (finishLoad d).control.powered = d.control.powered ∧
    (finishLoad d).control.resetPending = d.control.resetPending ∧ (finishLoad d).seq.runs = d.seq.runs ∧
    (finishLoad d).seq.table = d.seq.table ∧ (finishLoad d).strings.faults = d.strings.faults ∧
    (finishLoad d).strings.mode = d.strings.mode ∧ (finishLoad d).weft.map = d.weft.map := by
  unfold finishLoad
  simp

@[simp] theorem runLoadDone_frame (p : List Byte) (d : Device) :
    (runLoadDone p d).tracker = d.tracker ∧ (runLoadDone p d).store = d.store ∧ (runLoadDone p d).roster = d.roster ∧
    (runLoadDone p d).fire = d.fire ∧ (runLoadDone p d).trainer = d.trainer ∧ (runLoadDone p d).pins = d.pins ∧
    (runLoadDone p d).control.role = d.control.role ∧ (runLoadDone p d).control.number = d.control.number ∧
    (runLoadDone p d).control.config = d.control.config ∧ (runLoadDone p d).control.powered = d.control.powered ∧
    (runLoadDone p d).control.resetPending = d.control.resetPending ∧ (runLoadDone p d).seq.runs = d.seq.runs ∧
    (runLoadDone p d).seq.table = d.seq.table ∧ (runLoadDone p d).strings.faults = d.strings.faults ∧
    (runLoadDone p d).strings.mode = d.strings.mode ∧ (runLoadDone p d).line.queue = d.line.queue ∧
    (runLoadDone p d).line.stuck = d.line.stuck ∧ (runLoadDone p d).weft.map = d.weft.map := by
  unfold runLoadDone withLength
  split
  · dsimp only
    split <;> simp
  · simp

@[simp] theorem runPositionSet_frame (p : List Byte) (d : Device) :
    (runPositionSet p d).tracker = d.tracker ∧ (runPositionSet p d).store = d.store ∧
    (runPositionSet p d).roster = d.roster ∧ (runPositionSet p d).fire = d.fire ∧
    (runPositionSet p d).strings = d.strings ∧ (runPositionSet p d).trainer = d.trainer ∧
    (runPositionSet p d).weft = d.weft ∧ (runPositionSet p d).pins = d.pins ∧
    (runPositionSet p d).control.state = d.control.state ∧ (runPositionSet p d).control.role = d.control.role ∧
    (runPositionSet p d).control.number = d.control.number ∧ (runPositionSet p d).control.config = d.control.config ∧
    (runPositionSet p d).control.powered = d.control.powered ∧
    (runPositionSet p d).control.resetPending = d.control.resetPending ∧ (runPositionSet p d).seq.runs = d.seq.runs ∧
    (runPositionSet p d).seq.table = d.seq.table ∧ (runPositionSet p d).line.queue = d.line.queue ∧
    (runPositionSet p d).line.stuck = d.line.stuck := by
  unfold runPositionSet
  (repeat' split) <;> simp

@[simp] theorem runPositionResume_frame (p : List Byte) (d : Device) :
    (runPositionResume p d).tracker = d.tracker ∧ (runPositionResume p d).store = d.store ∧
    (runPositionResume p d).roster = d.roster ∧ (runPositionResume p d).fire = d.fire ∧
    (runPositionResume p d).strings = d.strings ∧ (runPositionResume p d).trainer = d.trainer ∧
    (runPositionResume p d).weft = d.weft ∧ (runPositionResume p d).control = d.control ∧
    (runPositionResume p d).pins = d.pins ∧ (runPositionResume p d).seq.runs = d.seq.runs ∧
    (runPositionResume p d).seq.table = d.seq.table ∧ (runPositionResume p d).line.queue = d.line.queue ∧
    (runPositionResume p d).line.stuck = d.line.stuck := by
  unfold runPositionResume withLength
  split
  · dsimp only
    (repeat' split) <;> simp
  · simp

@[simp] theorem armStation_frame (d : Device) :
    (armStation d).tracker = d.tracker ∧ (armStation d).store = d.store ∧ (armStation d).line = d.line ∧
    (armStation d).roster = d.roster ∧ (armStation d).fire = d.fire ∧ (armStation d).trainer = d.trainer ∧
    (armStation d).weft = d.weft ∧ (armStation d).pins = d.pins ∧ (armStation d).control.role = d.control.role ∧
    (armStation d).control.number = d.control.number ∧ (armStation d).control.config = d.control.config ∧
    (armStation d).control.powered = d.control.powered ∧
    (armStation d).control.resetPending = d.control.resetPending ∧ (armStation d).seq.runs = d.seq.runs ∧
    (armStation d).seq.table = d.seq.table ∧ (armStation d).seq.pos = d.seq.pos ∧
    (armStation d).seq.history = d.seq.history ∧ (armStation d).strings.faults = d.strings.faults ∧
    (armStation d).strings.mode = d.strings.mode := by
  unfold armStation
  simp

@[simp] theorem runArm_frame (p : List Byte) (d : Device) :
    (runArm p d).tracker = d.tracker ∧ (runArm p d).store = d.store ∧ (runArm p d).roster = d.roster ∧
    (runArm p d).fire = d.fire ∧ (runArm p d).trainer = d.trainer ∧ (runArm p d).weft = d.weft ∧
    (runArm p d).pins = d.pins ∧ (runArm p d).control.role = d.control.role ∧
    (runArm p d).control.number = d.control.number ∧ (runArm p d).control.config = d.control.config ∧
    (runArm p d).control.powered = d.control.powered ∧ (runArm p d).control.resetPending = d.control.resetPending ∧
    (runArm p d).seq.runs = d.seq.runs ∧ (runArm p d).seq.table = d.seq.table ∧ (runArm p d).seq.pos = d.seq.pos ∧
    (runArm p d).seq.history = d.seq.history ∧ (runArm p d).strings.faults = d.strings.faults ∧
    (runArm p d).strings.mode = d.strings.mode ∧ (runArm p d).line.queue = d.line.queue ∧
    (runArm p d).line.stuck = d.line.stuck := by
  unfold runArm withLength
  (repeat' split) <;> simp

@[simp] theorem broadcastArm_frame (d : Device) :
    (broadcastArm d).tracker = d.tracker ∧ (broadcastArm d).store = d.store ∧ (broadcastArm d).line = d.line ∧
    (broadcastArm d).roster = d.roster ∧ (broadcastArm d).fire = d.fire ∧ (broadcastArm d).trainer = d.trainer ∧
    (broadcastArm d).weft = d.weft ∧ (broadcastArm d).pins = d.pins ∧
    (broadcastArm d).control.role = d.control.role ∧ (broadcastArm d).control.number = d.control.number ∧
    (broadcastArm d).control.config = d.control.config ∧ (broadcastArm d).control.powered = d.control.powered ∧
    (broadcastArm d).control.resetPending = d.control.resetPending ∧ (broadcastArm d).seq.runs = d.seq.runs ∧
    (broadcastArm d).seq.table = d.seq.table ∧ (broadcastArm d).seq.pos = d.seq.pos ∧
    (broadcastArm d).seq.history = d.seq.history ∧ (broadcastArm d).strings.faults = d.strings.faults ∧
    (broadcastArm d).strings.mode = d.strings.mode := by
  unfold broadcastArm
  simp

@[simp] theorem disarmStation_frame (d : Device) :
    (disarmStation d).tracker = d.tracker ∧ (disarmStation d).trainer = d.trainer ∧ (disarmStation d).pins = d.pins ∧
    (disarmStation d).control.role = d.control.role ∧ (disarmStation d).control.number = d.control.number ∧
    (disarmStation d).control.config = d.control.config ∧ (disarmStation d).control.powered = d.control.powered ∧
    (disarmStation d).control.resetPending = d.control.resetPending ∧ (disarmStation d).store.mem = d.store.mem ∧
    (disarmStation d).store.written = d.store.written ∧ (disarmStation d).seq.runs = d.seq.runs ∧
    (disarmStation d).seq.table = d.seq.table ∧ (disarmStation d).seq.pos = d.seq.pos ∧
    (disarmStation d).seq.history = d.seq.history ∧ (disarmStation d).strings.faults = d.strings.faults ∧
    (disarmStation d).line.queue = d.line.queue ∧ (disarmStation d).line.replySlot = d.line.replySlot ∧
    (disarmStation d).line.stuck = d.line.stuck ∧ (disarmStation d).weft.map = d.weft.map ∧
    (disarmStation d).roster.entries = d.roster.entries := by
  unfold disarmStation
  simp

@[simp] theorem runDisarm_frame (p : List Byte) (d : Device) :
    (runDisarm p d).tracker = d.tracker ∧ (runDisarm p d).trainer = d.trainer ∧ (runDisarm p d).pins = d.pins ∧
    (runDisarm p d).control.role = d.control.role ∧ (runDisarm p d).control.number = d.control.number ∧
    (runDisarm p d).control.config = d.control.config ∧ (runDisarm p d).control.powered = d.control.powered ∧
    (runDisarm p d).control.resetPending = d.control.resetPending ∧ (runDisarm p d).store.mem = d.store.mem ∧
    (runDisarm p d).store.written = d.store.written ∧ (runDisarm p d).seq.runs = d.seq.runs ∧
    (runDisarm p d).seq.table = d.seq.table ∧ (runDisarm p d).seq.pos = d.seq.pos ∧
    (runDisarm p d).seq.history = d.seq.history ∧ (runDisarm p d).strings.faults = d.strings.faults ∧
    (runDisarm p d).line.queue = d.line.queue ∧ (runDisarm p d).line.stuck = d.line.stuck ∧
    (runDisarm p d).weft.map = d.weft.map ∧ (runDisarm p d).roster.entries = d.roster.entries := by
  unfold runDisarm withLength
  split
  · dsimp only
    (repeat' split) <;> simp
  · simp

@[simp] theorem broadcastDisarm_frame (d : Device) :
    (broadcastDisarm d).tracker = d.tracker ∧ (broadcastDisarm d).trainer = d.trainer ∧
    (broadcastDisarm d).pins = d.pins ∧ (broadcastDisarm d).control.role = d.control.role ∧
    (broadcastDisarm d).control.number = d.control.number ∧ (broadcastDisarm d).control.config = d.control.config ∧
    (broadcastDisarm d).control.powered = d.control.powered ∧
    (broadcastDisarm d).control.resetPending = d.control.resetPending ∧ (broadcastDisarm d).store.mem = d.store.mem ∧
    (broadcastDisarm d).store.written = d.store.written ∧ (broadcastDisarm d).seq.runs = d.seq.runs ∧
    (broadcastDisarm d).seq.table = d.seq.table ∧ (broadcastDisarm d).seq.pos = d.seq.pos ∧
    (broadcastDisarm d).seq.history = d.seq.history ∧ (broadcastDisarm d).strings.faults = d.strings.faults ∧
    (broadcastDisarm d).line.queue = d.line.queue ∧ (broadcastDisarm d).line.replySlot = d.line.replySlot ∧
    (broadcastDisarm d).line.stuck = d.line.stuck ∧ (broadcastDisarm d).weft.map = d.weft.map ∧
    (broadcastDisarm d).roster.entries = d.roster.entries := by
  unfold broadcastDisarm
  simp

@[simp] theorem beginTest_frame (t : TestPattern) (row : Nat) (d : Device) :
    (beginTest t row d).tracker = d.tracker ∧ (beginTest t row d).seq = d.seq ∧ (beginTest t row d).store = d.store ∧
    (beginTest t row d).line = d.line ∧ (beginTest t row d).roster = d.roster ∧ (beginTest t row d).fire = d.fire ∧
    (beginTest t row d).trainer = d.trainer ∧ (beginTest t row d).weft = d.weft ∧ (beginTest t row d).pins = d.pins ∧
    (beginTest t row d).control.role = d.control.role ∧ (beginTest t row d).control.number = d.control.number ∧
    (beginTest t row d).control.config = d.control.config ∧ (beginTest t row d).control.powered = d.control.powered ∧
    (beginTest t row d).control.resetPending = d.control.resetPending ∧
    (beginTest t row d).strings.power = d.strings.power ∧ (beginTest t row d).strings.faults = d.strings.faults ∧
    (beginTest t row d).strings.mode = d.strings.mode := by
  unfold beginTest
  simp

@[simp] theorem runTestBegin_frame (p : List Byte) (d : Device) :
    (runTestBegin p d).tracker = d.tracker ∧ (runTestBegin p d).seq = d.seq ∧ (runTestBegin p d).store = d.store ∧
    (runTestBegin p d).roster = d.roster ∧ (runTestBegin p d).fire = d.fire ∧
    (runTestBegin p d).trainer = d.trainer ∧ (runTestBegin p d).weft = d.weft ∧ (runTestBegin p d).pins = d.pins ∧
    (runTestBegin p d).control.role = d.control.role ∧ (runTestBegin p d).control.number = d.control.number ∧
    (runTestBegin p d).control.config = d.control.config ∧ (runTestBegin p d).control.powered = d.control.powered ∧
    (runTestBegin p d).control.resetPending = d.control.resetPending ∧
    (runTestBegin p d).strings.power = d.strings.power ∧ (runTestBegin p d).strings.faults = d.strings.faults ∧
    (runTestBegin p d).strings.mode = d.strings.mode ∧ (runTestBegin p d).line.queue = d.line.queue ∧
    (runTestBegin p d).line.stuck = d.line.stuck := by
  unfold runTestBegin
  (repeat' split) <;> simp

@[simp] theorem startStep_frame (d : Device) :
    (startStep d).tracker = d.tracker ∧ (startStep d).roster = d.roster ∧ (startStep d).trainer = d.trainer ∧
    (startStep d).weft = d.weft ∧ (startStep d).pins = d.pins ∧ (startStep d).control.state = d.control.state ∧
    (startStep d).control.role = d.control.role ∧ (startStep d).control.number = d.control.number ∧
    (startStep d).control.config = d.control.config ∧ (startStep d).control.powered = d.control.powered ∧
    (startStep d).control.resetPending = d.control.resetPending ∧ (startStep d).store.mem = d.store.mem ∧
    (startStep d).store.written = d.store.written ∧ (startStep d).seq.runs = d.seq.runs ∧
    (startStep d).seq.table = d.seq.table ∧ (startStep d).seq.pos = d.seq.pos ∧
    (startStep d).seq.history = d.seq.history ∧ (startStep d).line.queue = d.line.queue ∧
    (startStep d).line.replySlot = d.line.replySlot ∧ (startStep d).line.stuck = d.line.stuck := by
  unfold startStep
  simp only []
  (repeat' split) <;> simp

@[simp] theorem runTestStep_frame (p : List Byte) (d : Device) :
    (runTestStep p d).tracker = d.tracker ∧ (runTestStep p d).roster = d.roster ∧
    (runTestStep p d).trainer = d.trainer ∧ (runTestStep p d).weft = d.weft ∧ (runTestStep p d).pins = d.pins ∧
    (runTestStep p d).control.state = d.control.state ∧ (runTestStep p d).control.role = d.control.role ∧
    (runTestStep p d).control.number = d.control.number ∧ (runTestStep p d).control.config = d.control.config ∧
    (runTestStep p d).control.powered = d.control.powered ∧
    (runTestStep p d).control.resetPending = d.control.resetPending ∧ (runTestStep p d).store.mem = d.store.mem ∧
    (runTestStep p d).store.written = d.store.written ∧ (runTestStep p d).seq.runs = d.seq.runs ∧
    (runTestStep p d).seq.table = d.seq.table ∧ (runTestStep p d).seq.pos = d.seq.pos ∧
    (runTestStep p d).seq.history = d.seq.history ∧ (runTestStep p d).line.queue = d.line.queue ∧
    (runTestStep p d).line.stuck = d.line.stuck := by
  unfold runTestStep withLength
  split
  · dsimp only
    (repeat' split) <;> simp
  · simp

@[simp] theorem runTestEnd_frame (p : List Byte) (d : Device) :
    (runTestEnd p d).tracker = d.tracker ∧ (runTestEnd p d).seq = d.seq ∧ (runTestEnd p d).roster = d.roster ∧
    (runTestEnd p d).fire = d.fire ∧ (runTestEnd p d).trainer = d.trainer ∧ (runTestEnd p d).weft = d.weft ∧
    (runTestEnd p d).pins = d.pins ∧ (runTestEnd p d).control.role = d.control.role ∧
    (runTestEnd p d).control.number = d.control.number ∧ (runTestEnd p d).control.config = d.control.config ∧
    (runTestEnd p d).control.powered = d.control.powered ∧
    (runTestEnd p d).control.resetPending = d.control.resetPending ∧ (runTestEnd p d).store.mem = d.store.mem ∧
    (runTestEnd p d).store.written = d.store.written ∧ (runTestEnd p d).strings.faults = d.strings.faults ∧
    (runTestEnd p d).line.queue = d.line.queue ∧ (runTestEnd p d).line.stuck = d.line.stuck := by
  unfold runTestEnd withLength
  (repeat' split) <;> simp

@[simp] theorem runTrain_frame (armature : BitVec 8) (p : List Byte) (d : Device) :
    (runTrain armature p d).tracker = d.tracker ∧ (runTrain armature p d).seq = d.seq ∧
    (runTrain armature p d).store = d.store ∧ (runTrain armature p d).roster = d.roster ∧
    (runTrain armature p d).fire = d.fire ∧ (runTrain armature p d).weft = d.weft ∧
    (runTrain armature p d).control.role = d.control.role ∧
    (runTrain armature p d).control.number = d.control.number ∧
    (runTrain armature p d).control.config = d.control.config ∧
    (runTrain armature p d).control.powered = d.control.powered ∧
    (runTrain armature p d).control.resetPending = d.control.resetPending ∧
    (runTrain armature p d).strings.faults = d.strings.faults ∧ (runTrain armature p d).line.queue = d.line.queue ∧
    (runTrain armature p d).line.stuck = d.line.stuck := by
  unfold runTrain withLength
  split
  · simp
  · split
    · dsimp only
      (repeat' split) <;> simp
    · simp

@[simp] theorem runStatus_frame (p : List Byte) (d : Device) :
    (runStatus p d).tracker = d.tracker ∧ (runStatus p d).seq = d.seq ∧ (runStatus p d).store = d.store ∧
    (runStatus p d).roster = d.roster ∧ (runStatus p d).fire = d.fire ∧ (runStatus p d).strings = d.strings ∧
    (runStatus p d).trainer = d.trainer ∧ (runStatus p d).weft = d.weft ∧ (runStatus p d).control = d.control ∧
    (runStatus p d).pins = d.pins ∧ (runStatus p d).line.queue = d.line.queue ∧
    (runStatus p d).line.stuck = d.line.stuck := by
  unfold runStatus withLength
  (repeat' split) <;> simp

@[simp] theorem runFlagsTake_frame (p : List Byte) (d : Device) :
    (runFlagsTake p d).tracker = d.tracker ∧ (runFlagsTake p d).seq = d.seq ∧ (runFlagsTake p d).store = d.store ∧
    (runFlagsTake p d).roster = d.roster ∧ (runFlagsTake p d).fire = d.fire ∧
    (runFlagsTake p d).strings = d.strings ∧ (runFlagsTake p d).trainer = d.trainer ∧
    (runFlagsTake p d).weft = d.weft ∧ (runFlagsTake p d).pins = d.pins ∧
    (runFlagsTake p d).control.state = d.control.state ∧ (runFlagsTake p d).control.role = d.control.role ∧
    (runFlagsTake p d).control.number = d.control.number ∧ (runFlagsTake p d).control.config = d.control.config ∧
    (runFlagsTake p d).control.powered = d.control.powered ∧
    (runFlagsTake p d).control.resetPending = d.control.resetPending ∧ (runFlagsTake p d).line.queue = d.line.queue ∧
    (runFlagsTake p d).line.stuck = d.line.stuck := by
  unfold runFlagsTake withLength
  (repeat' split) <;> simp

@[simp] theorem runFaultListRead_frame (p : List Byte) (d : Device) :
    (runFaultListRead p d).tracker = d.tracker ∧ (runFaultListRead p d).seq = d.seq ∧
    (runFaultListRead p d).store = d.store ∧ (runFaultListRead p d).roster = d.roster ∧
    (runFaultListRead p d).fire = d.fire ∧ (runFaultListRead p d).strings = d.strings ∧
    (runFaultListRead p d).trainer = d.trainer ∧ (runFaultListRead p d).weft = d.weft ∧
    (runFaultListRead p d).control = d.control ∧ (runFaultListRead p d).pins = d.pins ∧
    (runFaultListRead p d).line.queue = d.line.queue ∧ (runFaultListRead p d).line.stuck = d.line.stuck := by
  unfold runFaultListRead
  (repeat' split) <;> simp

@[simp] theorem clearFaultList_frame (d : Device) :
    (clearFaultList d).tracker = d.tracker ∧ (clearFaultList d).seq = d.seq ∧ (clearFaultList d).store = d.store ∧
    (clearFaultList d).line = d.line ∧ (clearFaultList d).roster = d.roster ∧ (clearFaultList d).fire = d.fire ∧
    (clearFaultList d).trainer = d.trainer ∧ (clearFaultList d).weft = d.weft ∧
    (clearFaultList d).control = d.control ∧ (clearFaultList d).pins = d.pins ∧
    (clearFaultList d).strings.power = d.strings.power ∧ (clearFaultList d).strings.mode = d.strings.mode := by
  unfold clearFaultList
  simp

@[simp] theorem runFaultListClear_frame (p : List Byte) (d : Device) :
    (runFaultListClear p d).tracker = d.tracker ∧ (runFaultListClear p d).seq = d.seq ∧
    (runFaultListClear p d).store = d.store ∧ (runFaultListClear p d).roster = d.roster ∧
    (runFaultListClear p d).fire = d.fire ∧ (runFaultListClear p d).trainer = d.trainer ∧
    (runFaultListClear p d).weft = d.weft ∧ (runFaultListClear p d).control = d.control ∧
    (runFaultListClear p d).pins = d.pins ∧ (runFaultListClear p d).strings.power = d.strings.power ∧
    (runFaultListClear p d).strings.mode = d.strings.mode ∧ (runFaultListClear p d).line.queue = d.line.queue ∧
    (runFaultListClear p d).line.stuck = d.line.stuck := by
  unfold runFaultListClear withLength
  (repeat' split) <;> simp

@[simp] theorem runHistoryRead_frame (p : List Byte) (d : Device) :
    (runHistoryRead p d).tracker = d.tracker ∧ (runHistoryRead p d).seq = d.seq ∧
    (runHistoryRead p d).store = d.store ∧ (runHistoryRead p d).roster = d.roster ∧
    (runHistoryRead p d).fire = d.fire ∧ (runHistoryRead p d).strings = d.strings ∧
    (runHistoryRead p d).trainer = d.trainer ∧ (runHistoryRead p d).weft = d.weft ∧
    (runHistoryRead p d).control = d.control ∧ (runHistoryRead p d).pins = d.pins ∧
    (runHistoryRead p d).line.queue = d.line.queue ∧ (runHistoryRead p d).line.stuck = d.line.stuck := by
  unfold runHistoryRead
  (repeat' split) <;> simp

@[simp] theorem runRosterRead_frame (p : List Byte) (d : Device) :
    (runRosterRead p d).tracker = d.tracker ∧ (runRosterRead p d).seq = d.seq ∧ (runRosterRead p d).store = d.store ∧
    (runRosterRead p d).roster = d.roster ∧ (runRosterRead p d).fire = d.fire ∧
    (runRosterRead p d).strings = d.strings ∧ (runRosterRead p d).trainer = d.trainer ∧
    (runRosterRead p d).weft = d.weft ∧ (runRosterRead p d).control = d.control ∧ (runRosterRead p d).pins = d.pins ∧
    (runRosterRead p d).line.queue = d.line.queue ∧ (runRosterRead p d).line.stuck = d.line.stuck := by
  unfold runRosterRead
  (repeat' split) <;> simp

@[simp] theorem runNoticeMask_frame (p : List Byte) (d : Device) :
    (runNoticeMask p d).tracker = d.tracker ∧ (runNoticeMask p d).seq = d.seq ∧ (runNoticeMask p d).store = d.store ∧
    (runNoticeMask p d).roster = d.roster ∧ (runNoticeMask p d).fire = d.fire ∧
    (runNoticeMask p d).strings = d.strings ∧ (runNoticeMask p d).trainer = d.trainer ∧
    (runNoticeMask p d).weft = d.weft ∧ (runNoticeMask p d).pins = d.pins ∧
    (runNoticeMask p d).control.state = d.control.state ∧ (runNoticeMask p d).control.role = d.control.role ∧
    (runNoticeMask p d).control.number = d.control.number ∧ (runNoticeMask p d).control.config = d.control.config ∧
    (runNoticeMask p d).control.powered = d.control.powered ∧
    (runNoticeMask p d).control.resetPending = d.control.resetPending ∧
    (runNoticeMask p d).line.queue = d.line.queue ∧ (runNoticeMask p d).line.stuck = d.line.stuck := by
  unfold runNoticeMask
  (repeat' split) <;> simp

@[simp] theorem runReset_frame (p : List Byte) (d : Device) :
    (runReset p d).tracker = d.tracker ∧ (runReset p d).seq = d.seq ∧ (runReset p d).store = d.store ∧
    (runReset p d).roster = d.roster ∧ (runReset p d).fire = d.fire ∧ (runReset p d).strings = d.strings ∧
    (runReset p d).trainer = d.trainer ∧ (runReset p d).weft = d.weft ∧ (runReset p d).pins = d.pins ∧
    (runReset p d).control.state = d.control.state ∧ (runReset p d).control.role = d.control.role ∧
    (runReset p d).control.number = d.control.number ∧ (runReset p d).control.config = d.control.config ∧
    (runReset p d).control.powered = d.control.powered ∧ (runReset p d).line.queue = d.line.queue ∧
    (runReset p d).line.stuck = d.line.stuck := by
  unfold runReset withLength
  (repeat' split) <;> simp

@[simp] theorem othersHold_frame (d : Device) :
    (othersHold d).tracker = d.tracker ∧ (othersHold d).roster = d.roster ∧ (othersHold d).fire = d.fire ∧
    (othersHold d).trainer = d.trainer ∧ (othersHold d).pins = d.pins ∧
    (othersHold d).control.state = d.control.state ∧ (othersHold d).control.role = d.control.role ∧
    (othersHold d).control.number = d.control.number ∧ (othersHold d).control.config = d.control.config ∧
    (othersHold d).control.powered = d.control.powered ∧
    (othersHold d).control.resetPending = d.control.resetPending ∧ (othersHold d).store.mem = d.store.mem ∧
    (othersHold d).store.written = d.store.written ∧ (othersHold d).seq.runs = d.seq.runs ∧
    (othersHold d).seq.table = d.seq.table ∧ (othersHold d).strings.power = d.strings.power ∧
    (othersHold d).strings.faults = d.strings.faults ∧ (othersHold d).strings.mode = d.strings.mode ∧
    (othersHold d).line.queue = d.line.queue ∧ (othersHold d).line.replySlot = d.line.replySlot ∧
    (othersHold d).line.stuck = d.line.stuck ∧ (othersHold d).weft.map = d.weft.map := by
  unfold othersHold
  simp

@[simp] theorem detectHold_frame (d : Device) :
    (detectHold d).tracker = d.tracker ∧ (detectHold d).roster = d.roster ∧ (detectHold d).fire = d.fire ∧
    (detectHold d).trainer = d.trainer ∧ (detectHold d).pins = d.pins ∧
    (detectHold d).control.state = d.control.state ∧ (detectHold d).control.role = d.control.role ∧
    (detectHold d).control.number = d.control.number ∧ (detectHold d).control.config = d.control.config ∧
    (detectHold d).control.powered = d.control.powered ∧
    (detectHold d).control.resetPending = d.control.resetPending ∧ (detectHold d).store.mem = d.store.mem ∧
    (detectHold d).store.written = d.store.written ∧ (detectHold d).seq.runs = d.seq.runs ∧
    (detectHold d).seq.table = d.seq.table ∧ (detectHold d).strings.power = d.strings.power ∧
    (detectHold d).strings.faults = d.strings.faults ∧ (detectHold d).strings.mode = d.strings.mode ∧
    (detectHold d).line.queue = d.line.queue ∧ (detectHold d).line.replySlot = d.line.replySlot ∧
    (detectHold d).line.stuck = d.line.stuck ∧ (detectHold d).weft.map = d.weft.map := by
  unfold detectHold
  simp

end Sys2Proof.Machine
end

