-- ==== Sys2Proof/Laws/Memory.lean ====
section
/-! SUPPORT. The pattern memory: every operation keeps the canonical form, a byte written is the byte read, and every other byte
is left as it was (R57). -/

namespace Sys2Proof.Machine

theorem wfFrom_cons (lo a : Nat) (b : Byte) (m : PatternMemory) :
    Memory.wfFrom lo ((a, b) :: m) = true ↔
      lo ≤ a ∧ a < memSize ∧ b ≠ Config.unlistedByte ∧ Memory.wfFrom (a + 1) m = true := by
  simp [Memory.wfFrom, and_assoc]

theorem wfFrom_mono {lo lo' : Nat} (m : PatternMemory) (h : lo' ≤ lo) (hm : Memory.wfFrom lo m = true) :
    Memory.wfFrom lo' m = true := by
  cases m with
  | nil => rfl
  | cons c m =>
    obtain ⟨a, b⟩ := c
    rw [wfFrom_cons] at hm ⊢
    exact ⟨by omega, hm.2⟩

/-- Below the lowest address that may be listed nothing is listed. -/
theorem read_below {lo x : Nat} (m : PatternMemory) (hm : Memory.wfFrom lo m = true) (h : x < lo) :
    Memory.read m x = Config.unlistedByte := by
  induction m generalizing lo with
  | nil => rfl
  | cons c m ih =>
    obtain ⟨a, b⟩ := c
    rw [wfFrom_cons] at hm
    rw [Memory.read, if_neg (by omega)]
    exact ih hm.2.2.2 (by omega)

theorem insert_wfFrom {lo x : Nat} (m : PatternMemory) (v : Byte) (hm : Memory.wfFrom lo m = true) (h : lo ≤ x)
    (hx : x < memSize) : Memory.wfFrom lo (Memory.insert m x v) = true := by
  induction m generalizing lo with
  | nil =>
    unfold Memory.insert
    split
    · rfl
    · exact (wfFrom_cons ..).2 ⟨h, hx, ‹_›, rfl⟩
  | cons c m ih =>
    obtain ⟨a, b⟩ := c
    have hc := (wfFrom_cons ..).1 hm
    unfold Memory.insert
    split
    · split
      · exact hm
      · exact (wfFrom_cons ..).2 ⟨h, hx, ‹_›, (wfFrom_cons ..).2 ⟨by omega, hc.2⟩⟩
    · split
      · split
        · exact wfFrom_mono m (by omega) hc.2.2.2
        · exact (wfFrom_cons ..).2 ⟨h, hx, ‹_›, by subst_vars; exact hc.2.2.2⟩
      · exact (wfFrom_cons ..).2 ⟨hc.1, hc.2.1, hc.2.2.1, ih hc.2.2.2 (by omega)⟩

theorem read_insert {lo : Nat} (m : PatternMemory) (x : Nat) (v : Byte) (y : Nat) (hm : Memory.wfFrom lo m = true) :
    Memory.read (Memory.insert m x v) y = if y = x then v else Memory.read m y := by
  induction m generalizing lo with
  | nil =>
    unfold Memory.insert
    by_cases hv : v = Config.unlistedByte
    · rw [if_pos hv, Memory.read, hv, ite_self]
    · rw [if_neg hv, Memory.read, Memory.read]
      by_cases hy : y = x
      · rw [if_pos hy, if_pos hy.symm]
      · rw [if_neg hy, if_neg (Ne.symm hy), Memory.read]
  | cons c m ih =>
    obtain ⟨a, b⟩ := c
    have hc := (wfFrom_cons ..).1 hm
    have below : ∀ z, z < a + 1 → Memory.read m z = Config.unlistedByte := fun z hz => read_below m hc.2.2.2 hz
    unfold Memory.insert
    by_cases h1 : x < a
    · rw [if_pos h1]
      by_cases hv : v = Config.unlistedByte
      · rw [if_pos hv]
        by_cases hy : y = x
        · subst hy
          rw [if_pos rfl, Memory.read, if_neg (by omega), below y (by omega), hv]
        · rw [if_neg hy]
      · rw [if_neg hv]
        by_cases hy : y = x
        · rw [if_pos hy, Memory.read, if_pos hy.symm]
        · rw [if_neg hy, Memory.read, if_neg (Ne.symm hy)]
    · rw [if_neg h1]
      by_cases h2 : x = a
      · subst h2
        rw [if_pos rfl]
        by_cases hv : v = Config.unlistedByte
        · rw [if_pos hv]
          by_cases hy : y = x
          · subst hy
            rw [if_pos rfl, below y (by omega), hv]
          · rw [if_neg hy, Memory.read, if_neg (Ne.symm hy)]
        · rw [if_neg hv]
          by_cases hy : y = x
          · rw [if_pos hy, Memory.read, if_pos hy.symm]
          · rw [if_neg hy, Memory.read, Memory.read, if_neg (Ne.symm hy), if_neg (Ne.symm hy)]
      · rw [if_neg h2]
        by_cases hya : y = a
        · subst hya
          rw [Memory.read, if_pos rfl, if_neg (Ne.symm h2), Memory.read, if_pos rfl]
        · rw [Memory.read, if_neg (Ne.symm hya), ih hc.2.2.2, Memory.read, if_neg (Ne.symm hya)]

/-- A write keeps the canonical form. -/
theorem write_wf (m : PatternMemory) (x : Nat) (v : Byte) (hm : Memory.wf m = true) :
    Memory.wf (Memory.write m x v) = true := by
  unfold Memory.write
  split
  · exact insert_wfFrom m v hm (Nat.zero_le x) ‹_›
  · exact hm

/-- A write changes the byte at its address, if that address exists, and no other. -/
theorem read_write (m : PatternMemory) (x : Nat) (v : Byte) (y : Nat) (hm : Memory.wf m = true) :
    Memory.read (Memory.write m x v) y = if y = x ∧ x < memSize then v else Memory.read m y := by
  unfold Memory.write
  split
  · rw [read_insert m x v y hm]
    simp_all
  · simp_all

theorem writeBytes_wf (m : PatternMemory) (x : Nat) (bs : List Byte) (hm : Memory.wf m = true) :
    Memory.wf (Memory.writeBytes m x bs) = true := by
  induction bs generalizing m x with
  | nil => exact hm
  | cons b bs ih => exact ih _ _ (write_wf m x b hm)

theorem writeCells_wf (m : PatternMemory) (cells : List Host.Cell) (hm : Memory.wf m = true) :
    Memory.wf (Memory.writeCells m cells) = true := by
  unfold Memory.writeCells
  induction cells generalizing m with
  | nil => exact hm
  | cons c cells ih => exact ih _ (write_wf m c.1 c.2 hm)

/-- Bytes written at rising addresses are read there; every other byte is as before. -/
theorem read_writeBytes (m : PatternMemory) (x : Nat) (bs : List Byte) (y : Nat) (hm : Memory.wf m = true)
    (hx : x + bs.length ≤ memSize) :
    Memory.read (Memory.writeBytes m x bs) y =
      if x ≤ y ∧ y < x + bs.length then bs.getD (y - x) 0#8 else Memory.read m y := by
  induction bs generalizing m x with
  | nil =>
    rw [Memory.writeBytes, if_neg]
    simp
  | cons b bs ih =>
    simp only [List.length_cons] at hx
    rw [Memory.writeBytes, ih _ _ (write_wf m x b hm) (by omega), read_write m x b y hm]
    by_cases hy : y = x
    · subst hy
      rw [if_neg (by omega), if_pos ⟨rfl, by omega⟩, if_pos (by simp [List.length_cons])]
      simp
    · rw [if_neg (c := y = x ∧ x < memSize) (fun h => hy h.1)]
      by_cases hin : x + 1 ≤ y ∧ y < x + 1 + bs.length
      · rw [if_pos hin, if_pos (by simp only [List.length_cons]; omega), show y - x = (y - (x + 1)) + 1 by omega,
          List.getD_cons_succ]
      · rw [if_neg hin, if_neg (by simp only [List.length_cons]; omega)]

/-- Reading back the bytes just written. -/
theorem readBytes_writeBytes (m : PatternMemory) (x : Nat) (bs : List Byte) (i n : Nat) (hm : Memory.wf m = true)
    (hx : x + bs.length ≤ memSize) (hn : i + n ≤ bs.length) :
    Memory.readBytes (Memory.writeBytes m x bs) (x + i) n = (bs.drop i).take n := by
  apply List.ext_getElem
  · simp [Memory.readBytes]
    omega
  · intro k h1 h2
    simp only [Memory.readBytes, List.length_map, List.length_range] at h1
    simp only [Memory.readBytes, List.getElem_map, List.getElem_range, List.getElem_take, List.getElem_drop]
    rw [read_writeBytes m x bs _ hm hx, if_pos (by omega), show x + i + k - x = i + k by omega, List.getD_eq_getElem?_getD,
      List.getElem?_eq_getElem (by omega)]
    rfl

end Sys2Proof.Machine
end

