-- ==== Sys2Proof/Laws/Effects.lean ====
section
/-! SUPPORT. What each shared operation does to the block it works on, once: with the frames of Laws/Frames.lean this says everything
it can do. -/

namespace Sys2Proof.Machine

/-! ## Flags, holds, pulses -/

theorem setFlag_control (f : Flag) (d : Device) :
    (setFlag f d).control = { d.control with flags := d.control.flags ||| BitVec.twoPow 30 (flagNumber f) } := rfl

theorem setFlag_eq (f : Flag) (d : Device) :
    setFlag f d =
      { d with control := { d.control with flags := d.control.flags ||| BitVec.twoPow 30 (flagNumber f) } } := rfl

/-- A flag set reads as set (R176). -/
theorem setFlag_hasFlag (f : Flag) (d : Device) : hasFlag f (setFlag f d) = true := by
  cases f <;> simp [hasFlag, setFlag_control, flagNumber]

/-- A pulse is begun, merged or, on a STUCK line, not sent (R86). -/
theorem requestPulse_cases (d : Device) :
    (d.line.stuck = true ∧ requestPulse d = d) ∨
    (d.line.stuck = false ∧ (∃ n, d.line.tx = .pulse n) ∧ requestPulse d = setFlag .holdSent d) ∨
    (d.line.stuck = false ∧ (∀ n, d.line.tx ≠ .pulse n) ∧
      requestPulse d = setFlag .holdSent { d with line := { d.line with
        tx := .pulse 0
        rx := disown d.line.rx
        recessiveRun := 0
        halfBit := false
        ownPulse := d.line.ownPulse || decide (d.line.dominantRun < 22) } }) := by
  unfold requestPulse
  cases hs : d.line.stuck
  · cases ht : d.line.tx <;> simp [onLine]
  · simp

/-- An own hold outside WEAVE does nothing; in WEAVE it voids the pick and asks for the pulse (R44). -/
theorem ownHold_cases (d : Device) :
    (d.control.state ≠ .weave ∧ ownHold d = d) ∨
    (d.control.state = .weave ∧ ownHold d = requestPulse { d with seq := { d.seq with void := true } }) := by
  unfold ownHold
  split <;> simp_all [onSeq]

theorem ownHold_seq (d : Device) :
    (ownHold d).seq = { d.seq with void := d.seq.void || decide (d.control.state = .weave) } := by
  rcases ownHold_cases d with ⟨h, e⟩ | ⟨h, e⟩ <;> rw [e] <;> simp [h]

theorem discardBeacon_slot (late : Bool) (d : Device) : (discardBeacon late d).line.beaconSlot = none := by
  unfold discardBeacon
  split <;> simp_all

/-! ## The retained record -/

theorem writeRetained_control (d : Device) :
    (writeRetained d).control = { d.control with
      writes := d.control.writes ++ [recordOf d.seq.pos ((d.control.config.map (·.identity)).getD 0#32)] } := rfl

/-- The record that a write leaves is sound (R178). -/
theorem recordOf_sound (p : Position) (identity : BitVec 32) : recordSound (recordOf p identity) = true := by
  simp [recordSound, recordOf, recordPosition]

theorem recordOf_position (p : Position) (identity : BitVec 32) : recordPosition (recordOf p identity) = p := rfl

/-! ## Row fetches -/

theorem startPickFetch_seq (reverse : Bool) (d : Device) :
    (startPickFetch reverse d).seq = { d.seq with pickWeft := overrideOf d, pickLift := none } := rfl

theorem startPickFetch_store (reverse : Bool) (d : Device) :
    (startPickFetch reverse d).store =
      { d.store with fetch := .fetching d.seq.pos.row (.pick reverse (overrideOf d)) 0, result := none } := rfl

theorem startTestFetch_seq (row : Nat) (d : Device) :
    (startTestFetch row d).seq = { d.seq with pickWeft := none, pickLift := none } := rfl

theorem startTestFetch_store (row : Nat) (d : Device) :
    (startTestFetch row d).store = { d.store with fetch := .fetching row .test 0, result := none } := rfl

theorem bringBackWeft_seq (e : HistoryEntry) (d : Device) :
    (bringBackWeft e d).seq = { d.seq with pickWeft := some ((overrideOf d).getD e.weft) } := rfl

theorem endPickFetch_fetch (d : Device) (row e : Nat) (r : Bool) (o : Option Nat) :
    (endPickFetch d).store.fetch ≠ .fetching row (.pick r o) e := by
  unfold endPickFetch
  split
  · simp
  · next h => intro hf; exact h _ _ _ _ hf

theorem endTestFetch_fetch (d : Device) (row e : Nat) : (endTestFetch d).store.fetch ≠ .fetching row .test e := by
  unfold endTestFetch
  split
  · simp
  · next h => intro hf; exact h _ _ hf

/-- The marks after one is set. -/
theorem mem_setMark (r x : Nat) (l : List Nat) : x ∈ setMark r l ↔ x = r ∨ x ∈ l := by
  induction l with
  | nil => simp [setMark]
  | cons y ys ih =>
    simp only [setMark]
    split
    · simp
    · split
      · next h => subst h; simp
      · simp [ih]; tauto

theorem storeRow_store (row : Nat) (weft : Byte) (field : List Byte) (d : Device) :
    (storeRow row weft field d).store = { d.store with
      mem := Memory.writeBytes d.store.mem (slotAddress row) (recordImage weft field)
      written := setMark row d.store.written } := rfl

/-! ## The counting step -/

/-- A single-channel change is a step in its direction (R1). -/
theorem shaftStep_of_direction {a b index : Bool} {dt : Lapse} {sense : List StringBits} {d : Device} {dir : Direction}
    (h : directionOf d.tracker.phase (phaseOf a b) = some dir) :
    shaftStep a b index dt sense d = takeStep dir index (onPins (fun p => { p with sense := sense }) (pass dt d)) := by
  simp [shaftStep, h]

theorem directionOf_forward (p : BitVec 2) : directionOf p (p + 1#2) = some .forward := by
  revert p; decide

theorem directionOf_reverse (p : BitVec 2) : directionOf p (p - 1#2) = some .reverse := by
  revert p; decide

/-! ## Boundary crossings -/

theorem crossPosition_seq (d : Device) :
    (crossPosition d).seq = { d.seq with
      history := pushHistory (entryFor (crossingKind d) d) d.seq.history
      pos := if crossingKind d = .advance then Sys2Proof.Machine.advance d.seq.runs d.seq.pos else d.seq.pos
      void := false
      guardOpen := true } := rfl

theorem pushHistory_length (e : HistoryEntry) (h : List HistoryEntry) : (pushHistory e h).length ≤ 24 := by
  simp [pushHistory]

/-! ## Strings -/

/-- The strings after a change of those the station drives. -/
theorem mapStrings_getElem? (f : Nat → SelString → SelString) (d : Device) (i : Nat) :
    (mapStrings f d).strings.strings[i]? =
      (d.strings.strings[i]?).map fun s => if i < stringCount d then f i s else s := by
  simp [mapStrings, onStrings]

theorem mapAllStrings_strings (f : SelString → SelString) (d : Device) :
    (mapAllStrings f d).strings = { d.strings with strings := d.strings.strings.map f } := rfl

@[simp] theorem stringCount_mapStrings (f : Nat → SelString → SelString) (d : Device) :
    stringCount (mapStrings f d) = stringCount d := rfl

/-- The strings after those satisfying `p` fire (R126). -/
theorem fireWhere_getElem? (p : Nat → SelString → Bool) (d : Device) (i : Nat) :
    (fireWhere p d).strings.strings[i]? =
      (d.strings.strings[i]?).map fun s => if i < stringCount d ∧ p i s = true then fireString s else s := by
  unfold fireWhere
  rw [mapStrings_getElem?]
  have h1 : ∀ c f, (doIf c (reportFired f) d).strings = d.strings := by intro c f; cases c <;> rfl
  have h2 : ∀ c f, stringCount (doIf c (reportFired f) d) = stringCount d := by intro c f; cases c <;> rfl
  rw [h1, h2]
  congr 1
  funext s
  split <;> split <;> simp_all

/-- No string is energised where all are dropped. -/
theorem dropAll_off (d : Device) (s : SelString) (h : s ∈ (dropAll d).strings.strings) : s.drive = .off := by
  simp [dropAll, mapAllStrings, onStrings] at h
  obtain ⟨x, -, rfl⟩ := h
  rfl

theorem restAll_off (d : Device) (s : SelString) (h : s ∈ (restAll d).strings.strings) :
    s.drive = .off ∧ s.chain = .resting := by
  simp [restAll, mapAllStrings, onStrings] at h
  obtain ⟨x, -, rfl⟩ := h
  exact ⟨rfl, rfl⟩

theorem powerOff_strings (d : Device) :
    (powerOff d).strings =
      { d.strings with power := .off, strings := d.strings.strings.map (unpowered d.strings.mode) } := rfl

theorem powerOff_drive (d : Device) (s : SelString) (h : s ∈ (powerOff d).strings.strings) : s.drive = .off := by
  simp [powerOff_strings] at h
  obtain ⟨x, -, rfl⟩ := h
  rfl

/-- The dwell test turns string power OFF or does nothing (R127). -/
theorem dwellTest_cases (d : Device) : dwellTest d = d ∨ dwellTest d = powerOff d := by
  unfold dwellTest
  simp only
  split
  · exact .inr rfl
  · exact .inl rfl

/-- A forward K crossing taken again with no direction change strobes and does not test (R132). -/
theorem captureAndTest_again (d : Device) (h : d.strings.captureDone = true) : captureAndTest d = captureAll d := by
  simp [captureAndTest, doIf, h]

/-- A forward K crossing with the capture-done mark clear strobes and tests (R132). -/
theorem captureAndTest_first (d : Device) (h : d.strings.captureDone = false) :
    captureAndTest d = missTest (captureAll d) := by
  simp [captureAndTest, doIf, h]

theorem stringsLeave_mode (d : Device) : (stringsLeave d).strings.mode = .none := rfl

theorem stringsLeave_rest (d : Device) (s : SelString) (h : s ∈ (stringsLeave d).strings.strings) :
    s.drive = .off ∧ s.chain = .resting := restAll_off d s h

/-- The dwell test leaves strings at rest at rest, where no pick is open. -/
theorem dwellTest_rest (d : Device) (hm : d.strings.mode = .none)
    (h : ∀ s ∈ d.strings.strings, s.drive = .off ∧ s.chain = .resting) :
    ∀ s ∈ (dwellTest d).strings.strings, s.drive = .off ∧ s.chain = .resting := by
  rcases dwellTest_cases d with e | e <;> rw [e]
  · exact h
  · simp [powerOff_strings, hm, unpowered, losesSelection]
    exact fun s hs => (h s hs).2

/-! ## Time -/

theorem elapse_tracker (dt : Nat) (others : List LineRun) (d : Device) : (elapse dt others d).tracker = elapseTracker dt d.tracker := rfl

theorem elapse_strings (dt : Nat) (others : List LineRun) (d : Device) :
    (elapse dt others d).strings = { d.strings with
      power := elapsePower dt d.strings.power
      strings := d.strings.strings.map fun s => { s with drive := elapseDrive (inrushTicks d) dt s.drive }
      test := { d.strings.test with op := elapseStep dt d.strings.test.op } } := rfl

theorem elapse_line (dt : Nat) (others : List LineRun) (d : Device) :
    (elapse dt others d).line = { elapseRuns dt others d.line with tx := elapseTx dt d.line.tx } := rfl

/-- A lapse in which no other node drives the line and the straps do not change is its ticks. -/
theorem pass_ticks (n : Nat) (d : Device) : pass ⟨n, [], none⟩ d = elapse n [] d := rfl

/-- A lapse moves the tracker's timers as its ticks do. -/
@[simp] theorem pass_tracker (p : Lapse) (d : Device) : (pass p d).tracker = elapseTracker p.ticks d.tracker := by
  unfold pass
  (repeat' split) <;> simp [elapse_tracker]

@[simp] theorem pass_strings (p : Lapse) (d : Device) : (pass p d).strings = (elapse p.ticks p.line d).strings := by
  unfold pass
  (repeat' split) <;> simp

@[simp] theorem pass_store (p : Lapse) (d : Device) : (pass p d).store = (elapse p.ticks p.line d).store := by
  unfold pass
  (repeat' split) <;> simp

@[simp] theorem pass_trainer (p : Lapse) (d : Device) : (pass p d).trainer = (elapse p.ticks p.line d).trainer := by
  unfold pass
  (repeat' split) <;> simp

@[simp] theorem pass_control (p : Lapse) (d : Device) : (pass p d).control = (elapse p.ticks p.line d).control := by
  unfold pass
  (repeat' split) <;> simp

/-! ## The measured runs (R74) -/

theorem measuredRecessive_pulse {d : Device} (n : Nat) (h : pulsing d = true) : measuredRecessive n d = d := by
  simp [measuredRecessive, h]

theorem measuredRecessive_line {d : Device} (n : Nat) (h : pulsing d = false) :
    (measuredRecessive n d).line = { judgeStopBit d.line with
      recessiveRun := min n 1000, dominantRun := 0, ownPulse := false, halfBit := false } := by
  simp [measuredRecessive, h]

/-- The end of a dominant run judges nothing but a character with a dominant stop bit (R77). -/
theorem judgeStopBit_cases (l : Line) :
    (l.rx ≠ .awaitingRun ∧ judgeStopBit l = l) ∨
    (l.rx = .awaitingRun ∧ l.dominantRun < 22 ∧ judgeStopBit l =
      { l with rx := .hunt, counters := { l.counters with parityFraming := inc16 l.counters.parityFraming } }) ∨
    (l.rx = .awaitingRun ∧ 22 ≤ l.dominantRun ∧ judgeStopBit l = { l with rx := .hunt }) := by
  unfold judgeStopBit
  split
  · by_cases h : l.dominantRun < 22
    · simp_all
    · simp_all
  · simp_all

/-- The bit times of a list of runs. -/
def runTimes (rs : List LineRun) : Nat := (rs.map fun | .recessive k => k | .dominant k => k).sum

/-- What the other nodes do in `n` bit times takes `n` bit times. -/
theorem takeRuns_times (n : Nat) (rs : List LineRun) : runTimes (takeRuns n rs) = n := by
  induction rs generalizing n with
  | nil => simp [takeRuns, runTimes]
  | cons r rs ih =>
    cases r <;> simp only [takeRuns] <;> split
    all_goals first
      | (have := ih (n - ‹Nat›); simp [runTimes] at this ⊢; omega)
      | simp [runTimes]

/-- While another node drives the line, or this station's pulse, the dominant run goes on. -/
theorem measureLine_dominant (n pulse : Nat) (rs : List LineRun) (l : Line)
    (h : (l.tx = .idle ∧ ∃ k, n ≤ k ∧ rs = [.dominant k]) ∨ ((∃ e, l.tx = .pulse e) ∧ n ≤ pulse)) (hn : n ≠ 0) :
    (measureLine n pulse rs l).dominantRun = min (l.dominantRun + n) 2001 ∧
    (measureLine n pulse rs l).recessiveRun = 0 ∧ (measureLine n pulse rs l).ownPulse = l.ownPulse := by
  rcases h with ⟨h, k, hk, rfl⟩ | ⟨⟨e, h⟩, hk⟩ <;>
    simp [measureLine, h, takeRuns, measureRuns, measureRun, hn, Nat.not_lt.mpr hk]

/-- On a line that nobody drives the recessive run goes on. -/
theorem measureLine_recessive (n pulse : Nat) (l : Line) (h : l.tx = .idle) (hn : n ≠ 0) :
    measureLine n pulse [] l = { judgeStopBit l with
      recessiveRun := min (l.recessiveRun + n) 1000, dominantRun := 0, ownPulse := false } := by
  simp [measureLine, h, takeRuns, measureRuns, measureRun, hn]

theorem passedChars_pulse {d : Device} (chars : List LineChar) (h : pulsing d = true) : passedChars chars d = d := by
  unfold passedChars
  cases chars.getLast? <;> simp [h]

/-- Characters that pass leave the runs of the last one's bits. -/
theorem passedChars_line {d : Device} {chars : List LineChar} {c : LineChar} (h : pulsing d = false)
    (hc : chars.getLast? = some c) :
    (passedChars chars d).line =
      { runBits (charBits c) { d.line with dominantRun := 0, ownPulse := false } with halfBit := false } := by
  simp [passedChars, hc, h]

/-- A sound character leaves no dominant run, whatever stood before it: its stop bit is recessive (R73). -/
theorem soundChar_ends_dominant (b : Byte) (l : Line) : (runBits (charBits (soundChar b)) l).dominantRun = 0 := by
  simp [runBits, charBits, soundChar, List.foldl_append, runBit]

theorem elapse_store (dt : Nat) (others : List LineRun) (d : Device) :
    (elapse dt others d).store = { d.store with fetch := elapseFetch dt d.store.fetch } := rfl

theorem elapse_trainer (dt : Nat) (others : List LineRun) (d : Device) : (elapse dt others d).trainer = elapseTrainer dt d.trainer := rfl

/-- Time energises nothing: an output is on after it exactly where it was on before. -/
theorem elapseDrive_off (top dt : Nat) (x : Drive) : elapseDrive top dt x = .off ↔ x = .off := by
  cases x <;> simp [elapseDrive]

theorem elapsePower_on (dt : Nat) (p : Power) : elapsePower dt p = .on ↔ p = .on := by
  cases p <;> simp [elapsePower]

end Sys2Proof.Machine
end

