-- ==== Sys2Proof/Laws/Requests.lean ====
section
/-! SUPPORT. What a command does while main power is present, and what taking a request does, once for all 23 request rows
(R79, R80, R170): the provers cite these and never unfold `takeRequest`. -/

namespace Sys2Proof.Machine

/-! ## A command completes -/

/-- With main power present a command changes the station and nothing else. -/
theorem completed_powered {f : Device → Device} {s : State} (h : s.dev.control.powered = true) :
    completed f s = .next { s with dev := f s.dev } := by
  simp [completed, act, h]

/-- Without main power a command completes and changes nothing. -/
theorem completed_unpowered {f : Device → Device} {s : State} (h : s.dev.control.powered = false) :
    completed f s = .next s := by
  simp [completed, act, h]

/-- Two stations are the same where every block is. -/
theorem Device.ext_blocks {a b : Device} (tracker : a.tracker = b.tracker) (seq : a.seq = b.seq) (store : a.store = b.store)
    (line : a.line = b.line) (roster : a.roster = b.roster) (fire : a.fire = b.fire) (strings : a.strings = b.strings)
    (trainer : a.trainer = b.trainer) (weft : a.weft = b.weft) (control : a.control = b.control) (pins : a.pins = b.pins) :
    a = b := by
  cases a; cases b
  simp_all

/-! ## The frame at the head -/

theorem popQueue_line (d : Device) : (popQueue d).line = { d.line with queue := d.line.queue.tail } := by
  simp [popQueue, List.drop_one]

theorem requestAt_powered {r : Request} {dest : Byte} {p : List Byte} {d : Device} (h : requestAt r dest p d = true) :
    d.control.powered = true := by
  simp [requestAt] at h
  exact h.1.1

theorem requestAt_head {r : Request} {dest : Byte} {p : List Byte} {d : Device} (h : requestAt r dest p d = true) :
    d.line.queue.head? = some ⟨dest, terminalNode, requestCode r, p⟩ := by
  simp [requestAt] at h
  exact h.2

theorem requestAt_standsFor {r : Request} {dest : Byte} {p : List Byte} {d : Device} (h : requestAt r dest p d = true) :
    standsFor r d = true := by
  have hh := requestAt_head h
  simp [requestAt] at h
  simp [standsFor, hh, h.1.2]

theorem requestAt_headFrame {r : Request} {dest : Byte} {p : List Byte} {d : Device} (h : requestAt r dest p d = true) :
    headFrame d = ⟨dest, terminalNode, requestCode r, p⟩ := by
  have hh := requestAt_head h
  simp [headFrame, List.headD_eq_head?_getD, hh]

/-! ## Taking a request -/

/-- A request addressed to all nodes is taken from the queue and acts as R170 says. -/
theorem takeRequest_broadcast {r : Request} {p : List Byte} {d : Device} {broadcast : Device → Device}
    {run : List Byte → Device → Device} (h : requestAt r allNodes p d = true) :
    takeRequest r broadcast run d = broadcast (popQueue d) := by
  simp [takeRequest, requestAt_standsFor h, requestAt_headFrame h]

/-- A station's own number is never the destination of all nodes. -/
theorem byte_ne_allNodes {n : Nat} (h : n < 32) : byte n ≠ allNodes := by
  intro e
  have := congrArg BitVec.toNat e
  simp [byte, allNodes] at this
  omega

/-- A request addressed to this station is taken from the queue and goes on as addressed. -/
theorem takeRequest_addressed {r : Request} {p : List Byte} {d : Device} {broadcast : Device → Device}
    {run : List Byte → Device → Device} (hn : d.control.number < 32)
    (h : requestAt r (byte d.control.number) p d = true) :
    takeRequest r broadcast run d = takeAddressed r run p (popQueue d) := by
  simp [takeRequest, requestAt_standsFor h, requestAt_headFrame h, byte_ne_allNodes hn]

theorem asked_powered {r : Request} {p : List Byte} {d : Device} (h : asked r p d = true) : d.control.powered = true := by
  simp [asked] at h
  exact requestAt_powered h.1.2

/-- A request whose reply can be placed is refused by the table of 12.2 or run. -/
theorem takeRequest_asked {r : Request} {p : List Byte} {d : Device} {broadcast : Device → Device}
    {run : List Byte → Device → Device} (h : asked r p d = true) :
    takeRequest r broadcast run d =
      match acceptance r d.control.state with
      | some res => answer r res (popQueue d)
      | none => run p (popQueue d) := by
  simp [asked] at h
  rw [takeRequest_addressed h.1.1 h.1.2]
  have hr : replyTaken (popQueue d) = false := by
    have := h.2
    simpa [replyTaken, popQueue] using this
  simp only [takeAddressed, hr, popQueue_frame]
  cases acceptance r d.control.state <;> rfl

/-- A request taken in the station state is run over the queue's rest. -/
theorem takeRequest_taken {r : Request} {p : List Byte} {d : Device} {broadcast : Device → Device}
    {run : List Byte → Device → Device} (h : asked r p d = true) (hs : d.control.state ∈ takenIn r) :
    takeRequest r broadcast run d = run p (popQueue d) := by
  rw [takeRequest_asked h]
  simp [acceptance, hs]

/-- A request outside the states that take it is refused with STATE, in TRAIN with BUSY (12.2). -/
theorem takeRequest_refused {r : Request} {p : List Byte} {d : Device} {broadcast : Device → Device}
    {run : List Byte → Device → Device} (h : asked r p d = true) (hs : d.control.state ∉ takenIn r) :
    takeRequest r broadcast run d = answer r (if d.control.state = .train then .busy else .state) (popQueue d) := by
  rw [takeRequest_asked h]
  rw [acceptance, if_neg hs]
  by_cases ht : d.control.state = .train <;> simp [ht]

/-- A request that stands at the head while no reply can be placed is dropped and counted (R80 step 4). -/
theorem takeRequest_dropped {r : Request} {p : List Byte} {d : Device} {broadcast : Device → Device}
    {run : List Byte → Device → Device} (hn : d.control.number < 32)
    (h : requestAt r (byte d.control.number) p d = true) (hr : replyTaken d = true) :
    takeRequest r broadcast run d = dropRequest (popQueue d) := by
  rw [takeRequest_addressed hn h]
  have hr' : replyTaken (popQueue d) = true := by
    simpa [replyTaken, popQueue] using hr
  simp [takeAddressed, hr']

/-- A reply to the request at the head leaves the line `answered`. -/
theorem placeReply_popQueue (r : Request) (res : Result) (t : Detail) (data : List Byte) (d : Device) :
    placeReply (replyFrame d r res t data) (popQueue d) = { d with line := answered r res t data d } := by
  simp [placeReply, popQueue, onLine, answered, List.drop_one]

/-- Refusing or accepting without an effect changes the line alone. -/
theorem answer_popQueue (r : Request) (res : Result) (d : Device) :
    answer r res (popQueue d) = { d with line := answered r res noDetail [] d } := by
  have : replyFrame (popQueue d) r res noDetail [] = replyFrame d r res noDetail [] := by simp [replyFrame]
  rw [answer, this, placeReply_popQueue]

theorem answerData_popQueue (r : Request) (res : Result) (data : List Byte) (d : Device) :
    answerData r res data (popQueue d) = { d with line := answered r res noDetail data d } := by
  have : replyFrame (popQueue d) r res noDetail data = replyFrame d r res noDetail data := by simp [replyFrame]
  rw [answerData, this, placeReply_popQueue]

theorem answerInvalid_popQueue (r : Request) (t : Detail) (d : Device) :
    answerInvalid r t (popQueue d) = { d with line := answered r .invalid t [] d } := by
  have : replyFrame (popQueue d) r .invalid t [] = replyFrame d r .invalid t [] := by simp [replyFrame]
  rw [answerInvalid, this, placeReply_popQueue]

end Sys2Proof.Machine
end

