-- ==== Sys2Proof/WellFormed.lean ====
section
/-! DEFINITION. Which commands the connections of a station can bring: the ranges of the operands (00, connections;
R57, R73, R74, R75). Every command has a meaning whether or not it is well formed. -/

namespace Sys2Proof

/-- Bytes of the pattern memory have addresses below 4 MiB (R57). -/
def cellsInMemory (cells : List Host.Cell) : Bool := cells.all fun c => decide (c.1 < 4194304)

/-- A retained record whose fields fit their bytes (R178 with the field widths of R20). -/
def RetainedRecord.fits (r : RetainedRecord) : Bool :=
  decide (r.run < 256) && decide (r.iteration < 65536) && decide (r.row < 65536) && decide (r.piece < 16777216)

/-- A strap number has five pins (R180), and what the other nodes did lies within the ticks, two to a bit time (R73, R74). -/
def Lapse.fits (p : Lapse) : Bool :=
  p.straps.all (fun x => decide (x.1 < 32))
    && decide (2 * (p.line.map fun | .recessive bt => bt | .dominant bt => bt).sum ≤ p.ticks + 1)

/-- The ranges of a command's operands. -/
def Instr.wf : Instr → Bool
  | .countingStep _ _ _ dt sense => decide (sense.length = 8) && dt.fits
  | .encoderGlitch dt => dt.fits
  | .testStepCapture sense => decide (sense.length = 8)
  | .fetchComplete upset => cellsInMemory upset
  | .frameReceived chars => decide (chars.length ≤ 166)
  | .frameStart recessive => decide (recessive ≤ 1000)
  | .frameMark recessive _ _ => decide (recessive ≤ 1000)
  | .inrushEnd string => decide (string < 8)
  | .feederStopInput finger _ => decide (finger < 8)
  | .powerOn number _ _ _ _ backup sram =>
      decide (number < 32) && backup.all RetainedRecord.fits && cellsInMemory sram
  | .resetPin number _ _ _ => decide (number < 32)
  | _ => true

end Sys2Proof
end

