-- ==== Sys2Proof/Tests/Slice0.lean ====
section
/-! SUPPORT. Tests: what each WellFormed check refuses, one step of each command on a small state (expected values from the worked
sequences and tables of the spec), and for every statement with hypotheses a concrete state that meets them. -/

namespace Sys2Proof.Tests

-- One kernel evaluation at a time: side by side the tests would need a thread and its stack each.
set_option Elab.async false

open Sys2Proof Sys2Proof.Machine

/-! ## Small states -/

/-- The angles of the worked sequences of 1.3, 7.6 and 12.3, capacity 256. -/
def secCfg : Configuration where
  capacity := 256
  index := 1000
  b := 0
  c := 1024
  w := 2300
  k := 2560
  d := 3200
  fa := 0
  ao := 0
  ac := 0
  g := 64
  p := 600
  m := 1000
  latency := 2400
  sCreep := 8000
  sFast := 2000
  dwell := 30
  identity := 0x00A3F210#32

/-- The weft angles of the worked sequence of 10.4. -/
def weftCfg : Configuration :=
  { secCfg with capacity := 0, c := 0, w := 0, k := 0, d := 0, fa := 600, ao := 1600, ac := 2800, p := 0, m := 0
                latency := 0, dwell := 0 }

/-- A section station in a state, configured. -/
def sec (st : StationState) : Device :=
  { State.reset.dev with control := { State.reset.dev.control with state := st, config := some secCfg, flags := 0#30 } }

/-- A weft station in a state, configured. -/
def wef (st : StationState) : Device :=
  { State.reset.dev with control :=
      { State.reset.dev.control with state := st, role := .weftRole, config := some weftCfg, flags := 0#30 } }

/-- A small point repeat (2.6): rows 0 to 3 forward, then 2 down to 1. -/
def twoRuns : List (Option Run) := [some ⟨0, 3, 1, 1, none⟩, some ⟨2, 1, 1, 0, none⟩] ++ List.replicate 62 none

/-- The same station with the point repeat and its rows marked written. -/
def loaded (d : Device) : Device :=
  { d with seq := { d.seq with runs := twoRuns }, store := { d.store with written := [0, 1, 2, 3] } }

def turn (f : Tracker → Tracker) (d : Device) : Device := { d with tracker := f d.tracker }
def line (f : Line → Line) (d : Device) : Device := { d with line := f d.line }
def seq (f : Sequencer → Sequencer) (d : Device) : Device := { d with seq := f d.seq }
def control (f : Control → Control) (d : Device) : Device := { d with control := f d.control }
def strs (f : StringDriver → StringDriver) (d : Device) : Device := { d with strings := f d.strings }
def train (f : Trainer → Trainer) (d : Device) : Device := { d with trainer := f d.trainer }
def weft (f : WeftSel → WeftSel) (d : Device) : Device := { d with weft := f d.weft }

/-- The shaft REFERENCED and turning forward in RUN at an angle. -/
def turning (a : Nat) (d : Device) : Device :=
  turn (fun t => { t with angle := a, referenced := true, speed := .run, spanCounts := some 3, unsettled := 0 }) d

/-- One request of the terminal for this station in the receive queue. -/
def asking (r : Request) (p : List Byte) (d : Device) : Device :=
  line (fun l => { l with queue := [⟨byte d.control.number, terminalNode, requestCode r, p⟩] }) d

/-- The same addressed to all nodes. -/
def calling (r : Request) (p : List Byte) (d : Device) : Device :=
  line (fun l => { l with queue := [⟨allNodes, terminalNode, requestCode r, p⟩] }) d

/-- A lapse of some ticks in which the other nodes leave the line recessive and the straps stay. -/
def lap (n : Nat) : Lapse := ⟨n, [], none⟩

def at0 (d : Device) : State := ⟨d, []⟩

/-- The station after one command. -/
def after (i : Instr) (d : Device) : Option Device :=
  match exec i (at0 d) with
  | .next t => some t.dev
  | _ => none

/-- Code and result of the reply that waits (5.9). -/
def replied (o : Option Device) : Option (List Byte) := (o.bind (·.line.replySlot)).map fun s => s.frame.payload.take 2

def dark : List StringBits := List.replicate 8 0#128

/-- The payload of a beacon of a weaving section station at run 0, iteration 1, row 2 (5.9). -/
def beaconBytes : List Byte :=
  [3#8, 0#8, 0#8, 0#8, 0#8, 1#8, 0#8, 2#8, 0#8, 2#8, 0#8, 100#8, 1#8, 0#8, 1#8, 0xFF#8]

def beaconOf (n : Byte) : Frame := ⟨allNodes, n, beaconKind, beaconBytes⟩

/-- An entry of the history. -/
def entry : HistoryEntry := ⟨⟨0, 1, 1, 1⟩, false, .advance, 1, 20, none, false⟩

/-- The CONFIGURE payload of 12.3 with a given K (capacity 1,024, dwell 5 s, G 300, P 50, M 40,000, S_fast 9,000). -/
def configBytes (k : Nat) : List Byte :=
  be16 1024 ++ be16 1100 ++ be16 0 ++ be16 1024 ++ be16 2300 ++ be16 k ++ be16 3200 ++ be16 300 ++ be16 50 ++ be16 40000
    ++ be16 2400 ++ be24 8000 ++ be24 9000 ++ be16 5 ++ be32 0x00A3F210

/-- A RUN WRITE payload: run 4, rows 200 to 203, count 3, next 5, no override, start mark set (5.9). -/
def runBytes : List Byte := [4#8] ++ be16 200 ++ be16 203 ++ be16 3 ++ [5#8, 0xFF#8, 1#8]

/-- A ROW WRITE payload: row 12, weft code 2, a field of 32 bytes (5.9). -/
def rowBytes : List Byte := be16 12 ++ 2#8 :: List.replicate 32 0xA5#8

/-- A MATCH WRITE payload: entry 0, run 3, iteration ANY, row 120, piece ANY, NOTICE, enabled (5.9). -/
def matchBytes : List Byte := [0#8, 0x0A#8, 3#8] ++ be16 0 ++ be16 120 ++ be24 0 ++ [0#8, 1#8]

/-! ## WellFormed refuses an ill-formed term, check by check -/

theorem test_wf_counting_step : (Instr.countingStep true false false (lap 0) []).wf = false := by decide +kernel
theorem test_wf_lapse_straps :
    (Instr.encoderGlitch ⟨0, [], some (32, .sectionRole)⟩).wf = false ∧
    (Instr.encoderGlitch ⟨0, [], some (31, .sectionRole)⟩).wf = true := by decide +kernel
theorem test_wf_lapse_run :
    (Instr.encoderGlitch ⟨0, [.dominant 1], none⟩).wf = false ∧
    (Instr.encoderGlitch ⟨6, [.recessive 2, .dominant 2], none⟩).wf = false ∧
    (Instr.encoderGlitch ⟨7, [.recessive 2, .dominant 2], none⟩).wf = true := by decide +kernel
theorem test_wf_test_step_capture : (Instr.testStepCapture []).wf = false := by decide +kernel
theorem test_wf_fetch_complete : (Instr.fetchComplete [(4194304, 1#8)]).wf = false := by decide +kernel
theorem test_wf_frame_received : (Instr.frameReceived (List.replicate 167 (soundChar 0#8))).wf = false := by decide +kernel
theorem test_wf_frame_start : (Instr.frameStart 1001).wf = false := by decide +kernel
theorem test_wf_frame_mark : (Instr.frameMark 1001 (soundChar 0xB4#8) none).wf = false := by decide +kernel
theorem test_wf_inrush_end : (Instr.inrushEnd 8).wf = false := by decide +kernel
theorem test_wf_feeder_stop_input : (Instr.feederStopInput 8 true).wf = false := by decide +kernel
theorem test_wf_power_on_number : (Instr.powerOn 32 .sectionRole false false true none []).wf = false := by decide +kernel
theorem test_wf_power_on_backup :
    (Instr.powerOn 0 .sectionRole false false true (some ⟨256, 1, 0, 0, 0#32, 0#16⟩) []).wf = false := by decide +kernel
theorem test_wf_power_on_sram :
    (Instr.powerOn 0 .sectionRole false false true none [(4194304, 1#8)]).wf = false := by decide +kernel
theorem test_wf_reset_pin : (Instr.resetPin 32 .sectionRole false false).wf = false := by decide +kernel
theorem test_wf_accepts : (Instr.countingStep true false true (lap 5) dark).wf = true ∧ Instr.status.wf = true := by decide +kernel

/-! ## No word spells a command (log 1) -/

theorem test_no_word : decodeTableWord 8 0xC1 = none := by decide +kernel
theorem test_fetch_word_changes_nothing : State.reset.withFetchWord 8 0xC1 = State.reset := by decide +kernel

/-! ## The cyclic check and the frame (R59, R73, R75) -/

/-- The check of the nine characters "123456789" is 29B1H for this polynomial, start value and bit order. -/
theorem test_check : cyclicCheck [0x31#8, 0x32#8, 0x33#8, 0x34#8, 0x35#8, 0x36#8, 0x37#8, 0x38#8, 0x39#8] = 0x29B1#16 := by
  decide +kernel
theorem test_odd_parity : soundChar 0xB4#8 = ⟨0xB4#8, true, true⟩ ∧ soundChar 0x01#8 = ⟨0x01#8, false, true⟩ := by decide +kernel

/-! ## Arithmetic (7.6, 7.7, 7.8, 6.4) -/

theorem test_recip : recipOf 1562 = some ⟨9, 799744, 687414⟩ := by decide +kernel
theorem test_advance : [14400, 12000, 9600].map (advanceOf ⟨9, 799744, 687414⟩) = [148, 123, 98] := by decide +kernel
theorem test_recip_saturates : recipOf 1024 = some ⟨9, 524288, 1048575⟩ ∧ advanceOf ⟨9, 524288, 1048575⟩ 12000 = 187 := by
  decide +kernel
theorem test_recip_top_speed : recipOf 937 = some ⟨10, 959488, 572967⟩ := by decide +kernel
theorem test_clamped_crowded :
    byPrediction secCfg ⟨10, 959488, 572967⟩ 84000 2400 = ⟨some 1434, 2300, .clamped, true, false⟩ := by decide +kernel
theorem test_clamped_overspeed :
    byPrediction secCfg ⟨10, 959488, 572967⟩ 94400 5000 = ⟨some 1612, 2300, .clamped, false, true⟩ := by decide +kernel
theorem test_predicted : byPrediction secCfg ⟨9, 799744, 687414⟩ 12000 2400 = ⟨some 123, 2437, .predicted, false, false⟩ := by
  decide +kernel
theorem test_waves :
    wavesOf 1000 ⟨2, 1024, 400, [⟨0, .sectionRole, 700, 1024, .heard⟩, ⟨1, .sectionRole, 900, 1024, .heard⟩,
      ⟨3, .sectionRole, 1000, 1024, .heard⟩]⟩ = ⟨3000, 3, 1600, 1⟩ := by decide +kernel
theorem test_rebuild_piece : rebuildPiece 1 131070 = 131073 ∧ rebuildPiece 1 131075 = 131073 := by decide +kernel

/-! ## The programme (2.6, 2.7, 2.9) -/

theorem test_advance_row_run :
    (advance twoRuns ⟨0, 1, 3, 99⟩, advance twoRuns ⟨1, 1, 2, 100⟩) = (⟨1, 1, 2, 100⟩, ⟨1, 1, 1, 101⟩) := by decide +kernel
theorem test_advance_one_row :
    advance [some ⟨500, 500, 2, 1, some 15⟩, some ⟨203, 200, 1, 0, some 3⟩] ⟨0, 1, 500, 5002⟩ = ⟨0, 2, 500, 5003⟩ := by
  decide +kernel
theorem test_advance_piece_wraps : (advance twoRuns ⟨0, 1, 1, 16777215⟩).piece = 0 := by decide +kernel

/-! ## One step of each command -/

theorem test_counting_step_forward :
    (after (.countingStep true false false (lap 0) dark) (turning 999 (sec .ready))).map (fun d => (d.tracker.angle, d.tracker.dir)) =
      some (1000, .forward) := by decide +kernel
theorem test_counting_step_index_slip :
    (after (.countingStep true false true (lap 0) dark) (turning 995 (sec .weave))).map
      (fun d => (d.tracker.angle, d.tracker.unsettled, d.control.flags, d.line.tx)) =
      some (1000, 2, BitVec.twoPow 30 15 ||| BitVec.twoPow 30 0, .pulse 0) := by decide +kernel
theorem test_encoder_glitch :
    (after (.encoderGlitch (lap 0)) (turning 64 (sec .weave))).map (fun d => (d.tracker.angle, d.tracker.phase, d.tracker.spanCounts)) =
      some (64, 2#2, none) := by decide +kernel
theorem test_index_edge_corrects :
    (after .indexEdge (turning 1001 (sec .weave))).map (fun d => (d.tracker.angle, d.control.flags)) = some (1000, 0#30) := by
  decide +kernel
theorem test_stall_expiry :
    (after .stallExpiry (turning 5 (sec .weave))).map (fun d => (d.tracker.speed, d.tracker.unsettled)) = some (.stalled, 2) := by
  decide +kernel
theorem test_stationary_second_dwell :
    (after .stationarySecond (strs (fun g => { g with power := .on }) (turn (fun t => { t with stationary := 29 }) (sec .ready)))).map
      (fun d => (d.tracker.stationary, d.strings.power)) = some (30, .off) := by decide +kernel
theorem test_boundary_advances :
    (after (.countingStep true false false (lap 0) dark) (turning 4095 (loaded (sec .weave)))).map
      (fun d => (d.seq.pos, d.seq.history.length, d.seq.guardOpen)) = some (⟨0, 1, 1, 1⟩, 1, true) := by decide +kernel
theorem test_boundary_repeats :
    (after (.countingStep true false false (lap 0) dark) (seq (fun q => { q with void := true }) (turning 4095 (loaded (sec .weave))))).map
      (fun d => (d.seq.pos, d.seq.void, d.seq.history.map (·.kind))) = some (⟨0, 1, 0, 0⟩, false, [.again]) := by decide +kernel
theorem test_pulse_end :
    (after .pulseEnd (line (fun l => { l with tx := .pulse 64 }) (sec .weave))).map (·.line.tx) = some .idle := by decide +kernel
theorem test_fetch_damaged :
    (after (.fetchComplete []) { sec .weave with store := { (sec .weave).store with fetch := .fetching 41 (.pick false none) 200 } }).map
      (fun d => (d.store.lastDamaged, d.seq.void, d.seq.pickWeft, d.strings.blank)) = some (some 41, true, some 15, true) := by
  decide +kernel
theorem test_frame_received :
    (after (.frameReceived (frameArriving (beaconOf 7#8))) (line (fun l => { l with rx := .header ⟨[], false⟩ }) (sec .weave))).map
      (fun d => (d.line.queue, d.line.counters.goodFrames)) = some ([beaconOf 7#8], 1) := by decide +kernel
theorem test_receive_gap :
    (after .receiveGap (line (fun l => { l with rx := .header ⟨[1#8], false⟩ }) (sec .weave))).map
      (fun d => (d.line.rx, d.line.counters.parityFraming)) = some (.hunt, 1) := by decide +kernel
theorem test_hold_detected_retracts :
    (after .holdDetected (turning 30 (seq (fun q => { q with pos := ⟨0, 1, 2, 42⟩, history := [entry], guardOpen := true })
      (loaded (sec .weave))))).map
      (fun d => (d.seq.pos, d.seq.void, d.seq.guardOpen, d.seq.history.map (fun e => (e.void, e.kind)))) =
      some (⟨0, 1, 1, 1⟩, false, false, [(true, .again)]) := by decide +kernel
theorem test_hold_detected_voids :
    (after .holdDetected (turning 4090 (sec .weave))).map (fun d => (d.seq.void, d.line.counters.holdsSeen)) =
      some (true, 1) := by decide +kernel
theorem test_line_stuck :
    (after .lineStuck (sec .weave)).map (fun d => (d.line.stuck, d.control.flags)) = some (true, BitVec.twoPow 30 17) := by decide +kernel
theorem test_line_clear :
    (after .lineClear (line (fun l => { l with stuck := true }) (sec .weave))).map (·.line.stuck) = some false := by decide +kernel
theorem test_frame_start_beacon_first :
    (after (.frameStart 12) (line (fun l => { l with beaconSlot := some ⟨beaconOf 0#8, 0⟩, replySlot := some ⟨beaconOf 1#8, 0⟩ })
      (sec .weave))).map (fun d => d.line.tx) = some (.sending .beacon (frameChars (beaconOf 0#8))) := by decide +kernel
theorem test_attempt_abandoned :
    (after .attemptAbandoned (control (fun c => { c with number := 3 }) (line (fun l => { l with
      tx := .sending .beacon [], beaconSlot := some ⟨beaconOf 3#8, 0⟩ }) (sec .weave)))).map
      (fun d => (d.line.beaconSlot.map (·.attempts), d.line.counters.abandoned, d.line.accessWait)) =
      some (some 1, 1, 48) := by decide +kernel
theorem test_frame_sent :
    (after .frameSent (line (fun l => { l with tx := .sending .beacon [], beaconSlot := some ⟨beaconOf 0#8, 0⟩ }) (sec .weave))).map
      (fun d => (d.line.beaconSlot, d.line.tx)) = some (none, .idle) := by decide +kernel
theorem test_reset_reply_timeout :
    (after .resetReplyTimeout (control (fun c => { c with resetPending := some 400000 }) (sec .ready))).map
      (fun d => (d.control.state, d.control.config)) = some (.dormant, none) := by decide +kernel
theorem test_beacon_taken :
    (after .beaconTaken (line (fun l => { l with queue := [beaconOf 7#8] }) (sec .weave))).map
      (fun d => (d.roster.entries.map (fun e => (e.station, e.pos, e.lift)), d.line.queue)) =
      some ([(7, ⟨0, 1, 2, 2⟩, 100)], []) := by decide +kernel
theorem test_beacon_duplicate :
    (after .beaconTaken (line (fun l => { l with queue := [beaconOf 0#8] }) (sec .weave))).map
      (fun d => (d.control.state, d.control.flags.getLsbD 18)) = some (.fault, true) := by decide +kernel
theorem test_frame_discarded :
    (after .frameDiscarded (line (fun l => { l with queue := [⟨0#8, 33#8, 0xD0#8, []⟩] }) (sec .ready))).map
      (fun d => (d.line.queue, d.line.replySlot)) = some ([], none) := by decide +kernel
theorem test_configure_order :
    replied (after .configure (asking .configure (configBytes 2310) State.reset.dev)) = some [0xC1#8, 4#8] := by decide +kernel
theorem test_configure_adjusted :
    (after .configure (asking .configure (configBytes 2560) State.reset.dev)).map
      (fun d => (d.control.state, d.control.config.map fun c => [c.g, c.p, c.m, c.sFast, c.dwell])) =
      some (.load, some [256, 100, 32768, 8000, 10]) := by decide +kernel
theorem test_row_write :
    (after .rowWrite (asking .rowWrite rowBytes (sec .load))).map
      (fun d => (d.store.written, Memory.read d.store.mem 3072, Memory.read d.store.mem 3073)) = some ([12], 2#8, 0xA5#8) := by
  decide +kernel
theorem test_row_write_bad_code :
    replied (after .rowWrite (asking .rowWrite (be16 14 ++ 9#8 :: List.replicate 32 0#8) (sec .load))) = some [0xC2#8, 3#8] := by
  decide +kernel
theorem test_row_read_unwritten :
    ((after .rowRead (asking .rowRead (be16 13) (sec .load))).bind (·.line.replySlot)).map (fun s => s.frame.payload.drop 7) =
      some [0#8, 13#8, 0#8] := by decide +kernel
theorem test_run_write :
    (after .runWrite (asking .runWrite runBytes (sec .load))).map (fun d => (d.seq.runs[4]?, d.seq.startRun)) =
      some (some (some ⟨200, 203, 3, 5, none⟩), 4) := by decide +kernel
theorem test_match_write :
    (after .matchWrite (asking .matchWrite matchBytes (sec .weave))).map (fun d => d.seq.table[0]?) =
      some (some ⟨some 3, none, some 120, none, .notice, true⟩) := by decide +kernel
theorem test_weft_map_write :
    (after .weftMapWrite (asking .weftMapWrite [2#8, 2#8, 5#8, 1#8] (wef .load))).map (fun d => d.weft.map[2]?) =
      some (some (some ⟨2, some 5, true⟩)) := by decide +kernel
theorem test_load_done :
    (after .loadDone (asking .loadDone [] (loaded (sec .load)))).map (fun d => (d.control.state, d.seq.pos)) =
      some (.ready, ⟨0, 1, 0, 0⟩) := by decide +kernel
theorem test_load_done_unwritten_row :
    ((after .loadDone (asking .loadDone [] (let d := loaded (sec .load); { d with store := { d.store with written := [0, 1, 3] } }))).bind
      (·.line.replySlot)).map (fun s => s.frame.payload) = some [0xC7#8, 5#8, 1#8, 0#8, 0#8, 2#8, 0xFF#8] := by decide +kernel
theorem test_position_set :
    (after .positionSet (asking .positionSet ([1#8] ++ be16 1 ++ be16 2 ++ be24 9340) (loaded (sec .ready)))).map
      (fun d => (d.seq.pos, d.control.writes.length)) = some (⟨1, 1, 2, 9340⟩, 1) := by decide +kernel
theorem test_position_resume_lost :
    replied (after .positionResume (asking .positionResume [] (loaded (sec .ready)))) = some [0xC9#8, 9#8] := by decide +kernel
theorem test_arm :
    (after .arm (asking .arm [] (loaded (sec .ready)))).map (fun d => (d.control.state, d.seq.void)) = some (.weave, true) := by
  decide +kernel
theorem test_disarm_moving : replied (after .disarm (asking .disarm [] (turning 5 (sec .weave)))) = some [0xCB#8, 7#8] := by decide +kernel
theorem test_test_begin :
    (after .testBegin (asking .testBegin [2#8, 0#8, 0#8] (sec .ready))).map (fun d => (d.control.state, d.strings.test.pattern)) =
      some (.test, some .checker) := by decide +kernel
theorem test_test_step :
    (after .testStep (asking .testStep [] (strs (fun g => { g with power := .on, test := ⟨some .checker, 0, 0, .idle⟩ })
      (sec .test)))).map (fun d => (d.strings.strings[1]?).map fun x => (x.outReg, x.drive, x.chain)) =
      some (some (0x55555555555555555555555555555555#128, .inrush 0, .fired)) := by decide +kernel
theorem test_test_step_capture :
    replied (after (.testStepCapture dark) (strs (fun g => { g with test := ⟨some .allUp, 0, 5, .inFlight (.energised 200000)⟩ })
      (sec .test))) = some [0xCD#8, 0#8] := by decide +kernel
theorem test_test_end :
    (after .testEnd (asking .testEnd [] (sec .test))).map (fun d => (d.control.state, d.strings.mode)) = some (.ready, .none) := by
  decide +kernel
theorem test_train :
    (after (.train 0#8) (asking .train [] (sec .ready))).map (fun d => (d.control.state, d.strings.power, d.trainer.phase)) =
      some (.train, .waking 0, .waking) := by decide +kernel
theorem test_trial_sample :
    (after (.trialSample true) (train (fun t => { t with phase := .trial, ones := 1 }) (sec .train))).map
      (fun d => (d.trainer.phase, d.trainer.ones)) = some (.rest, 2) := by decide +kernel
theorem test_rest_end_trained :
    (after (.restEnd 0#8) (train (fun t => { t with phase := .rest, delay := 2125, trial := 4, ones := 3 }) (sec .train))).map
      (fun d => ((d.strings.strings[0]?).map fun x => (x.result, x.latency), d.trainer.cur)) =
      some (some (.trained, some 2325), 1) := by decide +kernel
theorem test_status :
    replied (after .status (asking .status [] (sec .fault))) = some [0xD0#8, 0#8] := by decide +kernel
theorem test_flags_take :
    (after .flagsTake (asking .flagsTake [] (setFlag .holdSeen (sec .weave)))).map
      (fun d => (d.control.flags, (d.line.replySlot.map fun s => s.frame.payload.drop 7))) =
      some (0#30, some [0#8, 0#8, 0#8, 2#8, 0xFF#8, 0xFF#8]) := by decide +kernel
theorem test_fault_list_clear :
    (after .faultListClear (asking .faultListClear [] (strs (fun g => { g with faults := [⟨5, .stuckOn, ⟨0, 1, 0, 0⟩, 3⟩] }) (sec .ready)))).map
      (·.strings.faults) = some [] := by decide +kernel
theorem test_fault_list_read_role :
    replied (after .faultListRead (asking .faultListRead [0#8] (wef .ready))) = some [0xD2#8, 8#8] := by decide +kernel
theorem test_history_read :
    ((after .historyRead (asking .historyRead [0#8] (seq (fun q => { q with history := [entry] }) (sec .ready)))).bind
      (·.line.replySlot)).map (fun s => s.frame.payload.drop 7) =
      some [1#8, 0#8, 0#8, 1#8, 0#8, 1#8, 0#8, 0#8, 1#8, 0#8, 1#8, 0#8, 20#8, 0xFF#8] := by decide +kernel
theorem test_roster_read_range : replied (after .rosterRead (asking .rosterRead [32#8] (sec .ready))) = some [0xD5#8, 3#8] := by
  decide +kernel
theorem test_notice_mask :
    (after .noticeMask (asking .noticeMask (be32 0x20000001) (sec .ready))).map (·.control.mask) = some 0x20000001#30 := by decide +kernel
theorem test_reset : (after .reset (asking .reset [] (sec .ready))).map (·.control.resetPending) = some (some 0) := by decide +kernel
theorem test_wake_time_end :
    (after (.wakeTimeEnd 0#8) (strs (fun g => { g with power := .waking 80000 }) (sec .weave))).map (·.strings.power) = some .on := by
  decide +kernel
theorem test_inrush_end :
    (after (.inrushEnd 0) (strs (fun g => { g with strings := [{ SelString.reset with drive := .inrush 2400 }] }) (sec .weave))).map
      (fun d => d.strings.strings.map (·.drive)) = some [.hold] := by decide +kernel
theorem test_weft_detector_early :
    (after .weftDetectorPulse (weft (fun w => { w with arrival := .waiting }) (wef .weave))).map
      (fun d => (d.weft.arrival, d.control.flags)) = some (.waiting, BitVec.twoPow 30 28) := by decide +kernel
theorem test_feeder_stop_input :
    (after (.feederStopInput 3 true) (weft (fun w => { w with output := some 3, arrival := .arrived }) (wef .weave))).map
      (fun d => (d.control.flags.getLsbD 26, d.seq.void, d.weft.stopMark)) = some (true, true, true) := by decide +kernel
theorem test_substituted_finger :
    (let d := { wef .weave with pins := { (wef .weave).pins with feederStop := 2#8 } }
     let d := weft (fun w => { w with map := w.map.set 4 (some ⟨1, some 6, false⟩) }) d
     ((chooseFinger 4 d).weft.choice, hasFlag .substituted (chooseFinger 4 d))) = (.chosen (some 6), true) := by decide +kernel
theorem test_power_on_lost :
    (after (.powerOn 3 .weftRole true false false none []) (sec .weave)).map
      (fun d => (d.control.state, d.control.number, d.control.retention, d.control.flags, d.tracker.phase)) =
      some (.dormant, 3, .lost, BitVec.twoPow 30 29, 1#2) := by decide +kernel
/-- The idle ticks are numbered on over a reset (log 7). -/
theorem test_idle_ticks_go_on :
    [Instr.resetPin 9 .sectionRole true true, .powerOn 0 .sectionRole false false true none []].map (fun i =>
      (after i (line (fun l => { l with idleTicks := 5, dominantRun := 3 }) (sec .weave))).map fun d =>
        (d.line.idleTicks, d.line.dominantRun)) = [some (5, 0), some (5, 0)] := by decide +kernel
theorem test_reset_pin :
    (after (.resetPin 9 .sectionRole true true) (sec .weave)).map (fun d => (d.control.state, d.control.number, d.tracker.phase)) =
      some (.dormant, 9, 2#2) := by decide +kernel
theorem test_power_fail :
    (after .powerFail (control (fun c => { c with writes := [recordOf ⟨2, 1, 78, 9341⟩ 0x00A3F210#32] }) (sec .weave))).map
      (fun d => (recordPosition d.control.retained, d.control.powered)) = some (⟨2, 1, 78, 9341⟩, false) := by decide +kernel
theorem test_retained_write_done :
    (after .retainedWriteDone (control (fun c => { c with writes := [recordOf ⟨2, 1, 78, 9341⟩ 0x00A3F210#32] }) (sec .weave))).map
      (fun d => (d.control.retention, d.control.writes)) = some (.current, []) := by decide +kernel
theorem test_frame_mark :
    (after (.frameMark 12 (soundChar 0xB4#8) (some (soundChar 0x2D#8))) (sec .weave)).map (·.line.rx) =
      some (.header ⟨[], false⟩) := by decide +kernel
theorem test_match_before_restart :
    (let d := seq (fun q => { q with
        pos := ⟨3, 2, 120, 5000⟩
        table := [⟨some 3, none, some 120, none, .notice, true⟩, ⟨none, none, none, some 5000, .hold, true⟩,
          ⟨some 3, some 2, some 120, none, .pieceRestart, true⟩, ⟨none, none, none, some 0, .notice, true⟩] }) (sec .weave)
     ((evaluateMatches d).seq.pos.piece, (evaluateMatches d).seq.void, (evaluateMatches d).control.flags)) =
      (0, true, 0x1800001#30) := by decide +kernel

theorem test_receive_gap_in_hunt :
    (after .receiveGap (line (fun l => { l with dominantRun := 22, ownPulse := true }) (sec .weave))).map
      (fun d => (d.line.recessiveRun, d.line.dominantRun, d.line.ownPulse, d.line.counters.parityFraming)) =
      some (12, 0, false, 0) := by decide +kernel
/-- Another node's hold lengthens this station's run with its mark; where none holds the line the run ends (R74, R87). -/
theorem test_own_pulse_lengthened :
    (let d := line (fun l => { l with tx := .pulse 64, dominantRun := 40, ownPulse := true }) (sec .weave)
     [(after .pulseEnd d).bind (after (.encoderGlitch ⟨6, [.dominant 3], none⟩)),
      (after .pulseEnd d).bind (after (.encoderGlitch ⟨6, [], none⟩))].map fun o =>
       o.map fun d => (d.line.dominantRun, d.line.ownPulse)) = [some (43, true), some (0, false)] := by decide +kernel
/-- Two ticks are one bit time (R74): the run follows what the other nodes do, recessive after the last run. -/
theorem test_runs_over_ticks :
    (elapseRuns 2 [.dominant 1] { Line.reset with dominantRun := 22 }).dominantRun = 23 ∧
    (elapseRuns 2 [] { Line.reset with dominantRun := 22, ownPulse := true }).ownPulse = false ∧
    (elapseRuns 3 [] { Line.reset with recessiveRun := 11 }).recessiveRun = 12 ∧
    (let l := elapseRuns 30 [.recessive 2, .dominant 5, .recessive 1, .dominant 4] Line.reset
     (l.recessiveRun, l.dominantRun)) = (3, 0) := by decide +kernel
/-- A foreign frame's bits inside a lapse leave the runs of its last bits, not those of the ticks (R74). -/
theorem test_foreign_bits_over_ticks :
    (let l := elapseRuns 40 [.recessive 3, .dominant 9, .recessive 2, .dominant 6] Line.reset
     (l.recessiveRun, l.dominantRun)) = (0, 6) := by decide +kernel
/-- A character with a dominant stop bit is judged where its run ends: at a gap below 22 bt it is counted once, and a hold detected
on it is the hold's alone (R77). -/
theorem test_dominant_stop_bit :
    (let d := line (fun l => { l with rx := .header ⟨[], false⟩ }) (sec .weave)
     let bad := Instr.frameReceived [⟨1#8, false, false⟩]
     [after bad d, (after bad d).bind (after .receiveGap), (after bad d).bind (after .holdDetected),
      ((after bad d).bind (after .holdDetected)).bind (after .receiveGap)].map fun o =>
       o.map fun d => (d.line.rx, d.line.dominantRun, d.line.counters.parityFraming, d.line.counters.holdsSeen)) =
      [some (.awaitingRun, 9, 0, 0), some (.hunt, 0, 1, 0), some (.hunt, 22, 0, 1), some (.hunt, 0, 0, 1)] := by
  decide +kernel
/-- A recessive bit of this station's frame that another node holds dominant: what follows is theirs (R74, R84). -/
theorem test_collision_inside_a_lapse :
    (let l := elapseRuns 12 [.recessive 3, .dominant 2] { Line.reset with tx := .sending .beacon [0xB4#8], recessiveRun := 12 }
     (l.recessiveRun, l.dominantRun, l.sentBits, l.held)) = (1, 0, 3, true) := by decide +kernel
theorem test_frame_discarded_without_reply_room :
    (after .frameDiscarded (line (fun l => { l with replySlot := some ⟨beaconOf 0#8, 0⟩ }) (asking .status [] (sec .ready)))).map
      (fun d => (d.line.queue, d.line.counters.requestsDropped)) = some ([], 1) := by decide +kernel
theorem test_reset_takes_the_straps :
    (after .reset (calling .reset [] { sec .weave with pins := { (sec .weave).pins with strapNumber := 7, strapRole := .weftRole } })).map
      (fun d => (d.control.number, d.control.role, d.control.state)) = some (7, .weftRole, .dormant) := by decide +kernel
/-- R39: a restored pick whose row is unknown is recorded with code 15 and no finger. -/
theorem test_entry_without_code_has_no_finger :
    (entryFor .again (weft (fun w => { w with choice := .chosen (some 3) }) (wef .weave))).finger = none := by decide +kernel
/-- R131: a fire that falls due again while the string waits changes nothing. -/
theorem test_fire_due_again :
    (fallDue (fun _ _ => true) (strs (fun g => { g with power := .on, mode := .forward, strings :=
      [{ SelString.reset with chain := .pending, pattern := true, waiting := true }] }) (sec .weave))).strings.strings.map (·.chain) =
      [.pending] := by decide +kernel

/-! ## The statements' hypotheses are met -/

theorem witness_StepRunsFrontCommand : ({ State.reset with pending := [.status, .arm] } : State).pending = .status :: [.arm] := by decide +kernel

theorem witness_IdleStepLetsATickPass_stall :
    (at0 (sec .ready)).pending = [] ∧
    (turn (fun t => { t with spanTimer := 1048575 }) (turning 5 (sec .ready))).control.powered = true ∧
    (turn (fun t => { t with spanTimer := 1048575 }) (turning 5 (sec .ready))).tracker.speed ≠ .stalled ∧
    1048575 ≤ (turn (fun t => { t with spanTimer := 1048575 }) (turning 5 (sec .ready))).tracker.spanTimer := by decide +kernel

theorem witness_IdleStepLetsATickPass_second :
    (turn (fun t => { t with secondTimer := 3999999 }) (sec .ready)).control.powered = true ∧
    (turn (fun t => { t with secondTimer := 3999999 }) (sec .ready)).tracker.speed = .stalled ∧
    3999999 ≤ (turn (fun t => { t with secondTimer := 3999999 }) (sec .ready)).tracker.secondTimer := by decide +kernel

theorem witness_EveryCommandCompletes : (control (fun c => { c with powered := false }) (sec .ready)).control.powered = false := by decide +kernel

theorem witness_EveryCommandCompletes_other : ∀ n r a b h k m, Instr.status ≠ .powerOn n r a b h k m := by
  intros; simp

theorem witness_CountingStepCounts_forward :
    (sec .weave).control.powered = true ∧
    phaseOf true false = (sec .weave).tracker.phase + 1#2 := by decide +kernel

theorem witness_CountingStepCounts_reverse :
    (sec .weave).control.powered = true ∧
    phaseOf false true = (sec .weave).tracker.phase - 1#2 := by decide +kernel

theorem witness_SpanCompletionDecidesSpeed :
    ((turn (fun t => { t with spanCounts := some 15 }) (turning 5 (sec .weave)))).control.powered = true ∧
    (turn (fun t => { t with spanCounts := some 15 }) (turning 5 (sec .weave))).control.config = some secCfg ∧
    (turn (fun t => { t with spanCounts := some 15 }) (turning 5 (sec .weave))).tracker.speed ≠ .stalled ∧
    phaseOf true false = (turn (fun t => { t with spanCounts := some 15 }) (turning 5 (sec .weave))).tracker.phase + 1#2 ∧
    (turn (fun t => { t with spanCounts := some 15 }) (turning 5 (sec .weave))).tracker.dir = .forward ∧
    (turn (fun t => { t with spanCounts := some 15 }) (turning 5 (sec .weave))).tracker.spanCounts = some 15 := by decide +kernel

/-- The speed states that the completed span decides: 1,999 and 2,000 at S_fast, 8,000 and 8,001 at S_creep (R10). -/
theorem witness_SpanCompletionDecidesSpeed_edges :
    [1999, 2000, 8000, 8001].map (speedAfter (some secCfg) 0) = [.fast, .run, .run, .creep] := by decide +kernel

theorem witness_DirectionChangeAndStallEnd_turn :
    (sec .weave).control.powered = true ∧
    (sec .weave).tracker.dir = .forward ∧
    phaseOf false true = (sec .weave).tracker.phase - 1#2 := by decide +kernel

theorem witness_DirectionChangeAndStallEnd_stall :
    phaseOf true false = (sec .weave).tracker.phase + 1#2 ∧
    (sec .weave).tracker.speed = .stalled := by decide +kernel

theorem witness_EncoderGlitchLosesNoAngle : (sec .weave).control.powered = true := by decide +kernel

theorem witness_IndexReferencesChecksAndGoesMissing_reference :
    State.reset.dev.control.powered = true ∧
    State.reset.dev.control.config = none ∧
    (sec .load).control.config = some secCfg ∧
    (sec .load).tracker.referenced = false := by decide +kernel

theorem witness_IndexReferencesChecksAndGoesMissing_check_0 :
    ((turning 1000 (sec .weave))).control.powered = true ∧
    (turning 1000 (sec .weave)).control.config = some secCfg ∧
    (turning 1000 (sec .weave)).tracker.referenced = true ∧
    indexError secCfg.index (turning 1000 (sec .weave)).tracker.angle = 0 := by decide +kernel

theorem witness_IndexReferencesChecksAndGoesMissing_check_1 :
    ((turning 1001 (sec .weave))).control.powered = true ∧
    (turning 1001 (sec .weave)).control.config = some secCfg ∧
    (turning 1001 (sec .weave)).tracker.referenced = true ∧
    indexError secCfg.index (turning 1001 (sec .weave)).tracker.angle = 1 := by decide +kernel

theorem witness_IndexReferencesChecksAndGoesMissing_check_2 :
    ((turning 998 (sec .weave))).control.powered = true ∧
    (turning 998 (sec .weave)).control.config = some secCfg ∧
    (turning 998 (sec .weave)).tracker.referenced = true ∧
    indexError secCfg.index (turning 998 (sec .weave)).tracker.angle = 2 := by decide +kernel

theorem witness_IndexReferencesChecksAndGoesMissing_check_3 :
    ((turning 1003 (sec .weave))).control.powered = true ∧
    (turning 1003 (sec .weave)).control.config = some secCfg ∧
    (turning 1003 (sec .weave)).tracker.referenced = true ∧
    indexError secCfg.index (turning 1003 (sec .weave)).tracker.angle = 3 := by decide +kernel

theorem witness_StallAndStationarySeconds :
    (sec .weave).control.powered = true ∧
    (sec .weave).tracker.speed = .stalled ∧
    (turning 5 (sec .weave)).tracker.speed ≠ .stalled ∧
    ¬((turning 5 (sec .weave)).tracker.speed = .fast ∧ (turning 5 (sec .weave)).fire.phase = .set) := by decide +kernel

theorem witness_StallAndStationarySeconds_dwell :
    dwellDue (turn (fun t => { t with stationary := 30 }) (sec .ready)) = true ∧
    dwellDue (turn (fun t => { t with stationary := 29 }) (sec .ready)) = false ∧
    (sec .test).control.state ≠ .ready ∧ (sec .test).control.state ≠ .weave := by decide +kernel

theorem witness_AdvanceFollowsTheRun :
    runAt twoRuns 0 = some ⟨0, 3, 1, 1, none⟩ ∧
    inRange ⟨0, 3, 1, 1, none⟩ 2 = true ∧
    runAt [some ⟨5, 5, 2, 0, none⟩] 0 = some ⟨5, 5, 2, 0, none⟩ ∧
    runLength ⟨5, 5, 2, 0, none⟩ * 2 = 2 := by decide +kernel

theorem witness_MatchActionsAtAnAdvance :
    (sec .weave).control.state = .weave ∧
    actionMatched (seq (fun q => { q with table := [⟨none, none, none, none, .notice, true⟩, ⟨none, none, none, none, .pieceRestart, true⟩] }) (sec .weave)) .notice = true ∧
    actionMatched (seq (fun q => { q with table := [⟨none, none, none, none, .pieceRestart, true⟩] }) (sec .weave)) .pieceRestart = true := by decide +kernel

theorem witness_OwnHoldAndPulseEnd :
    (sec .weave).control.state = .weave ∧ (sec .weave).line.stuck = false ∧
    (line (fun l => { l with stuck := true }) (sec .weave)).line.stuck = true ∧
    (sec .ready).control.state ≠ .weave ∧
    (line (fun l => { l with tx := .pulse 64 }) (sec .weave)).line.tx = .pulse 64 := by decide +kernel

theorem witness_OwnHoldAndPulseEnd_idle : ∀ n, (sec .weave).line.tx ≠ .pulse n := by
  intro n h; cases h

theorem witness_DetectedHoldVoidsThePick :
    (turning 4090 (sec .weave)).control.powered = true ∧
    (turning 4090 (sec .weave)).line.ownPulse = false ∧
    retracts (turning 4090 (sec .weave)) = false ∧
    (line (fun l => { l with ownPulse := true }) (sec .weave)).line.ownPulse = true := by decide +kernel

theorem witness_DetectedHoldVoidsThePick_in_a_pulse : (line (fun l => { l with tx := .pulse 3, dominantRun := 22 }) (sec .weave)).line.ownPulse = false ∧ retracts (line (fun l => { l with tx := .pulse 3, dominantRun := 22 }) (sec .weave)) = false := by decide +kernel

/-- R74, R87: a pulse that begins over a run of 22 bt sets no mark, so the hold detected on that run is another node's; over one of
21 bt it is this station's own. -/
theorem test_hold_detected_inside_a_pulse :
    [21, 22].map (fun n => (after .holdDetected (ownHold (line (fun l => { l with dominantRun := n }) (sec .weave)))).map fun d =>
      (d.line.ownPulse, d.line.counters.holdsSeen, d.control.flags.getLsbD 1)) =
      [some (true, 0, false), some (false, 1, true)] := by decide +kernel

theorem witness_RetractRestoresThePickLeft :
    (turning 30 (seq (fun q => { q with history := [entry], guardOpen := true }) (loaded (sec .weave)))).control.powered = true ∧
    (turning 30 (seq (fun q => { q with history := [entry], guardOpen := true }) (loaded (sec .weave)))).control.role = .sectionRole ∧
    (turning 30 (seq (fun q => { q with history := [entry], guardOpen := true }) (loaded (sec .weave)))).line.ownPulse = false ∧
    retracts (turning 30 (seq (fun q => { q with history := [entry], guardOpen := true }) (loaded (sec .weave)))) = true ∧
    (turning 30 (seq (fun q => { q with history := [entry], guardOpen := true }) (loaded (sec .weave)))).seq.history = entry :: [] := by decide +kernel

theorem witness_RowWriteStoresTheRecord :
    asked .rowWrite rowBytes (asking .rowWrite rowBytes (sec .load)) = true ∧
    (asking .rowWrite rowBytes (sec .load)).control.state = .load ∧
    rowBytes.length = 3 + liftBytes (asking .rowWrite rowBytes (sec .load)) ∧
    capacityOf (asking .rowWrite rowBytes (sec .load)) ≤ 1024 ∧
    fieldAt rowBytes 0 2 ≤ 16383 ∧
    weftCodeGood (rowBytes.getD 2 0#8).toNat = true ∧
    ¬((asking .rowWrite rowBytes (sec .load)).control.state = .ready ∧ isWeft (asking .rowWrite rowBytes (sec .load)) = true ∧ unmapped (asking .rowWrite rowBytes (sec .load)) (rowBytes.getD 2 0#8).toNat = true) ∧
    memoryCanonical (asking .rowWrite rowBytes (sec .load)) = true := by decide +kernel

theorem witness_RowWriteStoresTheRecord_row :
    asked .rowWrite (be16 16384 ++ rowBytes.drop 2) (asking .rowWrite (be16 16384 ++ rowBytes.drop 2) (sec .load)) = true ∧ (sec .load).control.state = .load ∧
    16383 < fieldAt (be16 16384 ++ rowBytes.drop 2) 0 2 := by decide +kernel

theorem witness_RowWriteStoresTheRecord_code_8 :
    asked .rowWrite (be16 12 ++ 8#8 :: rowBytes.drop 3) (asking .rowWrite (be16 12 ++ 8#8 :: rowBytes.drop 3) (sec .load)) = true ∧ (sec .load).control.state = .load ∧
    7 < fieldAt (be16 12 ++ 8#8 :: rowBytes.drop 3) 2 1 ∧ fieldAt (be16 12 ++ 8#8 :: rowBytes.drop 3) 2 1 ≠ 15 := by decide +kernel

theorem witness_RowWriteStoresTheRecord_code_14 :
    asked .rowWrite (be16 12 ++ 14#8 :: rowBytes.drop 3) (asking .rowWrite (be16 12 ++ 14#8 :: rowBytes.drop 3) (sec .load)) = true ∧ (sec .load).control.state = .load ∧
    7 < fieldAt (be16 12 ++ 14#8 :: rowBytes.drop 3) 2 1 ∧ fieldAt (be16 12 ++ 14#8 :: rowBytes.drop 3) 2 1 ≠ 15 := by decide +kernel

theorem witness_RowWriteStoresTheRecord_code_16 :
    asked .rowWrite (be16 12 ++ 16#8 :: rowBytes.drop 3) (asking .rowWrite (be16 12 ++ 16#8 :: rowBytes.drop 3) (sec .load)) = true ∧ (sec .load).control.state = .load ∧
    7 < fieldAt (be16 12 ++ 16#8 :: rowBytes.drop 3) 2 1 ∧ fieldAt (be16 12 ++ 16#8 :: rowBytes.drop 3) 2 1 ≠ 15 := by decide +kernel

theorem witness_RowWriteStoresTheRecord_length :
    asked .rowWrite (rowBytes ++ [0#8]) (asking .rowWrite (rowBytes ++ [0#8]) (sec .load)) = true ∧ (sec .load).control.state = .load ∧
    (rowBytes ++ [0#8]).length ≠ 3 + capacityOf (sec .load) / 8 ∧ (sec .load).control.role ≠ .weftRole := by decide +kernel

theorem witness_RowWriteStoresTheRecord_weft_length :
    asked .rowWrite rowBytes (asking .rowWrite rowBytes (wef .load)) = true ∧ (wef .load).control.state = .load ∧
    rowBytes.length ≠ 3 ∧ (wef .load).control.role = .weftRole := by decide +kernel

theorem witness_RowWriteStoresTheRecord_unmapped :
    asked .rowWrite (be16 12 ++ [7#8]) (asking .rowWrite (be16 12 ++ [7#8]) (wef .ready)) = true ∧
    (be16 12 ++ [7#8]).length = 3 ∧ fieldAt (be16 12 ++ [7#8]) 0 2 ≤ 16383 ∧ fieldAt (be16 12 ++ [7#8]) 2 1 ≤ 7 ∧
    (wef .ready).control.state = .ready ∧ (wef .ready).control.role = .weftRole ∧
    ((wef .ready).weft.map[fieldAt (be16 12 ++ [7#8]) 2 1]?).join = none := by decide +kernel

theorem test_row_write_refusals :
    replied (after .rowWrite (asking .rowWrite (be16 16384 ++ rowBytes.drop 2) (sec .load))) = some [0xC2#8, 3#8] ∧
    ((after .rowWrite (asking .rowWrite (be16 12 ++ [7#8]) (wef .ready))).bind (·.line.replySlot)).map (·.frame.payload) =
      some [0xC2#8, 5#8, 4#8, 0xFF#8, 0xFF#8, 0xFF#8, 7#8] := by decide +kernel

theorem witness_ReadingRequestsReport_row :
    asked .rowRead (be16 3) (asking .rowRead (be16 3) (loaded (sec .load))) = true ∧
    (be16 3).length = 2 ∧ fieldAt (be16 3) 0 2 ≤ 16383 ∧
    fieldAt (be16 3) 0 2 ∈ (loaded (sec .load)).store.written ∧
    asked .rowRead (be16 16383) (asking .rowRead (be16 16383) (loaded (sec .ready))) = true ∧
    fieldAt (be16 16383) 0 2 ≤ 16383 := by decide +kernel

/-- A station that has written row 12 and is fetching it. -/
def fetching12 : Device :=
  let d := storeRow 12 2#8 (List.replicate 32 0xA5#8) (sec .weave)
  { d with store := { d.store with fetch := .fetching 12 (.pick false none) 200 } }

theorem witness_SoundFetchFillsThePick :
    fetching12.control.powered = true ∧
    fetching12.control.role = .sectionRole ∧
    fetching12.store.fetch = .fetching 12 (.pick false none) 200 ∧
    12 ∈ fetching12.store.written ∧
    (readRow fetching12 12).sound = true := by decide +kernel

/-- A station fetching row 12, whose slot holds one byte and no matching check. -/
def broken (written : List Nat) : Device :=
  { sec .weave with store := ⟨[(3072, 1#8)], written, .fetching 12 (.pick true (some 3)) 200, none, none⟩ }

theorem witness_DamagedFetchVoidsThePick_mark :
    (broken []).control.powered = true ∧
    (broken []).control.role = .sectionRole ∧
    (broken []).store.fetch = .fetching 12 (.pick true (some 3)) 200 ∧
    12 ∉ (broken []).store.written := by decide +kernel

theorem witness_DamagedFetchVoidsThePick_check :
    (broken [12]).control.powered = true ∧
    (broken [12]).store.fetch = .fetching 12 (.pick true (some 3)) 200 ∧
    12 ∈ (broken [12]).store.written ∧
    (readRow (broken [12]) 12).sound = false := by decide +kernel

theorem witness_FrameIsReceivedAsSent :
    (line (fun l => { l with rx := .header ⟨[], false⟩ }) (sec .weave)).control.powered = true ∧
    (line (fun l => { l with rx := .header ⟨[], false⟩ }) (sec .weave)).line.rx = .header ⟨[], false⟩ ∧
    (beaconOf 7#8).payload.length ≤ 160 ∧
    (line (fun l => { l with rx := .header ⟨[], false⟩ }) (sec .weave)).line.queue.length < 4 ∧
    (beaconOf 7#8).kind = beaconKind := by decide +kernel

theorem witness_ReceiverOpensAndDiscardsFrames_discard :
    (line (fun l => { l with rx := .header ⟨[], false⟩ }) (sec .weave)).line.rx ≠ .hunt ∧
    charGood ⟨1#8, true, true⟩ = false ∧
    (sec .weave).line.rx = .hunt := by decide +kernel

theorem witness_ReceiverOpensAndDiscardsFrames_character :
    (line (fun l => { l with rx := .header ⟨[], false⟩ }) (sec .weave)).line.rx ≠ .hunt ∧ (line (fun l => { l with rx := .header ⟨[], false⟩ }) (sec .weave)).line.rx ≠ .awaitingRun ∧
    parityGood ⟨1#8, true, true⟩ = false ∧ (⟨1#8, true, true⟩ : LineChar).stop = true ∧
    (⟨1#8, false, false⟩ : LineChar).stop = false := by decide +kernel

theorem witness_ReceiverOpensAndDiscardsFrames_stop_bit :
    (line (fun l => { l with rx := .awaitingRun, dominantRun := 21 }) (sec .weave)).line.rx = .awaitingRun ∧ (line (fun l => { l with rx := .awaitingRun, dominantRun := 21 }) (sec .weave)).line.dominantRun = 21 ∧
    (line (fun l => { l with rx := .awaitingRun, dominantRun := 22 }) (sec .weave)).line.rx = .awaitingRun ∧ ¬((line (fun l => { l with rx := .awaitingRun, dominantRun := 22 }) (sec .weave)).line.dominantRun < 22) ∧
    (line (fun l => { l with rx := .awaitingRun, dominantRun := 21 }) (sec .weave)).control.powered = true := by decide +kernel

theorem witness_ReceiverOpensAndDiscardsFrames_released : ∀ n, (sec .weave).line.tx ≠ .pulse n := by
  intro n h; cases h

theorem witness_ReceiverOpensAndDiscardsFrames_mark_judges :
    (judgeStopBit (line (fun l => { l with rx := .awaitingRun, dominantRun := 21 }) (sec .weave)).line).rx = .hunt ∧ (line (fun l => { l with rx := .awaitingRun, dominantRun := 21 }) (sec .weave)).line.stuck = false ∧
    (judgeStopBit (line (fun l => { l with rx := .awaitingRun, dominantRun := 21 }) (sec .weave)).line).counters ≠ (line (fun l => { l with rx := .awaitingRun, dominantRun := 21 }) (sec .weave)).line.counters := by decide +kernel

theorem witness_ReceiverOpensAndDiscardsFrames_mark :
    (sec .weave).control.powered = true ∧
    (sec .weave).line.rx = .hunt ∧ (sec .weave).line.stuck = false ∧
    12 ≤ 12 ∧ 11 < 12 ∧
    soundChar 0x2D#8 ≠ soundChar 0xB4#8 := by decide +kernel

theorem witness_FrameStartTakesTheBeaconFirst :
    (line (fun l => { l with beaconSlot := some ⟨beaconOf 0#8, 0⟩ }) (sec .weave)).control.powered = true ∧
    (line (fun l => { l with beaconSlot := some ⟨beaconOf 0#8, 0⟩ }) (sec .weave)).line.tx = .idle ∧ (line (fun l => { l with beaconSlot := some ⟨beaconOf 0#8, 0⟩ }) (sec .weave)).line.stuck = false ∧
    (line (fun l => { l with beaconSlot := some ⟨beaconOf 0#8, 0⟩ }) (sec .weave)).line.accessWait ≤ 12 ∧ 11 < (line (fun l => { l with beaconSlot := some ⟨beaconOf 0#8, 0⟩ }) (sec .weave)).line.accessWait ∧
    (line (fun l => { l with beaconSlot := some ⟨beaconOf 0#8, 0⟩ }) (sec .weave)).line.beaconSlot = some ⟨beaconOf 0#8, 0⟩ ∧
    (line (fun l => { l with replySlot := some ⟨beaconOf 0#8, 0⟩ }) (sec .weave)).line.replySlot = some ⟨beaconOf 0#8, 0⟩ ∧
    (line (fun l => { l with replySlot := some ⟨beaconOf 0#8, 0⟩ }) (sec .weave)).line.beaconSlot = none := by decide +kernel

theorem witness_FrameStartTakesTheBeaconFirst_stop_bit :
    (line (fun l => { l with rx := .awaitingRun, beaconSlot := some ⟨beaconOf 0#8, 0⟩ }) (sec .weave)).control.powered = true ∧ (line (fun l => { l with rx := .awaitingRun, beaconSlot := some ⟨beaconOf 0#8, 0⟩ }) (sec .weave)).line.tx = .idle ∧ (line (fun l => { l with rx := .awaitingRun, beaconSlot := some ⟨beaconOf 0#8, 0⟩ }) (sec .weave)).line.stuck = false ∧
    (line (fun l => { l with rx := .awaitingRun, beaconSlot := some ⟨beaconOf 0#8, 0⟩ }) (sec .weave)).line.rx = .awaitingRun ∧ (judgeStopBit (line (fun l => { l with rx := .awaitingRun, beaconSlot := some ⟨beaconOf 0#8, 0⟩ }) (sec .weave)).line).counters ≠ (line (fun l => { l with rx := .awaitingRun, beaconSlot := some ⟨beaconOf 0#8, 0⟩ }) (sec .weave)).line.counters := by decide +kernel

theorem witness_TransmissionEndsAsItsSlotGives_6 :
    (line (fun l => { l with tx := .sending .reply [], replySlot := some ⟨beaconOf 0#8, 6⟩ }) (sec .weave)).control.powered = true ∧
    (line (fun l => { l with tx := .sending .reply [], replySlot := some ⟨beaconOf 0#8, 6⟩ }) (sec .weave)).line.tx = .sending .reply [] ∧
    slotOf .reply (line (fun l => { l with tx := .sending .reply [], replySlot := some ⟨beaconOf 0#8, 6⟩ }) (sec .weave)) = some ⟨beaconOf 0#8, 6⟩ ∧
    (line (fun l => { l with tx := .sending .reply [], replySlot := some ⟨beaconOf 0#8, 6⟩ }) (sec .weave)).control.resetPending = none ∧
    (line (fun l => { l with tx := .sending .reply [], replySlot := some ⟨beaconOf 0#8, 6⟩ }) (sec .weave)).line.completion = none := by decide +kernel

theorem witness_TransmissionEndsAsItsSlotGives_7 :
    (line (fun l => { l with tx := .sending .reply [], replySlot := some ⟨beaconOf 0#8, 7⟩ }) (sec .weave)).control.powered = true ∧
    (line (fun l => { l with tx := .sending .reply [], replySlot := some ⟨beaconOf 0#8, 7⟩ }) (sec .weave)).line.tx = .sending .reply [] ∧
    slotOf .reply (line (fun l => { l with tx := .sending .reply [], replySlot := some ⟨beaconOf 0#8, 7⟩ }) (sec .weave)) = some ⟨beaconOf 0#8, 7⟩ ∧
    (line (fun l => { l with tx := .sending .reply [], replySlot := some ⟨beaconOf 0#8, 7⟩ }) (sec .weave)).control.resetPending = none ∧
    (line (fun l => { l with tx := .sending .reply [], replySlot := some ⟨beaconOf 0#8, 7⟩ }) (sec .weave)).line.completion = none := by decide +kernel

theorem witness_TransmissionEndsAsItsSlotGives_sent :
    (line (fun l => { l with tx := .sending .reply [], completion := some (beaconOf 0#8) }) (sec .test)).control.powered = true ∧
    (line (fun l => { l with tx := .sending .reply [], completion := some (beaconOf 0#8) }) (sec .test)).line.tx = .sending .reply [] ∧
    (line (fun l => { l with tx := .sending .reply [], completion := some (beaconOf 0#8) }) (sec .test)).control.resetPending = none := by decide +kernel

theorem witness_BeaconsReachTheRoster_peer :
    (line (fun l => { l with queue := [beaconOf 7#8] }) (sec .weave)).control.powered = true ∧
    (line (fun l => { l with queue := [beaconOf 7#8] }) (sec .weave)).line.queue = beaconOf 7#8 :: [] ∧
    (beaconOf 7#8).kind = beaconKind ∧
    (beaconOf 7#8).source.toNat ≤ 31 ∧
    (beaconOf 7#8).source.toNat ≠ (line (fun l => { l with queue := [beaconOf 7#8] }) (sec .weave)).control.number ∧
    beaconEntry 7 beaconBytes = some ⟨7, .sectionRole, .weave, ⟨0, 1, 2, 2⟩, 100, 256, 1, false, 0, false⟩ := by decide +kernel

/-- A training run at rest after a trial. -/
def resting (delay trial ones : Nat) : Device :=
  strs (fun g => { g with power := .on })
    (train (fun t => { t with phase := .rest, delay := delay, trial := trial, ones := ones }) (sec .train))

/-- A peer 7 with 3 misses, heard in this window, and a station that holds its beacon. -/
def knownPeer : RosterEntry := ⟨7, .sectionRole, .ready, ⟨0, 1, 0, 0⟩, 0, 256, 15, true, 3, true⟩
def hearing (es : List RosterEntry) : Device :=
  { line (fun l => { l with queue := [beaconOf 7#8] }) (sec .weave) with roster := ⟨false, es, none, false⟩ }

/-- R100: taking a beacon leaves the misses and the heard mark of a known peer; a new one has none. -/
theorem test_misses_stay :
    [[knownPeer], []].map (fun es => (after .beaconTaken (hearing es)).map fun d =>
      d.roster.entries.map fun e => (e.misses, e.heard, e.lapsed)) = [some [(3, true, false)], some [(0, false, false)]] := by
  decide +kernel

theorem witness_BeaconsReachTheRoster_known :
    (hearing [knownPeer]).control.powered = true ∧ (hearing [knownPeer]).line.queue = beaconOf 7#8 :: [] ∧ (beaconOf 7#8).source.toNat = 7 ∧ (hearing [knownPeer]).control.number ≠ 7 ∧
    ((hearing [knownPeer]).roster.entries.map (·.station)).Pairwise (· < ·) ∧ knownPeer ∈ (hearing [knownPeer]).roster.entries ∧ knownPeer.station = 7 ∧
    (hearing []).roster.entries = [] := by decide +kernel

theorem witness_BeaconsReachTheRoster_own_train :
    (line (fun l => { l with queue := [beaconOf 0#8] }) (resting 100 3 2)).control.powered = true ∧ (line (fun l => { l with queue := [beaconOf 0#8] }) (resting 100 3 2)).control.state = .train ∧ (line (fun l => { l with queue := [beaconOf 0#8] }) (resting 100 3 2)).line.queue = beaconOf 0#8 :: [] ∧
    (beaconOf 0#8).source.toNat = (line (fun l => { l with queue := [beaconOf 0#8] }) (resting 100 3 2)).control.number := by decide +kernel

theorem witness_BeaconsReachTheRoster_own_dormant :
    (line (fun l => { l with queue := [beaconOf 0#8] }) (sec .dormant)).control.powered = true ∧
    (line (fun l => { l with queue := [beaconOf 0#8] }) (sec .dormant)).line.queue = beaconOf 0#8 :: [] ∧
    (beaconOf 0#8).kind = beaconKind ∧
    (beaconOf 0#8).source.toNat ≤ 31 ∧
    (beaconOf 0#8).source.toNat = (line (fun l => { l with queue := [beaconOf 0#8] }) (sec .dormant)).control.number ∧
    (line (fun l => { l with queue := [beaconOf 0#8] }) (sec .dormant)).control.state = .dormant := by decide +kernel

theorem witness_BeaconsReachTheRoster_own_weave :
    (line (fun l => { l with queue := [beaconOf 0#8] }) (sec .weave)).control.powered = true ∧
    (line (fun l => { l with queue := [beaconOf 0#8] }) (sec .weave)).line.queue = beaconOf 0#8 :: [] ∧
    (beaconOf 0#8).kind = beaconKind ∧
    (beaconOf 0#8).source.toNat ≤ 31 ∧
    (beaconOf 0#8).source.toNat = (line (fun l => { l with queue := [beaconOf 0#8] }) (sec .weave)).control.number ∧
    (line (fun l => { l with queue := [beaconOf 0#8] }) (sec .weave)).control.state = .weave := by decide +kernel

theorem witness_UnansweredFramesAreDiscarded_request :
    (line (fun l => { l with replySlot := some ⟨beaconOf 0#8, 0⟩ }) (asking .status [] (sec .ready))).control.number < 32 ∧
    requestAt .status (byte (line (fun l => { l with replySlot := some ⟨beaconOf 0#8, 0⟩ }) (asking .status [] (sec .ready))).control.number) [] (line (fun l => { l with replySlot := some ⟨beaconOf 0#8, 0⟩ }) (asking .status [] (sec .ready))) = true ∧
    (line (fun l => { l with replySlot := some ⟨beaconOf 0#8, 0⟩ }) (asking .status [] (sec .ready))).line.replySlot.isSome = true := by decide +kernel

theorem witness_RequestIsRefusedOutsideItsStates :
    asked .arm [] (asking .arm [] (sec .train)) = true ∧
    (asking .arm [] (sec .train)).control.state ∉ takenIn .arm ∧
    asked .configure [] (asking .configure [] (sec .load)) = true ∧
    (asking .configure [] (sec .load)).control.state ∉ takenIn .configure := by decide +kernel

theorem witness_RequestIsRefusedOutsideItsStates_length :
    asked .loadDone [0#8] (asking .loadDone [0#8] (sec .load)) = true ∧ StationState.load ∈ takenIn .loadDone ∧ ([0#8] : List Byte).length ≠ 0 ∧
    asked .positionSet [] (asking .positionSet [] (sec .ready)) = true ∧ StationState.ready ∈ takenIn .positionSet ∧ ([] : List Byte).length ≠ 8 ∧
    asked .positionResume [0#8] (asking .positionResume [0#8] (sec .ready)) = true ∧ StationState.ready ∈ takenIn .positionResume ∧ ([0#8] : List Byte).length ≠ 0 ∧
    asked .arm [0#8] (asking .arm [0#8] (sec .ready)) = true ∧ StationState.ready ∈ takenIn .arm ∧ ([0#8] : List Byte).length ≠ 0 ∧
    asked .disarm [0#8] (asking .disarm [0#8] (sec .weave)) = true ∧ StationState.weave ∈ takenIn .disarm ∧ ([0#8] : List Byte).length ≠ 0 ∧
    asked .testStep [0#8] (asking .testStep [0#8] (sec .test)) = true ∧ StationState.test ∈ takenIn .testStep ∧ ([0#8] : List Byte).length ≠ 0 ∧
    asked .testEnd [0#8] (asking .testEnd [0#8] (sec .test)) = true ∧ StationState.test ∈ takenIn .testEnd ∧ ([0#8] : List Byte).length ≠ 0 ∧
    asked .train [0#8] (asking .train [0#8] (sec .ready)) = true ∧ StationState.ready ∈ takenIn .train ∧ ([0#8] : List Byte).length ≠ 0 ∧
    asked .reset [0#8] (asking .reset [0#8] (sec .fault)) = true ∧ StationState.fault ∈ takenIn .reset ∧ ([0#8] : List Byte).length ≠ 0 ∧
    (sec .ready).control.role = .sectionRole := by decide +kernel

/-- R170: RANGE for a payload of the wrong length, and nothing executed. -/
theorem test_wrong_lengths :
    [(Request.arm, sec .ready), (.disarm, turning 5 (sec .weave)), (.testEnd, sec .test), (.reset, sec .fault)].map (fun x =>
      (after (requestInstr 0#8 x.1) (asking x.1 [0#8] x.2)).map fun d =>
        (d.control.state, d.control.resetPending, (d.line.replySlot.map (·.frame.payload.drop 1 |>.take 1)))) =
      [some (.ready, none, some [3#8]), some (.weave, none, some [3#8]), some (.test, none, some [3#8]),
        some (.fault, none, some [3#8])] := by decide +kernel

theorem witness_ArmAndDisarm_broadcast :
    requestAt .arm allNodes [] (calling .arm [] (sec .ready)) = true ∧
    requestAt .disarm allNodes [] (calling .disarm [] (sec .weave)) = true ∧
    (sec .weave).tracker.speed = .stalled ∧ (turning 5 (sec .weave)).tracker.speed ≠ .stalled := by decide +kernel

/-- Payloads that CONFIGURE refuses with RANGE and ORDER, and one that it takes (R171, 12.3). -/
theorem witness_ConfigureIsCheckedAndTaken :
    asked .configure (configBytes 2560) (asking .configure (configBytes 2560) State.reset.dev) = true ∧
    State.reset.dev.control.state = .dormant ∧ (configBytes 2560).length = configLength .sectionRole ∧
    (List.replicate 22 0#8).length = configLength (otherRole .sectionRole) ∧
    ([] : List Byte).length ≠ 34 ∧ ([] : List Byte).length ≠ 22 ∧
    fieldsInRange .sectionRole (configFields .sectionRole (List.replicate 34 0#8)) = false ∧
    fieldsInRange .sectionRole (configFields .sectionRole (configBytes 2310)) = true ∧
    anglesInOrder .sectionRole (clamped .sectionRole (configFields .sectionRole (configBytes 2310))) = false ∧
    fieldsInRange .sectionRole (configFields .sectionRole (configBytes 2560)) = true ∧
    anglesInOrder .sectionRole (clamped .sectionRole (configFields .sectionRole (configBytes 2560))) = true := by
  decide +kernel

theorem witness_ProgrammeIsWritten_run :
    asked .runWrite runBytes (asking .runWrite runBytes (sec .load)) = true ∧
    (sec .load).control.state = .load ∧ runBytes.length = 10 ∧ fieldAt runBytes 0 1 ≤ 63 ∧
    runInRange (runFields runBytes) = true := by decide +kernel

theorem witness_ProgrammeIsWritten_match :
    asked .matchWrite matchBytes (asking .matchWrite matchBytes (sec .weave)) = true ∧
    matchBytes.length = 12 ∧ fieldAt matchBytes 0 1 ≤ 11 ∧
    actionOf (fieldAt matchBytes 10 1) = some .notice ∧
    matchInRange (matchFields matchBytes .notice) = true := by decide +kernel

theorem witness_ProgrammeIsWritten_map :
    asked .weftMapWrite [2#8, 2#8, 5#8, 1#8] (asking .weftMapWrite [2#8, 2#8, 5#8, 1#8] (wef .load)) = true ∧
    (wef .load).control.role = .weftRole ∧
    mapInRange (mapFields [2#8, 2#8, 5#8, 1#8]) = true ∧
    fieldAt [2#8, 2#8, 5#8, 1#8] 0 1 ≤ 7 := by decide +kernel

theorem witness_LoadDonePassesOrChangesNothing :
    asked .loadDone [] (asking .loadDone [] (loaded (sec .load))) = true ∧
    (loaded (sec .load)).control.state = .load ∧
    loadFailure (loaded (sec .load)) = none ∧
    dwellDue (loaded (sec .load)) = false ∧
    runAt (sec .load).seq.runs (sec .load).seq.startRun = none ∧
    loadFailure (sec .load) = some ⟨.startUnwritten, 0, 0xFFFF, 0xFF⟩ := by decide +kernel

theorem witness_PositionIsSetOrResumed_set :
    asked .positionSet ([1#8] ++ be16 1 ++ be16 2 ++ be24 9340) (asking .positionSet ([1#8] ++ be16 1 ++ be16 2 ++ be24 9340) (loaded (sec .ready))) = true ∧
    ([1#8] ++ be16 1 ++ be16 2 ++ be24 9340).length = 8 ∧ ([1#8] ++ be16 0 ++ be16 2 ++ be24 9340).length = 8 ∧
    validPosition twoRuns (positionFields ([1#8] ++ be16 1 ++ be16 2 ++ be24 9340)) = true ∧
    validPosition twoRuns (positionFields ([1#8] ++ be16 0 ++ be16 2 ++ be24 9340)) = false ∧
    (loaded (sec .ready)).control.config = some secCfg ∧ (loaded (sec .ready)).control.state = .ready := by decide +kernel

/-- A station in READY whose retained record is held and names a position. -/
def retaining (p : Position) (identity : BitVec 32) : Device :=
  asking .positionResume [] (control (fun c => { c with retained := recordOf p identity, retention := .intact }) (loaded (sec .ready)))

theorem witness_PositionIsSetOrResumed_resume :
    asked .positionResume [] (retaining ⟨1, 1, 2, 9340⟩ 0x00A3F210#32) = true ∧
    (retaining ⟨1, 1, 2, 9340⟩ 0x00A3F210#32).control.retention ≠ .lost ∧
    (retaining ⟨1, 1, 2, 9340⟩ 0x00A3F210#32).control.retained.identity = secCfg.identity ∧
    (retaining ⟨1, 1, 2, 9340⟩ 1#32).control.retained.identity ≠ secCfg.identity ∧
    validPosition twoRuns (recordPosition (retaining ⟨1, 1, 2, 9340⟩ 0x00A3F210#32).control.retained) = true ∧
    validPosition twoRuns (recordPosition (retaining ⟨2, 1, 2, 9340⟩ 0x00A3F210#32).control.retained) = false ∧
    (asking .positionResume [] (loaded (sec .ready))).control.retention = .lost := by decide +kernel

theorem witness_ArmAndDisarm :
    asked .arm [] (asking .arm [] (sec .ready)) = true ∧
    dwellDue (turn (fun t => { t with stationary := 30 }) (asking .arm [] (sec .ready))) = true ∧
    dwellDue (asking .arm [] (sec .ready)) = false ∧
    asked .disarm [] (asking .disarm [] (turning 5 (sec .weave))) = true ∧ (turning 5 (sec .weave)).tracker.speed ≠ .stalled ∧
    asked .disarm [] (asking .disarm [] (sec .weave)) = true ∧ (sec .weave).tracker.speed = .stalled := by decide +kernel

theorem witness_TestBeginsAndEnds :
    asked .testBegin [4#8, 0x3F#8, 0xFF#8] (asking .testBegin [4#8, 0x3F#8, 0xFF#8] (sec .ready)) = true ∧
    patternOf (fieldAt [4#8, 0x3F#8, 0xFF#8] 0 1) = some .row ∧
    fieldAt [4#8, 0x3F#8, 0xFF#8] 1 2 ≤ 16383 ∧
    asked .testEnd [] (asking .testEnd [] (sec .test)) = true := by decide +kernel

/-- A station in TEST with the pattern CHECKER at the given string power and stage. -/
def testing (p : Power) (op : SteppedOp) : Device :=
  asking .testStep [] (strs (fun g => { g with power := p, test := ⟨some .checker, 0, 0, op⟩ }) (sec .test))

theorem witness_TestStepFiresThePattern :
    asked .testStep [] (testing .on .idle) = true ∧
    (testing .on .idle).control.state = .test ∧ (testing .on .idle).strings.test.pattern = some .checker ∧
    (testing .on .idle).tracker.speed = .stalled ∧ (testing .on .idle).strings.test.op = .idle ∧
    (testing .on .idle).control.role = .sectionRole ∧ (testing .on .idle).strings.power = .on ∧
    (turning 5 (testing .on .idle)).tracker.speed ≠ .stalled ∧
    (testing .on (.inFlight .power)).strings.test.op ≠ .idle ∧
    1 < stringCount (testing .on .idle) := by decide +kernel

theorem witness_TestStepIsCaptured :
    (testing .on (.inFlight (.energised 200000))).control.powered = true ∧
    (testing .on (.inFlight (.energised 200000))).strings.test.op = .inFlight (.energised 200000) ∧
    (testing .on (.inFlight (.energised 200000))).line.replySlot = none ∧
    (testing .on (.inFlight (.energised 200000))).line.completion = none := by decide +kernel

theorem witness_TestStepIsCaptured_slot_taken :
    (line (fun l => { l with replySlot := some ⟨beaconOf 1#8, 0⟩ }) (testing .on (.inFlight (.energised 200000)))).control.powered = true ∧ (line (fun l => { l with replySlot := some ⟨beaconOf 1#8, 0⟩ }) (testing .on (.inFlight (.energised 200000)))).strings.test.op = .inFlight (.energised 200000) ∧
    (line (fun l => { l with replySlot := some ⟨beaconOf 1#8, 0⟩ }) (testing .on (.inFlight (.energised 200000)))).line.replySlot ≠ none ∨ (line (fun l => { l with replySlot := some ⟨beaconOf 1#8, 0⟩ }) (testing .on (.inFlight (.energised 200000)))).line.completion ≠ none := by decide +kernel

theorem witness_TestStepIsCaptured_waiting :
    (line (fun l => { l with completion := some (beaconOf 1#8) }) (testing .on (.inFlight (.energised 200000)))).control.powered = true ∧ (line (fun l => { l with completion := some (beaconOf 1#8) }) (testing .on (.inFlight (.energised 200000)))).strings.test.op = .inFlight (.energised 200000) ∧
    (line (fun l => { l with completion := some (beaconOf 1#8) }) (testing .on (.inFlight (.energised 200000)))).line.replySlot ≠ none ∨ (line (fun l => { l with completion := some (beaconOf 1#8) }) (testing .on (.inFlight (.energised 200000)))).line.completion ≠ none := by decide +kernel

/-- R81: the completion reply waits while the reply slot is taken. -/
theorem test_completion_waits :
    (after (.testStepCapture dark) (line (fun l => { l with replySlot := some ⟨beaconOf 1#8, 0⟩ })
      (testing .on (.inFlight (.energised 200000))))).map
      (fun d => (d.line.replySlot, d.line.completion.map (·.payload.take 2))) =
      some (some ⟨beaconOf 1#8, 0⟩, some [0xCD#8, 0#8]) := by decide +kernel

theorem witness_TrainingStarts_role :
    asked .train [] (asking .train [] (wef .ready)) = true ∧
    (wef .ready).control.state = .ready ∧ (wef .ready).control.role = .weftRole := by decide +kernel

theorem witness_TrainingStarts :
    asked .train [] (asking .train [] (sec .ready)) = true ∧
    (sec .ready).control.role = .sectionRole ∧ (sec .ready).tracker.speed = .stalled ∧ (sec .ready).strings.power ≠ .on ∧
    asked .train [] (asking .train [] (turning 5 (sec .ready))) = true ∧ (turning 5 (sec .ready)).tracker.speed ≠ .stalled := by decide +kernel

theorem witness_TrialsSearchTheLatency :
    (train (fun t => { t with phase := .trial }) (sec .train)).trainer.phase = .trial ∧
    (resting 100 3 2).control.powered = true ∧ (resting 100 3 2).trainer.phase = .rest ∧
    (resting 100 3 2).trainer.cur < stringCount (resting 100 3 2) ∧
    (resting 100 3 2).strings.strings[(resting 100 3 2).trainer.cur]? = some SelString.reset ∧
    (resting 100 3 2).trainer.trial < 4 ∧ 4 ≤ (resting 100 4 3).trainer.trial ∧
    3 ≤ (resting 100 4 3).trainer.ones ∧ (resting 9950 4 2).trainer.ones < 3 ∧
    (resting 9950 4 2).trainer.delay < 9975 ∧ 9975 ≤ (resting 9975 4 2).trainer.delay ∧
    (1#8 : BitVec 8).getLsbD 0 = true ∧ (0#8 : BitVec 8).getLsbD 0 = false := by decide +kernel

theorem witness_ReadingRequestsReport_lists :
    asked .status [] (asking .status [] (sec .dormant)) = true ∧
    asked .historyRead [23#8] (asking .historyRead [23#8] (sec .weave)) = true ∧ fieldAt [23#8] 0 1 ≤ 23 ∧
    asked .rosterRead [31#8] (asking .rosterRead [31#8] (sec .weave)) = true ∧ fieldAt [31#8] 0 1 ≤ 31 ∧
    asked .faultListRead [31#8] (asking .faultListRead [31#8] (sec .test)) = true ∧
    (sec .test).control.state ∈ takenIn .faultListRead ∧ (sec .test).control.role = .sectionRole ∧
    (sec .weave).control.state ∈ takenIn .historyRead ∧ (sec .weave).control.state ∈ takenIn .rosterRead := by decide +kernel

theorem witness_ReadingRequestsReport_flags :
    asked .flagsTake [] (asking .flagsTake [] (sec .train)) = true ∧ (sec .train).control.state ∈ takenIn .flagsTake ∧
    asked .faultListClear [] (asking .faultListClear [] (sec .test)) = true ∧ (sec .test).control.state ∈ takenIn .faultListClear ∧
    asked .noticeMask (be32 1073741823) (asking .noticeMask (be32 1073741823) (sec .test)) = true ∧
    (sec .test).control.state ∈ takenIn .noticeMask ∧ fieldAt (be32 1073741823) 0 4 < 1073741824 ∧
    1073741824 ≤ fieldAt (be32 1073741824) 0 4 := by decide +kernel

theorem witness_ReadingRequestsReport_row_range :
    asked .rowRead (be16 16384) (asking .rowRead (be16 16384) (sec .load)) = true ∧
    (sec .load).control.state = .load ∧
    (be16 16384).length = 2 ∧ 16383 < fieldAt (be16 16384) 0 2 ∧ ([0#8] : List Byte).length ≠ 2 := by decide +kernel

theorem witness_ReadingRequestsReport_depth_range :
    asked .historyRead [24#8] (asking .historyRead [24#8] (sec .weave)) = true ∧
    (sec .weave).control.state ∈ takenIn .historyRead ∧
    ([24#8] : List Byte).length = 1 ∧ 23 < fieldAt [24#8] 0 1 ∧ ([] : List Byte).length ≠ 1 := by decide +kernel

theorem witness_ReadingRequestsReport_station_range :
    asked .rosterRead [32#8] (asking .rosterRead [32#8] (sec .weave)) = true ∧
    (sec .weave).control.state ∈ takenIn .rosterRead ∧
    ([32#8] : List Byte).length = 1 ∧ 31 < fieldAt [32#8] 0 1 := by decide +kernel

theorem witness_ReadingRequestsReport_fault_range :
    asked .faultListRead [32#8] (asking .faultListRead [32#8] (sec .test)) = true ∧
    (sec .test).control.state ∈ takenIn .faultListRead ∧ (sec .test).control.role = .sectionRole ∧
    31 < fieldAt [32#8] 0 1 := by decide +kernel

theorem witness_ReadingRequestsReport_fault_role :
    asked .faultListRead [0#8] (asking .faultListRead [0#8] (wef .ready)) = true ∧
    (wef .ready).control.state ∈ takenIn .faultListRead ∧ (wef .ready).control.role = .weftRole := by decide +kernel

theorem witness_ReadingRequestsReport_clear_role :
    asked .faultListClear [] (asking .faultListClear [] (wef .ready)) = true ∧
    (wef .ready).control.state ∈ takenIn .faultListClear ∧ (wef .ready).control.role = .weftRole := by decide +kernel

theorem witness_ReadingRequestsReport_clear_range :
    asked .faultListClear [0#8] (asking .faultListClear [0#8] (sec .ready)) = true ∧
    (sec .ready).control.state ∈ takenIn .faultListClear ∧ (sec .ready).control.role = .sectionRole ∧ ([0#8] : List Byte) ≠ [] := by decide +kernel

theorem witness_ReadingRequestsReport_status_range :
    asked .status [0#8] (asking .status [0#8] (sec .ready)) = true ∧
    ([0#8] : List Byte) ≠ [] := by decide +kernel

theorem witness_ReadingRequestsReport_flags_range :
    asked .flagsTake [0#8] (asking .flagsTake [0#8] (sec .ready)) = true ∧
    (sec .ready).control.state ∈ takenIn .flagsTake := by decide +kernel

theorem witness_ReadingRequestsReport_mask_range :
    asked .noticeMask [0#8] (asking .noticeMask [0#8] (sec .ready)) = true ∧
    (sec .ready).control.state ∈ takenIn .noticeMask ∧ ([0#8] : List Byte).length ≠ 4 := by decide +kernel

theorem witness_ResetsLeaveTheResetCondition :
    asked .reset [] (asking .reset [] (sec .fault)) = true ∧
    (control (fun c => { c with resetPending := some 0 }) (sec .ready)).control.powered = true ∧
    (control (fun c => { c with resetPending := some 0 }) (sec .ready)).control.resetPending.isSome = true ∧
    (line (fun l => { l with tx := .sending .reply [] }) (control (fun c => { c with resetPending := some 0 }) (sec .ready))).line.tx = .sending .reply [] := by decide +kernel

theorem witness_PowerOnJudgesTheRecord :
    recordSound (recordOf ⟨2, 1, 78, 9341⟩ 0x00A3F210#32) = true ∧
    recordSound RetainedRecord.blank = false := by decide +kernel

theorem witness_PowerOnJudgesTheRecord_writes :
    (sec .weave).control.powered = true ∧ (sec .weave).control.writes = [] ∧
    (writeRetained (sec .weave)).control.writes = recordOf ⟨0, 1, 0, 0⟩ secCfg.identity :: [] ∧
    (writeRetained (sec .weave)).control.writes.getLast? = some (recordOf ⟨0, 1, 0, 0⟩ secCfg.identity) := by decide +kernel

/-- A string whose fire has fallen due while power was not ON. -/
def waitingString : SelString := { SelString.reset with chain := .pending, pattern := true, waiting := true }

/-- A weaving station in a forward pick with such a string, its power WAKING. -/
def waking : Device :=
  strs (fun g => { g with power := .waking 80000, mode := .forward, strings := [waitingString, SelString.reset] }) (sec .weave)

theorem witness_PowerComesOnAndInrushEnds :
    waking.control.powered = true ∧ waking.strings.power = .waking 80000 ∧ waking.trainer.phase = .idle ∧
    waking.strings.test.op ≠ .inFlight .power ∧ waking.control.state = .weave ∧ dwellDue waking = false ∧
    waking.strings.mode = .forward ∧ waking.strings.blank = false ∧ waking.strings.captureDone = false ∧
    0 < stringCount waking ∧ waking.strings.strings[0]? = some waitingString ∧
    waitingString.chain = .pending ∧ waitingString.pattern = true ∧ waitingString.waiting = true ∧
    waking.strings.strings[1]? = some SelString.reset ∧ SelString.reset.waiting = false ∧
    (strs (fun g => { g with strings := [{ SelString.reset with drive := .inrush 2400 }] }) (sec .weave)).strings.strings[0]? =
      some { SelString.reset with drive := .inrush 2400 } := by decide +kernel

/-- A weft station that watches the feeder of finger 3. -/
def watching (a : Arrival) : Device := weft (fun w => { w with output := some 3, arrival := a }) (wef .weave)

theorem witness_WeftInputsAreWatched :
    (watching .waiting).control.powered = true ∧ (watching .waiting).weft.arrival = .waiting ∧
    (watching .openWindow).weft.arrival = .openWindow ∧
    (watching .ended).weft.arrival ≠ .waiting ∧ (watching .ended).weft.arrival ≠ .openWindow ∧
    (watching .ended).control.role = .weftRole ∧ (watching .ended).control.state = .weave ∧
    (watching .ended).weft.output = some 3 ∧ (watching .ended).weft.arrival ≠ .idle ∧
    (watching .ended).pins.feederStop.getLsbD 3 = false ∧
    (watching .idle).weft.arrival = .idle := by decide +kernel

/-- Advances of 0, 1, 4,095 and 4,096 before the limits of R117, by the quotient of the statement. -/
theorem witness_AdvanceOfALead :
    (16 * 0 * 524288 + 2 ^ (38 - 0)) / 2 ^ (39 - 0) = 0 ∧ (16 * 65536 * 524288 + 2 ^ (38 - 0)) / 2 ^ (39 - 0) = 1 ∧
    (16 * 268369920 * 524288 + 2 ^ (38 - 0)) / 2 ^ (39 - 0) = 4095 ∧
    (16 * 268435456 * 524288 + 2 ^ (38 - 0)) / 2 ^ (39 - 0) = 4096 ∧ soundConfig .sectionRole secCfg = true ∧
    advanceOf ⟨19, 524288, 1048575⟩ 4127996 = 4095 := by decide +kernel

theorem witness_FireAngleLiesInTheWindow :
    soundConfig .sectionRole secCfg = true ∧
    (turning 5 (sec .weave)).tracker.speed ≠ .fast ∧
    (recipOf 1).isSome = true ∧ (recipOf 1048575).isSome = true := by decide +kernel

/-- Station 12's tie of 6.4: stations 3 and 9 at row 61, 5 and 7 at row 60, itself at row 59. -/
def tied : Device :=
  let peer (n row : Nat) : RosterEntry := ⟨n, .sectionRole, .weave, ⟨0, 1, row, row⟩, 100, 256, 1, true, 0, false⟩
  { seq (fun q => { q with pos := ⟨0, 1, 59, 59⟩ }) (sec .weave) with
    roster := ⟨true, [peer 3 61, peer 5 60, peer 7 60, peer 9 61], none, true⟩ }

theorem witness_OutvotedByTheLargestRival :
    outvotedBy tied = some ⟨0, 1, 61, 61⟩ ∧
    ownVotes tied = 1 := by decide +kernel

theorem witness_MemoryStaysCanonical :
    memoryCanonical fetching12 = true ∧
    fetching12.store.mem ≠ [] ∧
    memoryCanonical State.reset.dev = true := by decide +kernel

theorem witness_OutputsStaySafe_test :
    trainingSound (testing .on .idle) = true ∧ testPickSound (testing .on .idle) = true ∧ (testing .on .idle).control.state = .test ∧
    testPickSound (strs (fun g => { g with mode := .test }) (sec .weave)) = false ∧ testPickSound (strs (fun g => { g with mode := .test }) (sec .test)) = true := by decide +kernel

theorem witness_OutputsStaySafe : outputsSafe (strs (fun g => { g with power := .on, strings := [{ SelString.reset with drive := .hold }] }) (sec .weave)) = true := by decide +kernel

theorem witness_PositionStaysValid :
    trainingSound (seq (fun q => { q with history := [entry] }) (loaded (sec .weave))) = true ∧
    positionSound (seq (fun q => { q with history := [entry] }) (loaded (sec .weave))) = true := by decide +kernel

theorem witness_StationStateFollowsItsTable :
    trainingSound (resting 100 1 0) = true ∧
    stateEdge .train .ready = true := by decide +kernel

/-- The shaft about to make one counting step onto an angle, forward or reverse. -/
def onto (x : Nat) (d : Device) : Device := turning ((x + 4095) % 4096) d
def backOnto (x : Nat) (d : Device) : Device := turn (fun t => { t with dir := .reverse }) (turning (x + 1) d)

theorem witness_IdleStepLetsATickPass_recessive :
    (line (fun l => { l with halfBit := true }) (sec .ready)).control.powered = true ∧
    (line (fun l => { l with halfBit := true }) (sec .ready)).line.tx = .idle ∧
    (line (fun l => { l with halfBit := true }) (sec .ready)).line.halfBit = true ∧ (sec .ready).line.halfBit = false := by decide +kernel

theorem witness_IdleStepLetsATickPass_pulse :
    (line (fun l => { l with halfBit := true, tx := .pulse 63 }) (sec .ready)).line.tx = .pulse 63 ∧ 63 < 64 ∧
    (line (fun l => { l with halfBit := true, tx := .pulse 63 }) (sec .ready)).line.halfBit = true := by decide +kernel

theorem witness_IdleStepLetsATickPass_stop_bit_21 :
    (line (fun l => { l with halfBit := true, rx := .awaitingRun, dominantRun := 21 }) (sec .ready)).line.rx = .awaitingRun ∧
    (line (fun l => { l with halfBit := true, rx := .awaitingRun, dominantRun := 21 }) (sec .ready)).line.dominantRun = 21 ∧ (sec .ready).line.rx ≠ .awaitingRun := by decide +kernel

theorem witness_IdleStepLetsATickPass_stop_bit_22 :
    (line (fun l => { l with halfBit := true, rx := .awaitingRun, dominantRun := 22 }) (sec .ready)).line.rx = .awaitingRun ∧
    (line (fun l => { l with halfBit := true, rx := .awaitingRun, dominantRun := 22 }) (sec .ready)).line.dominantRun = 22 ∧ (sec .ready).line.rx ≠ .awaitingRun := by decide +kernel

theorem witness_EncoderGlitchLosesNoAngle_dominant :
    (line (fun l => { l with dominantRun := 9, ownPulse := true }) (sec .weave)).control.powered = true ∧ (⟨24, [.dominant 12], none⟩ : Lapse).ticks = 2 * 12 ∧ (⟨24, [.dominant 12], none⟩ : Lapse).line = [.dominant 12] ∧
    (line (fun l => { l with dominantRun := 9, ownPulse := true }) (sec .weave)).line.halfBit = false ∧ (line (fun l => { l with dominantRun := 9, ownPulse := true }) (sec .weave)).line.tx = .idle := by decide +kernel

theorem witness_EncoderGlitchLosesNoAngle_recessive :
    (line (fun l => { l with dominantRun := 9, ownPulse := true }) (sec .weave)).control.powered = true ∧ (⟨24, [], none⟩ : Lapse).ticks = 2 * 12 ∧ (⟨24, [], none⟩ : Lapse).line = [] ∧
    (line (fun l => { l with dominantRun := 9, ownPulse := true }) (sec .weave)).line.halfBit = false ∧ (line (fun l => { l with dominantRun := 9, ownPulse := true }) (sec .weave)).line.tx = .idle := by decide +kernel

theorem witness_EncoderGlitchLosesNoAngle_pulse :
    (line (fun l => { l with tx := .pulse 40 }) (sec .weave)).control.powered = true ∧ (⟨24, [.recessive 12], none⟩ : Lapse).ticks = 2 * 12 ∧ 40 + 2 * 12 ≤ 64 ∧
    (line (fun l => { l with tx := .pulse 40 }) (sec .weave)).line.halfBit = false ∧ (line (fun l => { l with tx := .pulse 40 }) (sec .weave)).line.tx = .pulse 40 := by decide +kernel

theorem witness_SpanCompletionDecidesSpeed_before_configure :
    ((control (fun c => { c with config := none }) (turn (fun t => { t with spanCounts := some 15 }) (turning 5 (sec .weave))))).control.powered = true ∧
    (control (fun c => { c with config := none }) (turn (fun t => { t with spanCounts := some 15 }) (turning 5 (sec .weave)))).control.config = none ∧
    (control (fun c => { c with config := none }) (turn (fun t => { t with spanCounts := some 15 }) (turning 5 (sec .weave)))).tracker.speed ≠ .fast ∧
    (control (fun c => { c with config := none }) (turn (fun t => { t with spanCounts := some 15 }) (turning 5 (sec .weave)))).tracker.speed ≠ .stalled ∧
    phaseOf true false = (control (fun c => { c with config := none }) (turn (fun t => { t with spanCounts := some 15 }) (turning 5 (sec .weave)))).tracker.phase + 1#2 ∧
    (control (fun c => { c with config := none }) (turn (fun t => { t with spanCounts := some 15 }) (turning 5 (sec .weave)))).tracker.dir = .forward ∧
    (control (fun c => { c with config := none }) (turn (fun t => { t with spanCounts := some 15 }) (turning 5 (sec .weave)))).tracker.spanCounts = some 15 ∧
    min (max ((control (fun c => { c with config := none }) (turn (fun t => { t with spanCounts := some 15 }) (turning 5 (sec .weave)))).tracker.spanTimer + (lap 0).ticks) 1) 1048575 < secCfg.sFast := by decide +kernel

theorem witness_SpanCompletionDecidesSpeed_enters_fast :
    ((turn (fun t => { t with spanTimer := 1999 }) (turn (fun t => { t with spanCounts := some 15 }) (turning 5 (sec .weave))))).control.powered = true ∧
    (turn (fun t => { t with spanTimer := 1999 }) (turn (fun t => { t with spanCounts := some 15 }) (turning 5 (sec .weave)))).control.config = some secCfg ∧
    (turn (fun t => { t with spanTimer := 1999 }) (turn (fun t => { t with spanCounts := some 15 }) (turning 5 (sec .weave)))).tracker.speed ≠ .fast ∧
    (turn (fun t => { t with spanTimer := 1999 }) (turn (fun t => { t with spanCounts := some 15 }) (turning 5 (sec .weave)))).tracker.speed ≠ .stalled ∧
    phaseOf true false = (turn (fun t => { t with spanTimer := 1999 }) (turn (fun t => { t with spanCounts := some 15 }) (turning 5 (sec .weave)))).tracker.phase + 1#2 ∧
    (turn (fun t => { t with spanTimer := 1999 }) (turn (fun t => { t with spanCounts := some 15 }) (turning 5 (sec .weave)))).tracker.dir = .forward ∧
    (turn (fun t => { t with spanTimer := 1999 }) (turn (fun t => { t with spanCounts := some 15 }) (turning 5 (sec .weave)))).tracker.spanCounts = some 15 ∧
    min (max ((turn (fun t => { t with spanTimer := 1999 }) (turn (fun t => { t with spanCounts := some 15 }) (turning 5 (sec .weave)))).tracker.spanTimer + (lap 0).ticks) 1) 1048575 < secCfg.sFast := by decide +kernel

theorem witness_SpanCompletionDecidesSpeed_stays_fast :
    ((turn (fun t => { t with speed := .fast, spanTimer := 1999 }) (turn (fun t => { t with spanCounts := some 15 }) (turning 5 (sec .weave))))).control.powered = true ∧
    (turn (fun t => { t with speed := .fast, spanTimer := 1999 }) (turn (fun t => { t with spanCounts := some 15 }) (turning 5 (sec .weave)))).control.config = some secCfg ∧
    (turn (fun t => { t with speed := .fast, spanTimer := 1999 }) (turn (fun t => { t with spanCounts := some 15 }) (turning 5 (sec .weave)))).tracker.speed = .fast ∧
    (turn (fun t => { t with speed := .fast, spanTimer := 1999 }) (turn (fun t => { t with spanCounts := some 15 }) (turning 5 (sec .weave)))).tracker.speed ≠ .stalled ∧
    phaseOf true false = (turn (fun t => { t with speed := .fast, spanTimer := 1999 }) (turn (fun t => { t with spanCounts := some 15 }) (turning 5 (sec .weave)))).tracker.phase + 1#2 ∧
    (turn (fun t => { t with speed := .fast, spanTimer := 1999 }) (turn (fun t => { t with spanCounts := some 15 }) (turning 5 (sec .weave)))).tracker.dir = .forward ∧
    (turn (fun t => { t with speed := .fast, spanTimer := 1999 }) (turn (fun t => { t with spanCounts := some 15 }) (turning 5 (sec .weave)))).tracker.spanCounts = some 15 ∧
    min (max ((turn (fun t => { t with speed := .fast, spanTimer := 1999 }) (turn (fun t => { t with spanCounts := some 15 }) (turning 5 (sec .weave)))).tracker.spanTimer + (lap 0).ticks) 1) 1048575 < secCfg.sFast := by decide +kernel

/-- R10: entering FAST sets flag 10, and a span that stays in FAST does not set it again. -/
theorem test_fast_flag :
    [(Speed.run, 1999), (.fast, 1999), (.run, 2000)].map (fun x =>
      (after (.countingStep true false false (lap 0) dark)
        (turn (fun t => { t with spanCounts := some 15, speed := x.1, spanTimer := x.2 }) (turning 5 (sec .weave)))).map fun d =>
          (d.tracker.speed, d.control.flags.getLsbD 10)) = [some (.fast, true), some (.fast, false), some (.run, false)] := by decide +kernel

theorem witness_SpanCompletionDecidesSpeed_reverse :
    ((turn (fun t => { t with spanCounts := some 15, dir := .reverse }) (turning 5 (sec .weave)))).control.powered = true ∧
    phaseOf false true = (turn (fun t => { t with spanCounts := some 15, dir := .reverse }) (turning 5 (sec .weave))).tracker.phase - 1#2 ∧
    (turn (fun t => { t with spanCounts := some 15, dir := .reverse }) (turning 5 (sec .weave))).tracker.dir = .reverse ∧
    (turn (fun t => { t with spanCounts := some 15, dir := .reverse }) (turning 5 (sec .weave))).tracker.spanCounts = some 15 ∧
    (turn (fun t => { t with spanCounts := some 15, dir := .reverse }) (turning 5 (sec .weave))).tracker.speed ≠ .stalled ∧
    (turn (fun t => { t with spanCounts := some 15, dir := .reverse }) (turning 5 (sec .weave))).control.config = some secCfg := by decide +kernel

theorem witness_DirectionChangeAndStallEnd_reverse :
    ((turn (fun t => { t with spanCounts := some 15, dir := .reverse }) (turning 5 (sec .weave)))).control.powered = true ∧
    phaseOf true false = (turn (fun t => { t with spanCounts := some 15, dir := .reverse }) (turning 5 (sec .weave))).tracker.phase + 1#2 ∧ (turn (fun t => { t with spanCounts := some 15, dir := .reverse }) (turning 5 (sec .weave))).tracker.dir = .reverse ∧
    (turn (fun t => { t with dir := .reverse }) (sec .weave)).tracker.speed = .stalled ∧ (turn (fun t => { t with dir := .reverse }) (sec .weave)).tracker.dir = .reverse ∧
    phaseOf false true = (turn (fun t => { t with dir := .reverse }) (sec .weave)).tracker.phase - 1#2 := by decide +kernel

theorem witness_IndexReferencesChecksAndGoesMissing_missing_forward :
    ((turn (fun t => { t with indexDist := 8255 }) (turning 5 (sec .weave)))).control.powered = true ∧
    (turn (fun t => { t with indexDist := 8255 }) (turning 5 (sec .weave))).tracker.referenced = true ∧
    phaseOf true false = (turn (fun t => { t with indexDist := 8255 }) (turning 5 (sec .weave))).tracker.phase + 1#2 ∧
    8255 ≤ (turn (fun t => { t with indexDist := 8255 }) (turning 5 (sec .weave))).tracker.indexDist := by decide +kernel

theorem witness_IndexReferencesChecksAndGoesMissing_missing_reverse :
    ((turn (fun t => { t with indexDist := (-8255) }) (turning 5 (sec .weave)))).control.powered = true ∧
    (turn (fun t => { t with indexDist := (-8255) }) (turning 5 (sec .weave))).tracker.referenced = true ∧
    phaseOf false true = (turn (fun t => { t with indexDist := (-8255) }) (turning 5 (sec .weave))).tracker.phase - 1#2 ∧
    (turn (fun t => { t with indexDist := (-8255) }) (turning 5 (sec .weave))).tracker.indexDist ≤ -8255 := by decide +kernel

theorem witness_ForwardBoundaryCrossing_advance :
    (onto 0 (seq (fun q => { q with table := [⟨none, none, none, none, .hold, true⟩] }) (loaded (sec .weave)))).control.powered = true ∧
    (onto 0 (seq (fun q => { q with table := [⟨none, none, none, none, .hold, true⟩] }) (loaded (sec .weave)))).control.config = some secCfg ∧
    soundConfig (onto 0 (seq (fun q => { q with table := [⟨none, none, none, none, .hold, true⟩] }) (loaded (sec .weave)))).control.role secCfg = true ∧
    (onto 0 (seq (fun q => { q with table := [⟨none, none, none, none, .hold, true⟩] }) (loaded (sec .weave)))).control.state = .weave ∧
    (onto 0 (seq (fun q => { q with table := [⟨none, none, none, none, .hold, true⟩] }) (loaded (sec .weave)))).tracker.referenced = true ∧
    -8257 < (onto 0 (seq (fun q => { q with table := [⟨none, none, none, none, .hold, true⟩] }) (loaded (sec .weave)))).tracker.indexDist ∧ (onto 0 (seq (fun q => { q with table := [⟨none, none, none, none, .hold, true⟩] }) (loaded (sec .weave)))).tracker.indexDist < 8255 ∧
    phaseOf true false = (onto 0 (seq (fun q => { q with table := [⟨none, none, none, none, .hold, true⟩] }) (loaded (sec .weave)))).tracker.phase + 1#2 ∧
    ((onto 0 (seq (fun q => { q with table := [⟨none, none, none, none, .hold, true⟩] }) (loaded (sec .weave)))).tracker.angle + 1) % 4096 = secCfg.b ∧
    (onto 0 (seq (fun q => { q with table := [⟨none, none, none, none, .hold, true⟩] }) (loaded (sec .weave)))).seq.void = false ∧
    actionMatched { (onto 0 (seq (fun q => { q with table := [⟨none, none, none, none, .hold, true⟩] }) (loaded (sec .weave)))) with seq := { (onto 0 (seq (fun q => { q with table := [⟨none, none, none, none, .hold, true⟩] }) (loaded (sec .weave)))).seq with pos := advance (onto 0 (seq (fun q => { q with table := [⟨none, none, none, none, .hold, true⟩] }) (loaded (sec .weave)))).seq.runs (onto 0 (seq (fun q => { q with table := [⟨none, none, none, none, .hold, true⟩] }) (loaded (sec .weave)))).seq.pos } } .hold = true ∧
    (onto 0 (seq (fun q => { q with table := [⟨none, none, none, none, .hold, true⟩] }) (loaded (sec .weave)))).control.role = .sectionRole ∧ (onto 0 (seq (fun q => { q with table := [⟨none, none, none, none, .hold, true⟩] }) (loaded (sec .weave)))).strings.missTested = true := by decide +kernel

theorem witness_ForwardBoundaryCrossing_repeat :
    (turn (fun t => { t with indexDist := 8254 }) (onto 0 (line (fun l => { l with stuck := true }) (seq (fun q => { q with void := true }) (loaded (sec .weave)))))).control.powered = true ∧
    (turn (fun t => { t with indexDist := 8254 }) (onto 0 (line (fun l => { l with stuck := true }) (seq (fun q => { q with void := true }) (loaded (sec .weave)))))).control.config = some secCfg ∧
    soundConfig (turn (fun t => { t with indexDist := 8254 }) (onto 0 (line (fun l => { l with stuck := true }) (seq (fun q => { q with void := true }) (loaded (sec .weave)))))).control.role secCfg = true ∧
    (turn (fun t => { t with indexDist := 8254 }) (onto 0 (line (fun l => { l with stuck := true }) (seq (fun q => { q with void := true }) (loaded (sec .weave)))))).control.state = .weave ∧
    (turn (fun t => { t with indexDist := 8254 }) (onto 0 (line (fun l => { l with stuck := true }) (seq (fun q => { q with void := true }) (loaded (sec .weave)))))).tracker.referenced = true ∧
    -8257 < (turn (fun t => { t with indexDist := 8254 }) (onto 0 (line (fun l => { l with stuck := true }) (seq (fun q => { q with void := true }) (loaded (sec .weave)))))).tracker.indexDist ∧ (turn (fun t => { t with indexDist := 8254 }) (onto 0 (line (fun l => { l with stuck := true }) (seq (fun q => { q with void := true }) (loaded (sec .weave)))))).tracker.indexDist < 8255 ∧
    phaseOf true false = (turn (fun t => { t with indexDist := 8254 }) (onto 0 (line (fun l => { l with stuck := true }) (seq (fun q => { q with void := true }) (loaded (sec .weave)))))).tracker.phase + 1#2 ∧
    ((turn (fun t => { t with indexDist := 8254 }) (onto 0 (line (fun l => { l with stuck := true }) (seq (fun q => { q with void := true }) (loaded (sec .weave)))))).tracker.angle + 1) % 4096 = secCfg.b ∧
    (turn (fun t => { t with indexDist := 8254 }) (onto 0 (line (fun l => { l with stuck := true }) (seq (fun q => { q with void := true }) (loaded (sec .weave)))))).seq.void = true ∧ (turn (fun t => { t with indexDist := 8254 }) (onto 0 (line (fun l => { l with stuck := true }) (seq (fun q => { q with void := true }) (loaded (sec .weave)))))).line.stuck = true := by decide +kernel

theorem witness_ForwardBoundaryCrossing_weft :
    (turn (fun t => { t with indexDist := -8256 }) (onto 0 (loaded (wef .weave)))).control.powered = true ∧
    (turn (fun t => { t with indexDist := -8256 }) (onto 0 (loaded (wef .weave)))).control.config = some weftCfg ∧
    soundConfig (turn (fun t => { t with indexDist := -8256 }) (onto 0 (loaded (wef .weave)))).control.role weftCfg = true ∧
    (turn (fun t => { t with indexDist := -8256 }) (onto 0 (loaded (wef .weave)))).control.state = .weave ∧
    (turn (fun t => { t with indexDist := -8256 }) (onto 0 (loaded (wef .weave)))).tracker.referenced = true ∧
    -8257 < (turn (fun t => { t with indexDist := -8256 }) (onto 0 (loaded (wef .weave)))).tracker.indexDist ∧ (turn (fun t => { t with indexDist := -8256 }) (onto 0 (loaded (wef .weave)))).tracker.indexDist < 8255 ∧
    phaseOf true false = (turn (fun t => { t with indexDist := -8256 }) (onto 0 (loaded (wef .weave)))).tracker.phase + 1#2 ∧
    ((turn (fun t => { t with indexDist := -8256 }) (onto 0 (loaded (wef .weave)))).tracker.angle + 1) % 4096 = weftCfg.b ∧
    (turn (fun t => { t with indexDist := -8256 }) (onto 0 (loaded (wef .weave)))).control.role = .weftRole := by decide +kernel

theorem witness_ReverseBoundaryPops :
    (turn (fun t => { t with indexDist := -8254 }) (backOnto 0 (seq (fun q => { q with history := [entry] }) (loaded (sec .weave))))).control.powered = true ∧
    (turn (fun t => { t with indexDist := -8254 }) (backOnto 0 (seq (fun q => { q with history := [entry] }) (loaded (sec .weave))))).control.config = some secCfg ∧
    soundConfig (turn (fun t => { t with indexDist := -8254 }) (backOnto 0 (seq (fun q => { q with history := [entry] }) (loaded (sec .weave))))).control.role secCfg = true ∧
    (turn (fun t => { t with indexDist := -8254 }) (backOnto 0 (seq (fun q => { q with history := [entry] }) (loaded (sec .weave))))).control.state = .weave ∧
    (turn (fun t => { t with indexDist := -8254 }) (backOnto 0 (seq (fun q => { q with history := [entry] }) (loaded (sec .weave))))).tracker.referenced = true ∧
    -8255 < (turn (fun t => { t with indexDist := -8254 }) (backOnto 0 (seq (fun q => { q with history := [entry] }) (loaded (sec .weave))))).tracker.indexDist ∧ (turn (fun t => { t with indexDist := -8254 }) (backOnto 0 (seq (fun q => { q with history := [entry] }) (loaded (sec .weave))))).tracker.indexDist < 8257 ∧
    phaseOf false true = (turn (fun t => { t with indexDist := -8254 }) (backOnto 0 (seq (fun q => { q with history := [entry] }) (loaded (sec .weave))))).tracker.phase - 1#2 ∧
    ((turn (fun t => { t with indexDist := -8254 }) (backOnto 0 (seq (fun q => { q with history := [entry] }) (loaded (sec .weave))))).tracker.angle + 4095) % 4096 = secCfg.b ∧
    (turn (fun t => { t with indexDist := -8254 }) (backOnto 0 (seq (fun q => { q with history := [entry] }) (loaded (sec .weave))))).seq.history = entry :: [] ∧
    (turn (fun t => { t with indexDist := -8254 }) (backOnto 0 (seq (fun q => { q with history := [entry] }) (loaded (sec .weave))))).control.role = .sectionRole ∧ (turn (fun t => { t with indexDist := -8254 }) (backOnto 0 (seq (fun q => { q with history := [entry] }) (loaded (sec .weave))))).strings.missTested = true := by decide +kernel

theorem witness_ReverseBoundaryPops_exhausted :
    (turn (fun t => { t with indexDist := 8256 }) (backOnto 0 (loaded (wef .weave)))).control.powered = true ∧
    (turn (fun t => { t with indexDist := 8256 }) (backOnto 0 (loaded (wef .weave)))).control.config = some weftCfg ∧
    soundConfig (turn (fun t => { t with indexDist := 8256 }) (backOnto 0 (loaded (wef .weave)))).control.role weftCfg = true ∧
    (turn (fun t => { t with indexDist := 8256 }) (backOnto 0 (loaded (wef .weave)))).control.state = .weave ∧
    (turn (fun t => { t with indexDist := 8256 }) (backOnto 0 (loaded (wef .weave)))).tracker.referenced = true ∧
    -8255 < (turn (fun t => { t with indexDist := 8256 }) (backOnto 0 (loaded (wef .weave)))).tracker.indexDist ∧ (turn (fun t => { t with indexDist := 8256 }) (backOnto 0 (loaded (wef .weave)))).tracker.indexDist < 8257 ∧
    phaseOf false true = (turn (fun t => { t with indexDist := 8256 }) (backOnto 0 (loaded (wef .weave)))).tracker.phase - 1#2 ∧
    ((turn (fun t => { t with indexDist := 8256 }) (backOnto 0 (loaded (wef .weave)))).tracker.angle + 4095) % 4096 = weftCfg.b ∧
    (turn (fun t => { t with indexDist := 8256 }) (backOnto 0 (loaded (wef .weave)))).seq.history = [] ∧
    (turn (fun t => { t with indexDist := 8256 }) (backOnto 0 (loaded (wef .weave)))).line.stuck = false ∧ (turn (fun t => { t with indexDist := 8256 }) (backOnto 0 (loaded (wef .weave)))).control.role = .weftRole := by decide +kernel

theorem witness_AdvanceFollowsTheRun_next :
    runAt twoRuns 0 = some ⟨0, 3, 1, 1, none⟩ ∧ runAt twoRuns 1 = some ⟨2, 1, 1, 0, none⟩ ∧
    (⟨0, 1, 3, 99⟩ : Position).row = (⟨0, 3, 1, 1, none⟩ : Run).toRow ∧ (⟨0, 1, 3, 99⟩ : Position).iteration = (⟨0, 3, 1, 1, none⟩ : Run).count := by decide +kernel

/-- A weaving weft station in the open guard band after the REPEAT of a pick whose run overrides with a code; code 1 has the pair 2, 5
and mixes, and its toggle was set. -/
def overridden (code : Nat) (stops : BitVec 8) : Device :=
  let d := weft (fun w => { w with map := [none, some ⟨2, some 5, true⟩] ++ List.replicate 6 none, toggles := 0#8 })
    (seq (fun q => { q with
      runs := [some ⟨0, 3, 1, 0, some code⟩] ++ List.replicate 63 none, history := [{ entry with toggle := true }], guardOpen := true })
      (turning 30 (wef .weave)))
  { d with pins := { d.pins with feederStop := stops } }

/-- R49, R155: the finger is chosen with the restored toggle, the primary replaces it, or the pick is void. -/
theorem test_retract_chooses :
    [overridden 1 0#8, overridden 1 32#8, overridden 1 36#8, overridden 15 0#8].map (fun d => (after .holdDetected d).map fun d =>
      (d.weft.choice, d.seq.void, d.control.flags.getLsbD 25, d.control.flags.getLsbD 26)) =
    [some (.chosen (some 5), false, false, false), some (.chosen (some 2), false, true, false),
      some (.chosen none, true, false, true), some (.chosen none, false, false, false)] := by decide +kernel

theorem witness_RetractRestoresThePickLeft_free :
    (overridden 1 0#8).line.ownPulse = false ∧ retracts (overridden 1 0#8) = true ∧ (overridden 1 0#8).control.powered = true ∧
    (overridden 1 0#8).seq.history = [{ entry with toggle := true }] ∧ (overridden 1 0#8).control.role = .weftRole ∧
    overrideOf ((after .holdDetected (overridden 1 0#8)).getD (overridden 1 0#8)) = some 1 ∧
    ((overridden 1 0#8).weft.map[1]?).join = some ⟨2, some 5, true⟩ ∧ ((after .holdDetected (overridden 1 0#8)).getD (overridden 1 0#8)).weft.toggles.getLsbD 1 = true ∧
    ((overridden 1 0#8).pins.feederStop.getLsbD 5, (overridden 1 0#8).pins.feederStop.getLsbD 2) = (false, false) := by decide +kernel

theorem witness_RetractRestoresThePickLeft_substitute :
    (overridden 1 32#8).line.ownPulse = false ∧ retracts (overridden 1 32#8) = true ∧ (overridden 1 32#8).control.powered = true ∧
    (overridden 1 32#8).seq.history = [{ entry with toggle := true }] ∧ (overridden 1 32#8).control.role = .weftRole ∧
    overrideOf ((after .holdDetected (overridden 1 32#8)).getD (overridden 1 32#8)) = some 1 ∧
    ((overridden 1 32#8).weft.map[1]?).join = some ⟨2, some 5, true⟩ ∧ ((after .holdDetected (overridden 1 32#8)).getD (overridden 1 32#8)).weft.toggles.getLsbD 1 = true ∧
    ((overridden 1 32#8).pins.feederStop.getLsbD 5, (overridden 1 32#8).pins.feederStop.getLsbD 2) = (true, false) := by decide +kernel

theorem witness_RetractRestoresThePickLeft_stopped :
    (overridden 1 36#8).line.ownPulse = false ∧ retracts (overridden 1 36#8) = true ∧ (overridden 1 36#8).control.powered = true ∧
    (overridden 1 36#8).seq.history = [{ entry with toggle := true }] ∧ (overridden 1 36#8).control.role = .weftRole ∧
    overrideOf ((after .holdDetected (overridden 1 36#8)).getD (overridden 1 36#8)) = some 1 ∧
    ((overridden 1 36#8).weft.map[1]?).join = some ⟨2, some 5, true⟩ ∧ ((after .holdDetected (overridden 1 36#8)).getD (overridden 1 36#8)).weft.toggles.getLsbD 1 = true ∧
    ((overridden 1 36#8).pins.feederStop.getLsbD 5, (overridden 1 36#8).pins.feederStop.getLsbD 2) = (true, true) := by decide +kernel

theorem witness_RetractRestoresThePickLeft_no_finger :
    (overridden 15 0#8).line.ownPulse = false ∧ retracts (overridden 15 0#8) = true ∧ (overridden 15 0#8).control.powered = true ∧
    (overridden 15 0#8).seq.history = [{ entry with toggle := true }] ∧ (overridden 15 0#8).control.role = .weftRole ∧
    overrideOf ((after .holdDetected (overridden 15 0#8)).getD (overridden 15 0#8)) = some 15 := by decide +kernel

theorem witness_RetractRestoresThePickLeft_weft :
    (turning 30 (seq (fun q => { q with history := [entry], guardOpen := true }) (loaded (wef .weave)))).line.ownPulse = false ∧
    retracts (turning 30 (seq (fun q => { q with history := [entry], guardOpen := true }) (loaded (wef .weave)))) = true ∧
    entry.weft < 8 ∧ overrideOf (turning 30 (loaded (wef .weave))) = none := by decide +kernel

/-- A string whose last capture showed an OPEN at place 0 and a STUCK ON at place 1. -/
def echoing : SelString :=
  { SelString.reset with echo := true, expected := some 1#128, capturePos := some ⟨0, 1, 3, 4⟩, shiftReg := 2#128 }

/-- A station fetching row 12 with such a string. -/
def comparing : Device := strs (fun g => { g with strings := g.strings.set 1 echoing }) fetching12

/-- Hooks 128 and 129 by R130: string 1, places 0 and 1. -/
theorem test_echo_faults :
    compareAll comparing = [⟨128, .openFault, ⟨0, 1, 3, 4⟩, 1⟩, ⟨129, .stuckOn, ⟨0, 1, 3, 4⟩, 1⟩] := by decide +kernel

theorem witness_EchoIsComparedAndFaultsListed :
    comparing.control.powered = true ∧ comparing.control.role = .sectionRole ∧ comparing.control.state = .weave ∧
    comparing.store.fetch = .fetching 12 (.pick false none) 200 ∧
    12 ∈ comparing.store.written ∧ (readRow comparing 12).sound = true ∧
    comparing.strings.faults.length < ((compareAll comparing).foldl takeFault comparing).strings.faults.length ∧
    comparing.line.stuck = false := by decide +kernel

theorem witness_EchoIsComparedAndFaultsListed_list :
    (⟨5, .openFault, ⟨0, 1, 3, 4⟩, 255⟩ : FaultEntry) ∈ [(⟨5, .openFault, ⟨0, 1, 3, 4⟩, 255⟩ : FaultEntry)] ∧
    (List.replicate 31 (0 : Nat)).length < 32 ∧ 32 ≤ (List.replicate 32 (0 : Nat)).length := by decide +kernel

theorem witness_ReceiverOpensAndDiscardsFrames_gap :
    (sec .weave).line.rx = .hunt ∧ (sec .weave).control.powered = true ∧
    (line (fun l => { l with tx := .pulse 5 }) (sec .weave)).line.rx = .hunt ∧ (line (fun l => { l with tx := .pulse 5 }) (sec .weave)).line.tx = .pulse 5 := by decide +kernel

theorem witness_LineSticksAndClears :
    (line (fun l => { l with stuck := true }) (sec .weave)).control.powered = true ∧
    (line (fun l => { l with stuck := true }) (sec .weave)).line.stuck = true ∧ (sec .weave).line.stuck = false ∧
    (line (fun l => { l with stuck := true, tx := .pulse 5 }) (sec .weave)).line.tx = .pulse 5 ∧
    ∀ n, (line (fun l => { l with stuck := true }) (sec .weave)).line.tx ≠ .pulse n := by
  refine ⟨rfl, rfl, rfl, rfl, ?_⟩; intro n h; cases h

theorem witness_TransmissionEndsAsItsSlotGives_waiting :
    (line (fun l => { l with tx := .sending .reply [], replySlot := some ⟨beaconOf 0#8, 7⟩, completion := some (beaconOf 1#8) }) (sec .test)).line.tx = .sending .reply [] ∧ slotOf .reply (line (fun l => { l with tx := .sending .reply [], replySlot := some ⟨beaconOf 0#8, 7⟩, completion := some (beaconOf 1#8) }) (sec .test)) = some ⟨beaconOf 0#8, 7⟩ ∧
    (line (fun l => { l with tx := .sending .reply [], replySlot := some ⟨beaconOf 0#8, 7⟩, completion := some (beaconOf 1#8) }) (sec .test)).line.completion = some (beaconOf 1#8) ∧ (line (fun l => { l with tx := .sending .reply [], replySlot := some ⟨beaconOf 0#8, 7⟩, completion := some (beaconOf 1#8) }) (sec .test)).control.resetPending = none := by decide +kernel

/-- A station whose row fetch completes, the guard having been passed. -/
def rowLast : Device := line (fun l => { l with beaconDue := .due false true }) fetching12

/-- A station at G-end whose row is ready, with an unsent beacon still in its slot. -/
def guardLast : Device :=
  onto 64 (line (fun l => { l with beaconDue := .due true false, beaconSlot := some ⟨beaconOf 0#8, 0⟩ }) (sec .weave))

theorem witness_BeaconIsBuiltWhenBothMarksStand_row :
    rowLast.control.powered = true ∧ rowLast.control.config = some secCfg ∧
    rowLast.store.fetch = .fetching 12 (.pick false none) 200 ∧
    rowLast.line.beaconDue = .due false true := by decide +kernel

theorem witness_BeaconIsBuiltWhenBothMarksStand_guard :
    referencedBy secCfg guardLast = true ∧
    stepsOnto .forward true false (guardEnd secCfg) guardLast = true ∧ secCfg.g ≠ 0 ∧
    guardLast.line.beaconDue = .due true false ∧
    (onto 64 (sec .weave)).line.beaconDue = .idle := by decide +kernel

theorem witness_UnansweredFramesAreDiscarded_foreign :
    (line (fun l => { l with queue := [⟨0#8, 40#8, 0xA2#8, []⟩] }) (sec .ready)).control.powered = true ∧ (line (fun l => { l with queue := [⟨0#8, 40#8, 0xA2#8, []⟩] }) (sec .ready)).control.resetPending = none ∧
    (line (fun l => { l with queue := [⟨0#8, 40#8, 0xA2#8, []⟩] }) (sec .ready)).line.queue = ⟨0#8, 40#8, 0xA2#8, []⟩ :: [] ∧
    (0xA2#8 : Byte) ≠ 0xA1#8 ∧ ¬(0xC1 ≤ (0xA2#8 : Byte).toNat ∧ (0xA2#8 : Byte).toNat ≤ 0xD7) ∧
    ¬(0xC1 ≤ (0xC0#8 : Byte).toNat) ∧ ¬((0xD8#8 : Byte).toNat ≤ 0xD7) ∧
    (sec .ready).line.queue = [] ∧
    (control (fun c => { c with resetPending := some 0 }) (sec .ready)).control.resetPending.isSome = true := by decide +kernel

theorem witness_UnansweredFramesAreDiscarded_broadcast :
    (line (fun l => { l with queue := [⟨63#8, 40#8, 0xCA#8, []⟩] }) (sec .ready)).line.queue = ⟨63#8, 40#8, 0xCA#8, []⟩ :: [] ∧
    (line (fun l => { l with queue := [⟨63#8, 40#8, 0xCA#8, []⟩] }) (sec .ready)).control.state = .ready ∧
    ¬((0xCB#8 : Byte) = 0xCA#8 ∧ (sec .ready).control.state = .ready ∨ (0xCB#8 : Byte) = 0xCB#8 ∧ (sec .ready).control.state = .weave ∧ (sec .ready).tracker.speed = .stalled ∨ (0xCB#8 : Byte) = 0xD7#8) := by decide +kernel

theorem witness_UnansweredFramesAreDiscarded_addressed :
    0xC1 ≤ (0xC1#8 : Byte).toNat ∧ (0xD7#8 : Byte).toNat ≤ 0xD7 ∧ (0#8 : Byte) ≠ 63#8 ∧
    (line (fun l => { l with queue := [⟨0#8, 40#8, 0xC1#8, []⟩] }) (sec .ready)).line.queue = ⟨0#8, 40#8, 0xC1#8, []⟩ :: [] ∧
    (line (fun l => { l with queue := [⟨0#8, 40#8, 0xC1#8, []⟩] }) (sec .ready)).line.replySlot = none ∧ (line (fun l => { l with queue := [⟨0#8, 40#8, 0xC1#8, []⟩] }) (sec .ready)).line.completion = none ∧
    (line (fun l => { l with completion := some (beaconOf 0#8) }) (line (fun l => { l with queue := [⟨0#8, 40#8, 0xC1#8, []⟩] }) (sec .ready))).line.completion.isSome = true := by decide +kernel

theorem witness_TestStepFiresThePattern_waits :
    asked .testStep [] (testing (.waking 5) .idle) = true ∧ (testing (.waking 5) .idle).control.state = .test ∧
    (testing (.waking 5) .idle).tracker.speed = .stalled ∧ (testing (.waking 5) .idle).strings.test.op = .idle ∧ (testing (.waking 5) .idle).control.role = .sectionRole ∧
    (testing (.waking 5) .idle).strings.test.pattern = some .checker ∧ (testing (.waking 5) .idle).strings.power ≠ .on := by decide +kernel

/-- The same with the pattern ROW, before and during its fetch. -/
def testingRow (op : SteppedOp) (f : Fetch) : Device :=
  let d := strs (fun g => { g with test := ⟨some .row, 12, 0, op⟩ }) (testing .on op)
  { d with store := { d.store with fetch := f } }

theorem witness_TestStepFiresThePattern_row_refused :
    asked .testStep [] (testingRow (.inFlight .fetch) .idle) = true ∧ (testingRow (.inFlight .fetch) .idle).control.state = .test ∧ (testingRow (.inFlight .fetch) .idle).tracker.speed = .stalled ∧ (testingRow (.inFlight .fetch) .idle).strings.test.op ≠ .idle ∧
    (turning 5 (testingRow (.inFlight .fetch) .idle)).tracker.speed ≠ .stalled ∧ (testingRow (.inFlight .fetch) .idle).strings.test.pattern = some .row := by decide +kernel

theorem test_row_step_refused :
    replied (after .testStep (turning 5 (testingRow .idle .idle))) = some [0xCD#8, 7#8] ∧
    replied (after .testStep (testingRow (.inFlight .fetch) .idle)) = some [0xCD#8, 6#8] := by decide +kernel

theorem witness_TestStepFiresThePattern_row :
    asked .testStep [] (testingRow .idle .idle) = true ∧
    (testingRow .idle .idle).strings.test.pattern = some .row ∧ (testingRow .idle .idle).strings.test.op = .idle ∧
    (testingRow (.inFlight .fetch) (.fetching 12 .test 200)).control.powered = true ∧
    (testingRow (.inFlight .fetch) (.fetching 12 .test 200)).strings.test.op = .inFlight .fetch ∧
    (testingRow (.inFlight .fetch) (.fetching 12 .test 200)).strings.power = .on ∧
    (testingRow (.inFlight .fetch) (.fetching 12 .test 200)).store.fetch = .fetching 12 .test 200 ∧
    12 ∉ (testingRow (.inFlight .fetch) (.fetching 12 .test 200)).store.written ∧
    (testingRow (.inFlight .fetch) (.fetching 12 .test 200)).strings.strings[0]? = some SelString.reset ∧ SelString.reset.latched = false := by decide +kernel

/-- R126: the completed ROW fetch fires the row, here the zeros of a damaged one, from the shift register through the output
register; a string that is latched keeps its own. -/
theorem test_row_step_latches :
    (after (.fetchComplete []) (strs (fun g => { g with strings :=
      [{ SelString.reset with outReg := 7#128 }, { SelString.reset with outReg := 7#128, latched := true }] })
      (testingRow (.inFlight .fetch) (.fetching 12 .test 200)))).map
      (fun d => d.strings.strings.map fun x => (x.outReg, x.latched)) = some [(0#128, true), (7#128, true)] := by decide +kernel

theorem witness_TestStepFiresThePattern_row_latched : ({ SelString.reset with latched := true } : SelString).latched = true ∧ 1 < stringCount (testingRow (.inFlight .fetch) (.fetching 12 .test 200)) := by decide +kernel

theorem witness_TrainingStarts_power_on :
    asked .train [] (asking .train [] (strs (fun g => { g with power := .on }) (sec .ready))) = true ∧
    (strs (fun g => { g with power := .on }) (sec .ready)).strings.power = .on ∧
    0 < stringCount (sec .ready) ∧ stringCount (sec .ready) ≤ 8 ∧ (sec .ready).tracker.speed = .stalled := by decide +kernel

theorem witness_TrainingStarts_wake :
    (strs (fun g => { g with power := .waking 80000 }) (train (fun t => { t with phase := .waking }) (sec .train))).control.powered = true ∧ (strs (fun g => { g with power := .waking 80000 }) (train (fun t => { t with phase := .waking }) (sec .train))).control.state = .train ∧
    (strs (fun g => { g with power := .waking 80000 }) (train (fun t => { t with phase := .waking }) (sec .train))).strings.power = .waking 80000 ∧ (strs (fun g => { g with power := .waking 80000 }) (train (fun t => { t with phase := .waking }) (sec .train))).trainer.phase = .waking ∧
    (strs (fun g => { g with power := .waking 80000 }) (train (fun t => { t with phase := .waking }) (sec .train))).strings.mode = .none ∧ (strs (fun g => { g with power := .waking 80000 }) (train (fun t => { t with phase := .waking }) (sec .train))).strings.test.op = .idle ∧
    (strs (fun g => { g with power := .waking 80000 }) (train (fun t => { t with phase := .waking }) (sec .train))).trainer.cur < stringCount (strs (fun g => { g with power := .waking 80000 }) (train (fun t => { t with phase := .waking }) (sec .train))) ∧ stringCount (strs (fun g => { g with power := .waking 80000 }) (train (fun t => { t with phase := .waking }) (sec .train))) ≤ 8 := by decide +kernel

/-- The pre-checks from string 0 with the inputs 01: string 0 is STUCK, string 1 begins its trials (R144, R146). -/
theorem test_pre_check :
    (after (.train 1#8) (asking .train [] (strs (fun g => { g with power := .on }) (sec .ready)))).map
      (fun d => (d.trainer.phase, d.trainer.cur, d.strings.strings.map (·.result) |>.take 2)) =
      some (.trial, 1, [.stuck, .notRun]) := by decide +kernel

theorem witness_TrialsSearchTheLatency_step :
    (turning 5 (resting 100 3 2)).control.powered = true ∧ (turning 5 (resting 100 3 2)).control.state = .train ∧ (turning 5 (resting 100 3 2)).strings.mode = .none ∧
    phaseOf true false = (turning 5 (resting 100 3 2)).tracker.phase + 1#2 ∧ phaseOf false true = (turning 5 (resting 100 3 2)).tracker.phase - 1#2 ∧
    stringCount (turning 5 (resting 100 3 2)) ≤ 8 := by decide +kernel

theorem witness_ResetsLeaveTheResetCondition_abandoned :
    (line (fun l => { l with tx := .sending .reply [], replySlot := some ⟨beaconOf 0#8, 7⟩ }) (control (fun c => { c with resetPending := some 0 }) (sec .ready))).line.replySlot = some ⟨beaconOf 0#8, 7⟩ ∧
    (control (fun c => { c with resetPending := some 0 }) (sec .ready)).control.resetPending.isSome = true := by decide +kernel

theorem witness_ResetsLeaveTheResetCondition_broadcast :
    requestAt .reset allNodes [] (calling .reset [] (sec .weave)) = true ∧
    (calling .reset [] (sec .weave)).control.powered = true := by decide +kernel

theorem witness_ResetsLeaveTheResetCondition_pin : Instr.resetPin 9 .weftRole true true = .resetPin 9 .weftRole true true ∧ (2#2 : BitVec 2) = phaseOf true true := by decide +kernel

theorem witness_PowerOnJudgesTheRecord_cells : 0 < memSize ∧ 4194303 < memSize := by decide +kernel

theorem witness_FireAngleLiesInTheWindow_fast :
    (turn (fun t => { t with speed := .fast }) { sec .weave with fire := { (sec .weave).fire with recip := some ⟨9, 799744, 687414⟩ } }).fire.recip = some ⟨9, 799744, 687414⟩ ∧ (turn (fun t => { t with speed := .fast }) { sec .weave with fire := { (sec .weave).fire with recip := some ⟨9, 799744, 687414⟩ } }).tracker.speed = .fast ∧
    advanceOf ⟨9, 799744, 687414⟩ 12000 ≤ arc secCfg.w secCfg.k ∧
    arc secCfg.w secCfg.k < advanceOf ⟨9, 799744, 687414⟩ 40000 := by decide +kernel

theorem witness_OutvotedByTheLargestRival_tie : votesFor tied ⟨0, 1, 61, 61⟩ = 2 ∧ votesFor tied ⟨0, 1, 60, 60⟩ = 2 := by decide +kernel

theorem witness_CloseOfThePick_first :
    referencedBy secCfg (onto 1024 (seq (fun q => { q with runs := [some ⟨50, 70, 1, 0, none⟩] ++ List.replicate 63 none }) { tied with roster := { tied.roster with minority := false } })) = true ∧
    (onto 1024 (seq (fun q => { q with runs := [some ⟨50, 70, 1, 0, none⟩] ++ List.replicate 63 none }) { tied with roster := { tied.roster with minority := false } })).control.state = .weave ∧ (onto 1024 (seq (fun q => { q with runs := [some ⟨50, 70, 1, 0, none⟩] ++ List.replicate 63 none }) { tied with roster := { tied.roster with minority := false } })).roster.windowOpen = true ∧ (onto 1024 (seq (fun q => { q with runs := [some ⟨50, 70, 1, 0, none⟩] ++ List.replicate 63 none }) { tied with roster := { tied.roster with minority := false } })).control.role = .sectionRole ∧
    stepsOnto .forward true false secCfg.c (onto 1024 (seq (fun q => { q with runs := [some ⟨50, 70, 1, 0, none⟩] ++ List.replicate 63 none }) { tied with roster := { tied.roster with minority := false } })) = true ∧
    outvotedBy (onto 1024 (seq (fun q => { q with runs := [some ⟨50, 70, 1, 0, none⟩] ++ List.replicate 63 none }) { tied with roster := { tied.roster with minority := false } })) = some ⟨0, 1, 61, 61⟩ ∧ (onto 1024 (seq (fun q => { q with runs := [some ⟨50, 70, 1, 0, none⟩] ++ List.replicate 63 none }) { tied with roster := { tied.roster with minority := false } })).roster.minority = false ∧
    validPosition (onto 1024 (seq (fun q => { q with runs := [some ⟨50, 70, 1, 0, none⟩] ++ List.replicate 63 none }) { tied with roster := { tied.roster with minority := false } })).seq.runs ⟨0, 1, 61, rebuildPiece 61 (onto 1024 (seq (fun q => { q with runs := [some ⟨50, 70, 1, 0, none⟩] ++ List.replicate 63 none }) { tied with roster := { tied.roster with minority := false } })).seq.pos.piece⟩ = true := by decide +kernel

theorem witness_CloseOfThePick_realigns :
    referencedBy secCfg (onto 1024 (seq (fun q => { q with runs := [some ⟨50, 70, 1, 0, none⟩] ++ List.replicate 63 none }) { tied with roster := { tied.roster with minority := true } })) = true ∧
    (onto 1024 (seq (fun q => { q with runs := [some ⟨50, 70, 1, 0, none⟩] ++ List.replicate 63 none }) { tied with roster := { tied.roster with minority := true } })).control.state = .weave ∧ (onto 1024 (seq (fun q => { q with runs := [some ⟨50, 70, 1, 0, none⟩] ++ List.replicate 63 none }) { tied with roster := { tied.roster with minority := true } })).roster.windowOpen = true ∧ (onto 1024 (seq (fun q => { q with runs := [some ⟨50, 70, 1, 0, none⟩] ++ List.replicate 63 none }) { tied with roster := { tied.roster with minority := true } })).control.role = .sectionRole ∧
    stepsOnto .forward true false secCfg.c (onto 1024 (seq (fun q => { q with runs := [some ⟨50, 70, 1, 0, none⟩] ++ List.replicate 63 none }) { tied with roster := { tied.roster with minority := true } })) = true ∧
    outvotedBy (onto 1024 (seq (fun q => { q with runs := [some ⟨50, 70, 1, 0, none⟩] ++ List.replicate 63 none }) { tied with roster := { tied.roster with minority := true } })) = some ⟨0, 1, 61, 61⟩ ∧ (onto 1024 (seq (fun q => { q with runs := [some ⟨50, 70, 1, 0, none⟩] ++ List.replicate 63 none }) { tied with roster := { tied.roster with minority := true } })).roster.minority = true ∧
    validPosition (onto 1024 (seq (fun q => { q with runs := [some ⟨50, 70, 1, 0, none⟩] ++ List.replicate 63 none }) { tied with roster := { tied.roster with minority := true } })).seq.runs ⟨0, 1, 61, rebuildPiece 61 (onto 1024 (seq (fun q => { q with runs := [some ⟨50, 70, 1, 0, none⟩] ++ List.replicate 63 none }) { tied with roster := { tied.roster with minority := true } })).seq.pos.piece⟩ = true := by decide +kernel

theorem witness_CloseOfThePick_invalid :
    referencedBy secCfg (onto 1024 (seq (fun q => { q with runs := twoRuns }) { tied with roster := { tied.roster with minority := true } })) = true ∧
    (onto 1024 (seq (fun q => { q with runs := twoRuns }) { tied with roster := { tied.roster with minority := true } })).control.state = .weave ∧ (onto 1024 (seq (fun q => { q with runs := twoRuns }) { tied with roster := { tied.roster with minority := true } })).roster.windowOpen = true ∧ (onto 1024 (seq (fun q => { q with runs := twoRuns }) { tied with roster := { tied.roster with minority := true } })).control.role = .sectionRole ∧
    stepsOnto .forward true false secCfg.c (onto 1024 (seq (fun q => { q with runs := twoRuns }) { tied with roster := { tied.roster with minority := true } })) = true ∧
    outvotedBy (onto 1024 (seq (fun q => { q with runs := twoRuns }) { tied with roster := { tied.roster with minority := true } })) = some ⟨0, 1, 61, 61⟩ ∧ (onto 1024 (seq (fun q => { q with runs := twoRuns }) { tied with roster := { tied.roster with minority := true } })).roster.minority = true ∧
    validPosition (onto 1024 (seq (fun q => { q with runs := twoRuns }) { tied with roster := { tied.roster with minority := true } })).seq.runs ⟨0, 1, 61, rebuildPiece 61 (onto 1024 (seq (fun q => { q with runs := twoRuns }) { tied with roster := { tied.roster with minority := true } })).seq.pos.piece⟩ = false := by decide +kernel

/-- A weaving weft peer that announced code 2, heard in this window. -/
def weftNeighbour : RosterEntry := ⟨40, .weftRole, .weave, ⟨0, 1, 0, 0⟩, 0, 0, 2, true, 0, false⟩

/-- A station at C whose pick has weft code 1 or 2, with that peer. -/
def matching (code : Nat) : Device :=
  onto 1024 (seq (fun q => { q with pickWeft := some code, pickLift := some 20 })
    { loaded (sec .weave) with roster := ⟨true, [weftNeighbour], none, false⟩ })

theorem witness_CloseOfThePick_weft_code :
    referencedBy secCfg (matching 1) = true ∧
    stepsOnto .forward true false secCfg.c (matching 1) = true ∧ (matching 1).roster.windowOpen = true ∧
    outvotedBy (matching 1) = none ∧
    ((matching 1).roster.entries.find? fun e => decide (e.role = .weftRole) && decide (e.state = .weave) && e.heard) = some weftNeighbour ∧
    weftKnown (matching 1) = true ∧ recordedWeft (matching 1) ≠ weftNeighbour.weft ∧
    recordedWeft (matching 2) = weftNeighbour.weft := by decide +kernel

theorem witness_CloseOfThePick_weft_role :
    referencedBy weftCfg (onto 600 { loaded (wef .weave) with roster := ⟨true, [], none, false⟩ }) = true ∧
    (onto 600 { loaded (wef .weave) with roster := ⟨true, [], none, false⟩ }).control.state = .weave ∧ (onto 600 { loaded (wef .weave) with roster := ⟨true, [], none, false⟩ }).roster.windowOpen = true ∧ (onto 600 { loaded (wef .weave) with roster := ⟨true, [], none, false⟩ }).control.role = .weftRole ∧
    stepsOnto .forward true false weftCfg.fa (onto 600 { loaded (wef .weave) with roster := ⟨true, [], none, false⟩ }) = true := by decide +kernel

theorem witness_CloseOfThePick_closed_weft :
    referencedBy weftCfg (onto 600 (line (fun l => { l with beaconSlot := some ⟨beaconOf 0#8, 0⟩ }) (wef .weave))) = true ∧
    (onto 600 (line (fun l => { l with beaconSlot := some ⟨beaconOf 0#8, 0⟩ }) (wef .weave))).control.role = .weftRole ∧ (onto 600 (line (fun l => { l with beaconSlot := some ⟨beaconOf 0#8, 0⟩ }) (wef .weave))).roster.windowOpen = false ∧ stepsOnto .forward true false weftCfg.fa (onto 600 (line (fun l => { l with beaconSlot := some ⟨beaconOf 0#8, 0⟩ }) (wef .weave))) = true ∧
    (onto 600 (line (fun l => { l with beaconSlot := some ⟨beaconOf 0#8, 0⟩ }) (wef .weave))).line.beaconSlot ≠ none := by decide +kernel

theorem test_late_beacon_at_Fa :
    (after (.countingStep true false false (lap 0) dark) (onto 600 (line (fun l => { l with beaconSlot := some ⟨beaconOf 0#8, 0⟩ }) (wef .weave)))).map
      (fun d => (d.line.beaconSlot, d.line.counters.beaconsLate)) = some (none, 1) := by decide +kernel

theorem witness_CloseOfThePick_closed :
    referencedBy secCfg (onto 1024 (sec .weave)) = true ∧
    (onto 1024 (sec .weave)).roster.windowOpen = false ∧ stepsOnto .forward true false secCfg.c (onto 1024 (sec .weave)) = true := by decide +kernel

/-- A weaving station that steps onto an angle with two strings in the pick. -/
def firing (x : Nat) (a b : SelString) : Device :=
  onto x (strs (fun g => { g with power := .on, mode := .forward, missTested := false, strings := [a, b] }) (sec .weave))

/-- A dropped string that waits for its angle, and one that has fired. -/
def aimed : SelString := { SelString.reset with chain := .pending, pattern := true, fireAngle := some 2437 }
def firedString : SelString := { SelString.reset with chain := .fired, drive := .hold, latched := true, outReg := 5#128 }

/-- A FAST station at C, the window open, its strings at 2,400 us and the reciprocal of 7.6. -/
def closing (held : Bool) : Device :=
  let d := firing 1024 { SelString.reset with latency := some 2400 } SelString.reset
  turn (fun t => { t with speed := .fast })
    { d with
      roster := ⟨true, [], none, false⟩
      fire := { FireTimer.reset with angleHold := held, recip := some ⟨9, 799744, 687414⟩ } }

theorem witness_FireTimerComputesTheAngles_close :
    referencedBy secCfg (closing false) = true ∧
    (closing false).control.state = .weave ∧ (closing false).control.role = .sectionRole ∧ goesOn .forward (closing false) = true ∧
    stepsOnto .forward true false secCfg.c (closing false) = true ∧ (closing false).roster.windowOpen = true ∧ (closing false).fire.phase = .idle ∧
    ((closing false).fire.strings.all fun r => !r.fired) = true ∧ noFireAt secCfg.c (closing false) = true ∧
    0 < stringCount (closing false) ∧ 0 < (closing false).fire.strings.length ∧
    (closing false).strings.strings[0]? = some { SelString.reset with latency := some 2400 } ∧
    (closing true).fire.angleHold = true := by decide +kernel

/-- The same after the close, about to complete a span at an angle, its first string PENDING. -/
def spanning (x : Nat) : Device :=
  turn (fun t => { t with speed := .fast, spanCounts := some 15, spanTimer := 1562 })
    { firing x { aimed with fireAngle := some 2300, latency := some 2400 } aimed with
      fire := { FireTimer.reset with phase := .set, strings := List.replicate 8 { FireString.reset with lead := some 12000 } } }

/-- With the lead of 7.6 and S = 1,562 the angle is 2,437 (R117, R118): at 2,430 the string holds it, at 2,440 it fires at once. -/
theorem test_span_recomputes :
    (after (.countingStep true false false (lap 0) dark) (spanning 2430)).map
      (fun d => (d.strings.strings.map (fun x => (x.fireAngle, x.chain)) |>.take 1)) = some [(some 2437, .pending)] ∧
    (after (.countingStep true false false (lap 0) dark) (spanning 2440)).map
      (fun d => (d.strings.strings.map (fun x => (x.fireAngle, x.chain)) |>.take 1)) = some [(some 2437, .fired)] := by
  decide +kernel

theorem witness_FireTimerComputesTheAngles_span :
    referencedBy secCfg (spanning 2440) = true ∧
    (spanning 2440).tracker.dir = .forward ∧ (spanning 2440).tracker.speed ≠ .stalled ∧ (spanning 2440).tracker.spanCounts = some 15 ∧
    stepsOnto .forward true false 2440 (spanning 2440) = true ∧ 2440 ≠ secCfg.b ∧ 2440 ≠ secCfg.k ∧ (spanning 2440).fire.phase = .set ∧
    inArc 2440 secCfg.c secCfg.k = true ∧ noFireAt 2440 (spanning 2440) = true ∧ testPickSound (spanning 2440) = true ∧
    0 < stringCount (spanning 2440) ∧ (spanning 2440).fire.strings[0]? = some { FireString.reset with lead := some 12000 } ∧
    (spanning 2440).strings.strings[0]? = some { aimed with fireAngle := some 2300, latency := some 2400 } ∧
    (spanning 2440).strings.blank = false ∧ (spanning 2440).strings.power = .on ∧ (spanning 2440).strings.mode = .forward := by decide +kernel

theorem witness_FireTimerComputesTheAngles_past :
    referencedBy secCfg (spanning 2600) = true ∧
    stepsOnto .forward true false 2600 (spanning 2600) = true ∧ (spanning 2600).fire.phase = .set ∧
    inArc 2600 secCfg.c secCfg.k = false := by decide +kernel

theorem witness_StringsFireCaptureAndRelease_fire :
    referencedBy secCfg (firing 2437 aimed { aimed with pattern := false }) = true ∧
    (firing 2437 aimed { aimed with pattern := false }).control.state = .weave ∧ (firing 2437 aimed { aimed with pattern := false }).control.role = .sectionRole ∧ (firing 2437 aimed { aimed with pattern := false }).strings.mode = .forward ∧ goesOn .forward (firing 2437 aimed { aimed with pattern := false }) = true ∧
    stepsOnto .forward true false 2437 (firing 2437 aimed { aimed with pattern := false }) = true ∧ 2437 ≠ secCfg.b ∧ 2437 ≠ secCfg.c ∧ 2437 ≠ secCfg.k ∧ 2437 ≠ secCfg.d ∧
    (firing 2437 aimed { aimed with pattern := false }).strings.strings[0]? = some aimed ∧ aimed.drive = .off ∧ aimed.chain = .pending ∧
    aimed.fireAngle = some 2437 ∧ aimed.waiting = false ∧ aimed.pattern = true ∧
    (firing 2437 aimed { aimed with pattern := false }).strings.blank = false ∧ (firing 2437 aimed { aimed with pattern := false }).strings.power = .on ∧ 1 < stringCount (firing 2437 aimed { aimed with pattern := false }) ∧
    (firing 2437 aimed { aimed with pattern := false }).strings.strings[1]? = some { aimed with pattern := false } := by decide +kernel

theorem witness_StringsFireCaptureAndRelease_capture :
    referencedBy secCfg (firing 2560 firedString aimed) = true ∧
    (firing 2560 firedString aimed).control.role = .sectionRole ∧ capturesAtK (firing 2560 firedString aimed) = true ∧ goesOn .forward (firing 2560 firedString aimed) = true ∧
    stepsOnto .forward true false secCfg.k (firing 2560 firedString aimed) = true ∧ noFireAt secCfg.k (firing 2560 firedString aimed) = true ∧
    (firing 2560 firedString aimed).strings.strings[0]? = some firedString ∧ firedString.chain = .fired ∧
    (firing 2560 firedString aimed).strings.strings[1]? = some aimed ∧ aimed.chain = .pending ∧
    someMissed (firing 2560 firedString aimed) = true ∧ (firing 2560 firedString aimed).strings.missTested = false ∧
    someMissed (firing 2560 firedString firedString) = false := by decide +kernel

theorem witness_StringsFireCaptureAndRelease_release :
    referencedBy secCfg (firing 3200 firedString aimed) = true ∧
    (firing 3200 firedString aimed).control.role = .sectionRole ∧ capturesAtK (firing 3200 firedString aimed) = true ∧ goesOn .forward (firing 3200 firedString aimed) = true ∧
    stepsOnto .forward true false secCfg.d (firing 3200 firedString aimed) = true ∧ noFireAt secCfg.d (firing 3200 firedString aimed) = true ∧
    (firing 3200 firedString aimed).strings.strings[0]? = some firedString ∧ firedString.chain = .fired ∧
    (firing 3200 firedString aimed).strings.strings[1]? = some aimed ∧ aimed.chain = .pending ∧
    someMissed (firing 3200 firedString aimed) = true ∧ (firing 3200 firedString aimed).strings.missTested = false ∧
    someMissed (firing 3200 firedString firedString) = false := by decide +kernel

/-- A testing station that the shaft turns, stepping onto an angle. -/
def turningTestAt (x : Nat) (p : TestPattern) : Device :=
  onto x (strs (fun g => { g with power := .on, mode := .test, test := ⟨some p, 12, 65535, .idle⟩, strings := [aimed, firedString] })
    (sec .test))

/-- The same at K after the capture of this pick, the counter set back past K with no turn (R4). -/
def captureAgain : Device :=
  strs (fun g => { g with captureDone := true, missTested := true }) (firing 2560 firedString aimed)

/-- R132: the first K crossing of a pick reports the missed string and voids the pick; a second with no turn does neither. -/
theorem test_second_capture_tests_nothing :
    (after (.countingStep true false false (lap 0) dark) (firing 2560 firedString aimed)).map
      (fun d => (d.control.flags.getLsbD 7, d.seq.void, d.strings.strings.map (·.fireAngle))) =
      some (true, true, [none, none]) ∧
    (after (.countingStep true false false (lap 0) dark) captureAgain).map
      (fun d => (d.control.flags.getLsbD 7, d.seq.void, d.strings.strings.map (·.fireAngle))) =
      some (false, false, [none, some 2437]) := by
  decide +kernel

theorem witness_StringsFireCaptureAndRelease_again :
    referencedBy secCfg captureAgain = true ∧
    captureAgain.control.role = .sectionRole ∧ capturesAtK captureAgain = true ∧ goesOn .forward captureAgain = true ∧
    stepsOnto .forward true false secCfg.k captureAgain = true ∧ noFireAt secCfg.k captureAgain = true ∧
    captureAgain.strings.captureDone = true ∧ someMissed captureAgain = true ∧ captureAgain.strings.strings[1]? = some aimed ∧ aimed.chain = .pending ∧
    (firing 2560 firedString aimed).strings.captureDone = false := by decide +kernel

theorem witness_StringsFireCaptureAndRelease_test :
    referencedBy secCfg (turningTestAt 2560 .walk) = true ∧
    (turningTestAt 2560 .walk).control.role = .sectionRole ∧ capturesAtK (turningTestAt 2560 .walk) = true ∧ goesOn .forward (turningTestAt 2560 .walk) = true ∧
    stepsOnto .forward true false secCfg.k (turningTestAt 2560 .walk) = true ∧ noFireAt secCfg.k (turningTestAt 2560 .walk) = true := by decide +kernel

theorem witness_TurnsAndReverseSelection_turn_idle :
    referencedBy secCfg (let d := turn (fun t => { t with dir := .reverse }) (firing 2400 firedString aimed); { d with fire := { d.fire with phase := .idle } }) = true ∧
    (let d := turn (fun t => { t with dir := .reverse }) (firing 2400 firedString aimed); { d with fire := { d.fire with phase := .idle } }).control.state = .weave ∧ (let d := turn (fun t => { t with dir := .reverse }) (firing 2400 firedString aimed); { d with fire := { d.fire with phase := .idle } }).control.role = .sectionRole ∧ (let d := turn (fun t => { t with dir := .reverse }) (firing 2400 firedString aimed); { d with fire := { d.fire with phase := .idle } }).strings.mode = .forward ∧
    turns .forward (let d := turn (fun t => { t with dir := .reverse }) (firing 2400 firedString aimed); { d with fire := { d.fire with phase := .idle } }).tracker = true ∧ stepsOnto .forward true false 2400 (let d := turn (fun t => { t with dir := .reverse }) (firing 2400 firedString aimed); { d with fire := { d.fire with phase := .idle } }) = true ∧ noFireAt 2400 (let d := turn (fun t => { t with dir := .reverse }) (firing 2400 firedString aimed); { d with fire := { d.fire with phase := .idle } }) = true ∧
    2400 ≠ secCfg.b ∧ 2400 ≠ secCfg.c ∧ 2400 ≠ secCfg.w ∧ 2400 ≠ secCfg.k ∧ 2400 ≠ secCfg.d ∧
    (let d := turn (fun t => { t with dir := .reverse }) (firing 2400 firedString aimed); { d with fire := { d.fire with phase := .idle } }).fire.phase = .idle ∧ 0 < stringCount (let d := turn (fun t => { t with dir := .reverse }) (firing 2400 firedString aimed); { d with fire := { d.fire with phase := .idle } }) ∧ 0 < (let d := turn (fun t => { t with dir := .reverse }) (firing 2400 firedString aimed); { d with fire := { d.fire with phase := .idle } }).fire.strings.length ∧
    (let d := turn (fun t => { t with dir := .reverse }) (firing 2400 firedString aimed); { d with fire := { d.fire with phase := .idle } }).strings.strings[0]? = some firedString := by decide +kernel

theorem witness_TurnsAndReverseSelection_turn_set :
    referencedBy secCfg (let d := turn (fun t => { t with dir := .reverse }) (firing 2400 firedString aimed); { d with fire := { d.fire with phase := .set } }) = true ∧
    (let d := turn (fun t => { t with dir := .reverse }) (firing 2400 firedString aimed); { d with fire := { d.fire with phase := .set } }).control.state = .weave ∧ (let d := turn (fun t => { t with dir := .reverse }) (firing 2400 firedString aimed); { d with fire := { d.fire with phase := .set } }).control.role = .sectionRole ∧ (let d := turn (fun t => { t with dir := .reverse }) (firing 2400 firedString aimed); { d with fire := { d.fire with phase := .set } }).strings.mode = .forward ∧
    turns .forward (let d := turn (fun t => { t with dir := .reverse }) (firing 2400 firedString aimed); { d with fire := { d.fire with phase := .set } }).tracker = true ∧ stepsOnto .forward true false 2400 (let d := turn (fun t => { t with dir := .reverse }) (firing 2400 firedString aimed); { d with fire := { d.fire with phase := .set } }) = true ∧ noFireAt 2400 (let d := turn (fun t => { t with dir := .reverse }) (firing 2400 firedString aimed); { d with fire := { d.fire with phase := .set } }) = true ∧
    2400 ≠ secCfg.b ∧ 2400 ≠ secCfg.c ∧ 2400 ≠ secCfg.w ∧ 2400 ≠ secCfg.k ∧ 2400 ≠ secCfg.d ∧
    (let d := turn (fun t => { t with dir := .reverse }) (firing 2400 firedString aimed); { d with fire := { d.fire with phase := .set } }).fire.phase = .set ∧ 0 < stringCount (let d := turn (fun t => { t with dir := .reverse }) (firing 2400 firedString aimed); { d with fire := { d.fire with phase := .set } }) ∧ 0 < (let d := turn (fun t => { t with dir := .reverse }) (firing 2400 firedString aimed); { d with fire := { d.fire with phase := .set } }).fire.strings.length ∧
    (let d := turn (fun t => { t with dir := .reverse }) (firing 2400 firedString aimed); { d with fire := { d.fire with phase := .set } }).strings.strings[0]? = some firedString := by decide +kernel

/-- A weaving station that backs onto an angle in a reverse pick. -/
def reversing (x : Nat) (a b : SelString) : Device :=
  backOnto x (strs (fun g => { g with power := .on, mode := .reverse, strings := [a, b] }) (sec .weave))
def ready : SelString := { SelString.reset with pattern := true }

theorem witness_TurnsAndReverseSelection_D :
    referencedBy secCfg (reversing 3200 ready SelString.reset) = true ∧
    (reversing 3200 ready SelString.reset).control.state = .weave ∧ (reversing 3200 ready SelString.reset).control.role = .sectionRole ∧ (reversing 3200 ready SelString.reset).strings.mode = .reverse ∧ goesOn .reverse (reversing 3200 ready SelString.reset) = true ∧
    stepsOnto .reverse false true secCfg.d (reversing 3200 ready SelString.reset) = true ∧ 1 < stringCount (reversing 3200 ready SelString.reset) ∧
    (reversing 3200 ready SelString.reset).strings.strings[0]? = some ready ∧ ready.chain = .resting ∧ ready.pattern = true ∧
    (reversing 3200 ready SelString.reset).strings.blank = false ∧ (reversing 3200 ready SelString.reset).strings.power = .on ∧
    (reversing 3200 ready SelString.reset).strings.strings[1]? = some SelString.reset ∧ SelString.reset.pattern = false := by decide +kernel

theorem witness_TurnsAndReverseSelection_K :
    referencedBy secCfg (reversing 2560 firedString { SelString.reset with waiting := true }) = true ∧
    goesOn .reverse (reversing 2560 firedString { SelString.reset with waiting := true }) = true ∧ stepsOnto .reverse false true secCfg.k (reversing 2560 firedString { SelString.reset with waiting := true }) = true ∧ (reversing 2560 firedString { SelString.reset with waiting := true }).strings.mode = .reverse ∧
    (reversing 2560 firedString { SelString.reset with waiting := true }).strings.strings[0]? = some firedString ∧ firedString.waiting = false ∧
    (reversing 2560 firedString { SelString.reset with waiting := true }).strings.strings[1]? = some { SelString.reset with waiting := true } ∧ (reversing 2560 firedString { SelString.reset with waiting := true }).strings.blank = false := by decide +kernel

theorem witness_TurnsAndReverseSelection_W :
    referencedBy secCfg (reversing 2300 firedString ready) = true ∧
    goesOn .reverse (reversing 2300 firedString ready) = true ∧ stepsOnto .reverse false true secCfg.w (reversing 2300 firedString ready) = true ∧ (reversing 2300 firedString ready).strings.mode = .reverse := by decide +kernel

theorem witness_TurnsAndReverseSelection_turn :
    referencedBy secCfg (turn (fun t => { t with dir := .forward }) (reversing 2700 firedString ready)) = true ∧
    (turn (fun t => { t with dir := .forward }) (reversing 2700 firedString ready)).strings.mode = .reverse ∧ (turn (fun t => { t with dir := .forward }) (reversing 2700 firedString ready)).roster.windowOpen = false ∧ (turn (fun t => { t with dir := .forward }) (reversing 2700 firedString ready)).fire.phase ≠ .set ∧
    turns .reverse (turn (fun t => { t with dir := .forward }) (reversing 2700 firedString ready)).tracker = true ∧ stepsOnto .reverse false true 2700 (turn (fun t => { t with dir := .forward }) (reversing 2700 firedString ready)) = true ∧
    2700 ≠ secCfg.b ∧ 2700 ≠ secCfg.w ∧ 2700 ≠ secCfg.k ∧ 2700 ≠ secCfg.d := by decide +kernel

theorem witness_TurningTestPick_B :
    referencedBy secCfg (turningTestAt 0 .walk) = true ∧
    (turningTestAt 0 .walk).control.state = .test ∧ (turningTestAt 0 .walk).control.role = .sectionRole ∧ (turningTestAt 0 .walk).strings.test.op = .idle ∧
    (turningTestAt 0 .walk).strings.test.pattern = some .walk ∧ stepsOnto .forward true false secCfg.b (turningTestAt 0 .walk) = true := by decide +kernel

theorem witness_TurningTestPick_B_row :
    referencedBy secCfg (turningTestAt 0 .row) = true ∧
    (turningTestAt 0 .row).control.state = .test ∧ (turningTestAt 0 .row).control.role = .sectionRole ∧ (turningTestAt 0 .row).strings.test.op = .idle ∧
    (turningTestAt 0 .row).strings.test.pattern = some .row ∧ stepsOnto .forward true false secCfg.b (turningTestAt 0 .row) = true := by decide +kernel

theorem witness_TurningTestPick_W :
    referencedBy secCfg (turningTestAt 2300 .walk) = true ∧
    (turningTestAt 2300 .walk).strings.mode = .test ∧ goesOn .forward (turningTestAt 2300 .walk) = true ∧ stepsOnto .forward true false secCfg.w (turningTestAt 2300 .walk) = true ∧
    (turningTestAt 2300 .walk).strings.strings[0]? = some aimed ∧ aimed.chain = .pending ∧ aimed.waiting = false ∧ aimed.pattern = true ∧
    (turningTestAt 2300 .walk).strings.blank = false ∧ (turningTestAt 2300 .walk).strings.power = .on ∧ 0 < stringCount (turningTestAt 2300 .walk) ∧
    { aimed with pattern := false }.pattern = false := by decide +kernel

theorem witness_TurningTestPick_turn :
    referencedBy secCfg (turn (fun t => { t with dir := .reverse }) (turningTestAt 2700 .walk)) = true ∧
    (turn (fun t => { t with dir := .reverse }) (turningTestAt 2700 .walk)).strings.mode = .test ∧ (turn (fun t => { t with dir := .reverse }) (turningTestAt 2700 .walk)).fire.phase ≠ .set ∧ turns .forward (turn (fun t => { t with dir := .reverse }) (turningTestAt 2700 .walk)).tracker = true ∧
    stepsOnto .forward true false 2700 (turn (fun t => { t with dir := .reverse }) (turningTestAt 2700 .walk)) = true := by decide +kernel

/-- A weaving weft station with codes 1 (finger 2, mixing with 5) and 2 (finger 3 alone), some feeders stopped. -/
def weftPick (stops : BitVec 8) (c : Choice) (a : Arrival) : Device :=
  let d := weft (fun w => { w with map := [none, some ⟨2, some 5, true⟩, some ⟨3, none, false⟩] ++ List.replicate 5 none, choice := c, arrival := a })
    (seq (fun q => { q with runs := [some ⟨0, 3, 1, 0, some 1⟩] ++ List.replicate 63 none, pickWeft := some 1, pickLift := some 0 }) (wef .weave))
  { d with pins := { d.pins with feederStop := stops } }

/-- R153 to R155: the ADVANCE flips the toggle of code 1, so its alternate finger 5 is nominal; with 5 stopped, 2 replaces it. -/
theorem test_weft_choice :
    (after (.countingStep true false false (lap 0) dark) (onto 0 (weftPick 0#8 .none .idle))).map
      (fun d => (d.weft.toggles, d.weft.choice)) = some (2#8, .chosen (some 5)) ∧
    (after (.countingStep true false false (lap 0) dark) (onto 0 (weftPick 32#8 .none .idle))).map
      (fun d => (d.weft.choice, d.control.flags.getLsbD 25)) = some (.chosen (some 2), true) ∧
    (after (.countingStep true false false (lap 0) dark) (onto 0 (weftPick 36#8 .none .idle))).map
      (fun d => (d.weft.choice, d.control.flags.getLsbD 26, d.seq.void)) = some (.chosen none, true, true) := by
  decide +kernel

theorem witness_WeftCodeChoosesTheFinger_B :
    referencedBy weftCfg (onto 0 (weftPick 32#8 .none .waiting)) = true ∧
    (onto 0 (weftPick 32#8 .none .waiting)).control.state = .weave ∧ (onto 0 (weftPick 32#8 .none .waiting)).control.role = .weftRole ∧ stepsOnto .forward true false weftCfg.b (onto 0 (weftPick 32#8 .none .waiting)) = true ∧
    (onto 0 (weftPick 32#8 .none .waiting)).seq.void = false ∧ recordedWeft (onto 0 (weftPick 32#8 .none .waiting)) = 1 ∧ (onto 0 (weftPick 32#8 .none .waiting)).weft.arrival = .waiting ∧
    (onto 0 (weftPick 32#8 .none .waiting)).weft.map[1]? = some (some ⟨2, some 5, true⟩) ∧
    (onto 0 (weftPick 32#8 .none .waiting)).pins.feederStop.getLsbD 5 = true ∧ (onto 0 (weftPick 32#8 .none .waiting)).pins.feederStop.getLsbD 2 = false := by decide +kernel

/-- The same fetching row 12, written with code 2 or not at all. -/
def weftFetch (written : Bool) (stops : BitVec 8) (a : Arrival) : Device :=
  let d := weftPick stops .pending a
  let d := if written then storeRow 12 2#8 [] d else d
  { d with store := { d.store with fetch := .fetching 12 (.pick false none) 200 } }

theorem witness_WeftCodeChoosesTheFinger_fetch :
    (weftFetch true 0#8 .openWindow).control.powered = true ∧ (weftFetch true 0#8 .openWindow).control.role = .weftRole ∧ (weftFetch true 0#8 .openWindow).store.fetch = .fetching 12 (.pick false none) 200 ∧
    12 ∈ (weftFetch true 0#8 .openWindow).store.written ∧ (readRow (weftFetch true 0#8 .openWindow) 12).sound = true ∧ (readRow (weftFetch true 0#8 .openWindow) 12).weft.toNat = 2 ∧
    (weftFetch true 0#8 .openWindow).weft.choice = .pending ∧ (weftFetch true 0#8 .openWindow).weft.arrival ≠ .idle ∧ (weftFetch true 0#8 .idle).weft.arrival = .idle ∧
    (weftFetch true 0#8 .openWindow).weft.map[2]? = some (some ⟨3, none, false⟩) ∧ (weftFetch true 0#8 .openWindow).pins.feederStop.getLsbD 3 = false ∧
    (weftFetch true 8#8 .idle).pins.feederStop.getLsbD 3 = true := by decide +kernel

theorem witness_WeftCodeChoosesTheFinger_damaged :
    (weftFetch false 0#8 .waiting).control.powered = true ∧ (weftFetch false 0#8 .waiting).control.role = .weftRole ∧ (weftFetch false 0#8 .waiting).store.fetch = .fetching 12 (.pick false none) 200 ∧
    12 ∉ (weftFetch false 0#8 .waiting).store.written ∧ (weftFetch false 0#8 .waiting).weft.choice = .pending ∧ (weftFetch false 0#8 .waiting).control.state = .weave := by decide +kernel

/-- The same with an override of code 1 in the fetch. -/
def overrideFetch (a : Arrival) : Device :=
  let d := weftFetch false 0#8 a
  { d with store := { d.store with fetch := .fetching 12 (.pick true (some 1)) 200 } }

/-- R71: at a damaged row the weft selector acts on the override where the fetch has one, and on code 15 where it has none. -/
theorem test_damaged_row_takes_the_override :
    (after (.fetchComplete []) (overrideFetch .idle)).map (fun d => (d.weft.choice, d.seq.pickWeft, d.control.flags.getLsbD 6)) =
      some (.chosen (some 2), some 1, true) ∧
    (after (.fetchComplete []) (weftFetch false 0#8 .idle)).map (fun d => (d.weft.choice, d.seq.pickWeft)) =
      some (.chosen none, some 15) := by
  decide +kernel

theorem witness_WeftCodeChoosesTheFinger_damaged_override :
    (overrideFetch .idle).control.powered = true ∧ (overrideFetch .idle).control.role = .weftRole ∧ (overrideFetch .idle).store.fetch = .fetching 12 (.pick true (some 1)) 200 ∧
    12 ∉ (overrideFetch .idle).store.written ∧ (overrideFetch .idle).weft.choice = .pending ∧ (overrideFetch .idle).weft.arrival = .idle ∧
    (some 1 : Option Nat).getD 15 = 1 ∧ (overrideFetch .idle).weft.map[1]? = some (some ⟨2, some 5, true⟩) ∧ (overrideFetch .idle).pins.feederStop.getLsbD 2 = false := by decide +kernel

theorem witness_FingerComesOnAndArrivalIsChecked_Fa :
    referencedBy weftCfg (onto 600 (weftPick 4#8 (.chosen (some 2)) .idle)) = true ∧
    (onto 600 (weftPick 4#8 (.chosen (some 2)) .idle)).control.state = .weave ∧ (onto 600 (weftPick 4#8 (.chosen (some 2)) .idle)).control.role = .weftRole ∧ stepsOnto .forward true false weftCfg.fa (onto 600 (weftPick 4#8 (.chosen (some 2)) .idle)) = true ∧
    (onto 600 (weftPick 4#8 (.chosen (some 2)) .idle)).weft.choice = .chosen (some 2) ∧ (onto 600 (weftPick 4#8 (.chosen (some 2)) .idle)).pins.feederStop.getLsbD 2 = true ∧
    mapEntry (onto 600 (weftPick 4#8 (.chosen (some 2)) .idle)) ((onto 600 (weftPick 4#8 (.chosen (some 2)) .idle)).seq.pickWeft.getD 15) = some ⟨2, some 5, true⟩ ∧ (onto 600 (weftPick 4#8 (.chosen (some 2)) .idle)).pins.feederStop.getLsbD 5 = false ∧
    (onto 600 (weftPick 36#8 (.chosen (some 2)) .idle)).pins.feederStop.getLsbD 5 = true ∧
    (onto 600 (weftPick 36#8 .pending .idle)).weft.choice = .pending := by decide +kernel

theorem witness_FingerComesOnAndArrivalIsChecked_reverse :
    referencedBy weftCfg (backOnto 600 (weftPick 0#8 (.chosen (some 2)) .idle)) = true ∧
    stepsOnto .reverse false true weftCfg.fa (backOnto 600 (weftPick 0#8 (.chosen (some 2)) .idle)) = true := by decide +kernel

theorem witness_FingerComesOnAndArrivalIsChecked_Ao :
    referencedBy weftCfg (onto 1600 (weftPick 0#8 (.chosen (some 2)) .waiting)) = true ∧
    stepsOnto .forward true false weftCfg.ao (onto 1600 (weftPick 0#8 (.chosen (some 2)) .waiting)) = true ∧ (onto 1600 (weftPick 0#8 (.chosen (some 2)) .waiting)).weft.arrival = .waiting ∧
    (weftPick 0#8 .none .arrived).weft.arrival = .arrived ∧ (weftPick 0#8 .none .ended).weft.arrival = .ended := by decide +kernel

theorem witness_FingerComesOnAndArrivalIsChecked_Ac :
    referencedBy weftCfg (onto 2800 (weftPick 0#8 (.chosen (some 2)) .waiting)) = true ∧
    stepsOnto .forward true false weftCfg.ac (onto 2800 (weftPick 0#8 (.chosen (some 2)) .waiting)) = true ∧ (onto 2800 (weftPick 0#8 (.chosen (some 2)) .waiting)).weft.arrival = .waiting ∧
    (weftPick 0#8 .none .arrived).weft.arrival = .arrived ∧ (weftPick 0#8 .none .ended).weft.arrival = .ended := by decide +kernel

theorem witness_WithinBoundsStays : withinBounds { line (fun l => { l with recessiveRun := 1000 }) (turn (fun t => { t with angle := 4095, stationary := 600 }) (loaded (sec .weave))) with roster := ⟨true, [⟨3, .sectionRole, .weave, ⟨0, 1, 0, 0⟩, 0, 256, 1, true, 0, false⟩, ⟨31, .sectionRole, .weave, ⟨0, 1, 0, 0⟩, 0, 256, 1, true, 0, false⟩], none, true⟩ } = true := by decide +kernel

/-- Six ticks of this station's own frame: the start bit of 0B4H and its data bits 0 and 1, all dominant, have passed; eight show
bit 2, a recessive one (R73, R74). -/
theorem test_own_frame_bits :
    [6, 8].map (fun n =>
      let l := elapseRuns n [] { Line.reset with tx := .sending .beacon [0xB4#8], recessiveRun := 12 }
      (l.recessiveRun, l.dominantRun, l.sentBits)) = [(0, 3, 3), (1, 0, 4)] := by decide +kernel
/-- The bits of the two mark characters leave the run of the last ones: 02DH ends in parity and stop bit (R73, R76). -/
theorem test_mark_bits_are_counted :
    (after (.frameMark 12 (soundChar 0xB4#8) (some (soundChar 0x2D#8))) (line (fun l => { l with dominantRun := 5 }) (sec .weave))).map
      (fun d => (d.line.recessiveRun, d.line.dominantRun)) = some (2, 0) := by decide +kernel
/-- The bit read dominant at an abandoned attempt is counted; what follows comes with the lapse (R74, R84). -/
theorem test_abandoned_bit_is_dominant :
    (after .attemptAbandoned (line (fun l => { l with tx := .sending .beacon [0xB4#8], recessiveRun := 3, beaconSlot := some ⟨beaconOf 0#8, 0⟩ })
      (sec .weave))).map (fun d => (d.line.recessiveRun, d.line.dominantRun,
        (elapseRuns 42 [.dominant 4, .recessive 3] d.line).dominantRun, (elapseRuns 42 [.dominant 21] d.line).dominantRun)) =
      some (0, 1, 0, 22) := by decide +kernel
/-- Another node's hold that ends inside this station's pulse does not lengthen its run (R74, R87). -/
theorem test_hold_ends_inside_the_pulse :
    (((after (.encoderGlitch ⟨10, [.dominant 2, .recessive 3], none⟩)
      (line (fun l => { l with tx := .pulse 10, dominantRun := 30, ownPulse := true }) (sec .weave))).bind
      (after .pulseEnd)).bind (after (.encoderGlitch (lap 2)))).map (fun d => (d.line.dominantRun, d.line.ownPulse)) =
      some (0, false) := by decide +kernel
/-- In SET with pick mode NONE a string fires at its angle and is reported (R120, R131; log 47). -/
theorem test_late_close_fires_at_its_angle :
    (after (.countingStep true false false (lap 0) dark) (let d := strs (fun g => { g with mode := .none }) (firing 2437 aimed aimed);
      { d with fire := { d.fire with phase := .set } })).map
      (fun d => ((d.strings.strings.map (·.chain)).take 1, (d.fire.strings.map (·.fired)).take 1)) = some ([.fired], [true]) := by
  decide +kernel

theorem witness_IdleStepLetsATickPass_dominant_bit :
    (line (fun l => { l with tx := .sending .beacon [0xB4#8], halfBit := true, sentBits := 0 }) (sec .ready)).control.powered = true ∧ (line (fun l => { l with tx := .sending .beacon [0xB4#8], halfBit := true, sentBits := 0 }) (sec .ready)).line.tx = .sending .beacon [0xB4#8] ∧ (line (fun l => { l with tx := .sending .beacon [0xB4#8], halfBit := true, sentBits := 0 }) (sec .ready)).line.halfBit = true ∧
    (([0xB4#8].map soundChar).flatMap charBits)[(line (fun l => { l with tx := .sending .beacon [0xB4#8], halfBit := true, sentBits := 0 }) (sec .ready)).line.sentBits]? = some false := by decide +kernel

theorem witness_IdleStepLetsATickPass_recessive_bit :
    (line (fun l => { l with tx := .sending .beacon [0xB4#8], halfBit := true, sentBits := 10 }) (sec .ready)).control.powered = true ∧ (line (fun l => { l with tx := .sending .beacon [0xB4#8], halfBit := true, sentBits := 10 }) (sec .ready)).line.tx = .sending .beacon [0xB4#8] ∧ (line (fun l => { l with tx := .sending .beacon [0xB4#8], halfBit := true, sentBits := 10 }) (sec .ready)).line.halfBit = true ∧
    (([0xB4#8].map soundChar).flatMap charBits)[(line (fun l => { l with tx := .sending .beacon [0xB4#8], halfBit := true, sentBits := 10 }) (sec .ready)).line.sentBits]? = some true := by decide +kernel

theorem witness_OwnHoldAndPulseEnd_begins :
    (∀ n, (line (fun l => { l with dominantRun := 21 }) (sec .weave)).line.tx ≠ .pulse n) ∧
    (line (fun l => { l with stuck := true, tx := .pulse 3 }) (sec .weave)).line.tx = .pulse 3 := by
  exact ⟨fun n h => (by cases h), rfl⟩

theorem witness_FrameIsReceivedAsSent_own : (line (fun l => { l with rx := .header ⟨[], true⟩, queue := [] }) (sec .weave)).control.powered = true ∧ (line (fun l => { l with rx := .header ⟨[], true⟩, queue := [] }) (sec .weave)).line.rx = .header ⟨[], true⟩ := by decide +kernel

theorem witness_FrameIsReceivedAsSent_unwanted :
    (line (fun l => { l with rx := .header ⟨[], false⟩, queue := [] }) (sec .weave)).line.rx = .header ⟨[], false⟩ ∧ (⟨5#8, 40#8, 0xC1#8, List.replicate 160 0#8⟩ : Frame).payload.length ≤ 160 ∧
    (5#8 : Byte).toNat ≠ (line (fun l => { l with rx := .header ⟨[], false⟩, queue := [] }) (sec .weave)).control.number ∧ 5#8 ≠ allNodes ∧ 0xC1#8 ≠ beaconKind := by decide +kernel

theorem witness_FrameIsReceivedAsSent_overrun : (line (fun l => { l with rx := .header ⟨[], false⟩, queue := List.replicate 4 (beaconOf 1#8) }) (sec .weave)).control.powered = true ∧ (line (fun l => { l with rx := .header ⟨[], false⟩, queue := List.replicate 4 (beaconOf 1#8) }) (sec .weave)).line.rx = .header ⟨[], false⟩ ∧ 4 ≤ (line (fun l => { l with rx := .header ⟨[], false⟩, queue := List.replicate 4 (beaconOf 1#8) }) (sec .weave)).line.queue.length ∧ (beaconOf 7#8).kind = beaconKind := by decide +kernel

theorem witness_FrameIsReceivedAsSent_unsound :
    [0#8, 0#8] ≠ be16 (cyclicCheck (frameBody (beaconOf 7#8))).toNat ∧
    160 < (161#8 : Byte).toNat := by decide +kernel

theorem witness_BeaconsReachTheRoster_discarded :
    (line (fun l => { l with queue := [⟨allNodes, 32#8, beaconKind, beaconBytes⟩, ⟨allNodes, 7#8, beaconKind, []⟩] }) (sec .weave)).control.powered = true ∧ (line (fun l => { l with queue := [⟨allNodes, 32#8, beaconKind, beaconBytes⟩, ⟨allNodes, 7#8, beaconKind, []⟩] }) (sec .weave)).line.queue = ⟨allNodes, 32#8, beaconKind, beaconBytes⟩ :: [⟨allNodes, 7#8, beaconKind, []⟩] ∧
    31 < (32#8 : Byte).toNat ∧ (7#8 : Byte).toNat ≠ (line (fun l => { l with queue := [⟨allNodes, 32#8, beaconKind, beaconBytes⟩, ⟨allNodes, 7#8, beaconKind, []⟩] }) (sec .weave)).control.number ∧ beaconEntry 7 [] = none := by decide +kernel

/-- A station in LOAD with a programme that LOAD DONE checks. -/
def loading (role : Role) (runs : List (Option Run)) (written : List Nat) (map : List (Option MapEntry)) : Device :=
  let d := if role = .weftRole then wef .load else sec .load
  { d with seq := { d.seq with runs := runs, startRun := if (runAt runs 0).isSome then 0 else 63 }
           store := { d.store with written := written }, weft := { d.weft with map := map } }

/-- Whether every written run's next is written and every row of it (R30). -/
def allChained (d : Device) : Bool :=
  (List.range 64).all fun j => (runAt d.seq.runs j).all fun q =>
    (runAt d.seq.runs q.next).isSome && (runRows q).all fun x => decide (x ∈ d.store.written)

def lastRunAlone (next : Nat) : List (Option Run) := List.replicate 63 none ++ [some ⟨0, 3, 1, next, none⟩]
def noFingers : List (Option MapEntry) := List.replicate 8 none
def allFingers : List (Option MapEntry) := List.replicate 8 (some ⟨2, none, false⟩)

theorem witness_LoadDonePassesOrChangesNothing_next :
    (runAt (loading .sectionRole (lastRunAlone 5) [0, 1, 2, 3] []).seq.runs (loading .sectionRole (lastRunAlone 5) [0, 1, 2, 3] []).seq.startRun).isSome = true ∧ (loading .sectionRole (lastRunAlone 5) [0, 1, 2, 3] []).store.written.Pairwise (· < ·) ∧
    runAt (loading .sectionRole (lastRunAlone 5) [0, 1, 2, 3] []).seq.runs 63 = some ⟨0, 3, 1, 5, none⟩ ∧ runAt (loading .sectionRole (lastRunAlone 5) [0, 1, 2, 3] []).seq.runs 5 = none ∧
    ((List.range 63).all fun j => (runAt (loading .sectionRole (lastRunAlone 5) [0, 1, 2, 3] []).seq.runs j).isNone) = true := by decide +kernel

theorem witness_LoadDonePassesOrChangesNothing_row :
    (runAt (loading .sectionRole (lastRunAlone 63) [0, 1, 3] []).seq.runs (loading .sectionRole (lastRunAlone 63) [0, 1, 3] []).seq.startRun).isSome = true ∧ (loading .sectionRole (lastRunAlone 63) [0, 1, 3] []).store.written.Pairwise (· < ·) ∧
    runAt (loading .sectionRole (lastRunAlone 63) [0, 1, 3] []).seq.runs 63 = some ⟨0, 3, 1, 63, none⟩ ∧ (runAt (loading .sectionRole (lastRunAlone 63) [0, 1, 3] []).seq.runs 63).isSome = true ∧
    runRows ⟨0, 3, 1, 63, none⟩ = [0, 1] ++ 2 :: [3] ∧ 0 ∈ (loading .sectionRole (lastRunAlone 63) [0, 1, 3] []).store.written ∧ 1 ∈ (loading .sectionRole (lastRunAlone 63) [0, 1, 3] []).store.written ∧ 2 ∉ (loading .sectionRole (lastRunAlone 63) [0, 1, 3] []).store.written ∧
    ((List.range 63).all fun j => (runAt (loading .sectionRole (lastRunAlone 63) [0, 1, 3] []).seq.runs j).isNone) = true := by decide +kernel

theorem witness_LoadDonePassesOrChangesNothing_override :
    (runAt (loading .weftRole ([some ⟨0, 3, 1, 0, some 7⟩] ++ List.replicate 63 none) [0, 1, 2, 3] noFingers).seq.runs (loading .weftRole ([some ⟨0, 3, 1, 0, some 7⟩] ++ List.replicate 63 none) [0, 1, 2, 3] noFingers).seq.startRun).isSome = true ∧ (loading .weftRole ([some ⟨0, 3, 1, 0, some 7⟩] ++ List.replicate 63 none) [0, 1, 2, 3] noFingers).store.written.Pairwise (· < ·) ∧
    allChained (loading .weftRole ([some ⟨0, 3, 1, 0, some 7⟩] ++ List.replicate 63 none) [0, 1, 2, 3] noFingers) = true ∧ (loading .weftRole ([some ⟨0, 3, 1, 0, some 7⟩] ++ List.replicate 63 none) [0, 1, 2, 3] noFingers).control.role = .weftRole ∧
    runAt (loading .weftRole ([some ⟨0, 3, 1, 0, some 7⟩] ++ List.replicate 63 none) [0, 1, 2, 3] noFingers).seq.runs 0 = some ⟨0, 3, 1, 0, some 7⟩ ∧ ((loading .weftRole ([some ⟨0, 3, 1, 0, some 7⟩] ++ List.replicate 63 none) [0, 1, 2, 3] noFingers).weft.map[7]?).join = none := by decide +kernel

theorem witness_LoadDonePassesOrChangesNothing_code :
    (runAt (loading .weftRole twoRuns [0, 1, 2, 3] noFingers).seq.runs (loading .weftRole twoRuns [0, 1, 2, 3] noFingers).seq.startRun).isSome = true ∧ allChained (loading .weftRole twoRuns [0, 1, 2, 3] noFingers) = true ∧ (loading .weftRole twoRuns [0, 1, 2, 3] noFingers).control.role = .weftRole ∧
    ((List.range 64).all fun j => (runAt (loading .weftRole twoRuns [0, 1, 2, 3] noFingers).seq.runs j).all fun q => q.override.isNone) = true ∧
    0 ∈ (loading .weftRole twoRuns [0, 1, 2, 3] noFingers).store.written ∧ 0 = (readRow (loading .weftRole twoRuns [0, 1, 2, 3] noFingers) 0).weft.toNat ∧ ((loading .weftRole twoRuns [0, 1, 2, 3] noFingers).weft.map[0]?).join = none := by decide +kernel

theorem witness_LoadDonePassesOrChangesNothing_pass :
    (runAt (loading .weftRole twoRuns [0, 1, 2, 3] allFingers).seq.runs (loading .weftRole twoRuns [0, 1, 2, 3] allFingers).seq.startRun).isSome = true ∧ allChained (loading .weftRole twoRuns [0, 1, 2, 3] allFingers) = true ∧ (loading .weftRole twoRuns [0, 1, 2, 3] allFingers).control.role = .weftRole ∧
    ((List.range 64).all fun j => (runAt (loading .weftRole twoRuns [0, 1, 2, 3] allFingers).seq.runs j).all fun q => q.override.isNone) = true ∧
    ((loading .weftRole twoRuns [0, 1, 2, 3] allFingers).store.written.all fun x => ((loading .weftRole twoRuns [0, 1, 2, 3] allFingers).weft.map[(readRow (loading .weftRole twoRuns [0, 1, 2, 3] allFingers) x).weft.toNat]?).join.isSome) = true := by decide +kernel

theorem witness_LoadDonePassesOrChangesNothing_section : (runAt (loading .sectionRole twoRuns [0, 1, 2, 3] []).seq.runs (loading .sectionRole twoRuns [0, 1, 2, 3] []).seq.startRun).isSome = true ∧ allChained (loading .sectionRole twoRuns [0, 1, 2, 3] []) = true ∧ (loading .sectionRole twoRuns [0, 1, 2, 3] []).control.role = .sectionRole := by decide +kernel

/-- A string that waits for power in a reverse pick, and a station with it. -/
def waitingResting : SelString := { ready with waiting := true }
def wakingReverse (st : StationState) : Device :=
  strs (fun g => { g with power := .waking 80000, mode := .reverse, strings := [waitingResting, SelString.reset] }) (sec st)

theorem witness_PowerComesOnAndInrushEnds_reverse :
    (wakingReverse .weave).control.powered = true ∧ (wakingReverse .weave).strings.power = .waking 80000 ∧ (wakingReverse .weave).trainer.phase = .idle ∧ (wakingReverse .weave).strings.test.op ≠ .inFlight .power ∧
    (wakingReverse .weave).control.state = .weave ∧ dwellDue (wakingReverse .weave) = false ∧ (wakingReverse .weave).strings.mode = .reverse ∧ (wakingReverse .weave).strings.blank = false ∧ (wakingReverse .weave).strings.captureDone = false ∧
    0 < stringCount (wakingReverse .weave) ∧ (wakingReverse .weave).strings.strings[0]? = some waitingResting ∧ waitingResting.chain = .resting ∧
    waitingResting.pattern = true ∧ waitingResting.waiting = true := by decide +kernel

theorem witness_PowerComesOnAndInrushEnds_step :
    (testing (.waking 80000) (.inFlight .power)).control.powered = true ∧ (testing (.waking 80000) (.inFlight .power)).strings.power = .waking 80000 ∧ (testing (.waking 80000) (.inFlight .power)).trainer.phase = .idle ∧ (testing (.waking 80000) (.inFlight .power)).control.state = .test ∧
    (testing (.waking 80000) (.inFlight .power)).strings.test.op = .inFlight .power ∧ 1 < stringCount (testing (.waking 80000) (.inFlight .power)) ∧ (testing (.waking 80000) (.inFlight .power)).strings.strings[1]? = some SelString.reset := by decide +kernel

/-- A turning test with a waiting string, its power WAKING and the dwell time reached. -/
def wakingTest : Device :=
  turn (fun t => { t with stationary := 30 })
    (strs (fun g => { g with mode := .test, strings := [waitingString, SelString.reset] }) (testing (.waking 80000) .idle))

theorem witness_PowerComesOnAndInrushEnds_test :
    wakingTest.control.powered = true ∧ wakingTest.strings.power = .waking 80000 ∧ wakingTest.trainer.phase = .idle ∧ wakingTest.strings.test.op ≠ .inFlight .power ∧
    wakingTest.control.state = .test ∧ dwellDue wakingTest = true ∧ wakingTest.strings.mode = .test ∧ wakingTest.strings.blank = false ∧ wakingTest.strings.captureDone = false ∧
    0 < stringCount wakingTest ∧ wakingTest.strings.strings[0]? = some waitingString := by decide +kernel

theorem witness_PowerComesOnAndInrushEnds_ready :
    (wakingReverse .ready).control.powered = true ∧ (wakingReverse .ready).strings.power = .waking 80000 ∧ (wakingReverse .ready).trainer.phase = .idle ∧ (wakingReverse .ready).strings.test.op ≠ .inFlight .power ∧
    (wakingReverse .ready).control.state = .ready ∧ dwellDue (wakingReverse .ready) = false ∧
    dwellDue (turn (fun t => { t with stationary := 30 }) (wakingReverse .ready)) = true := by decide +kernel

theorem witness_TestStepFiresThePattern_wait_for_power :
    (strs (fun g => { g with power := .waking 3 }) (testingRow (.inFlight .fetch) (.fetching 12 .test 200))).control.powered = true ∧ (strs (fun g => { g with power := .waking 3 }) (testingRow (.inFlight .fetch) (.fetching 12 .test 200))).control.role = .sectionRole ∧ (strs (fun g => { g with power := .waking 3 }) (testingRow (.inFlight .fetch) (.fetching 12 .test 200))).control.state = .test ∧ (strs (fun g => { g with power := .waking 3 }) (testingRow (.inFlight .fetch) (.fetching 12 .test 200))).strings.test.op = .inFlight .fetch ∧
    (strs (fun g => { g with power := .waking 3 }) (testingRow (.inFlight .fetch) (.fetching 12 .test 200))).strings.power ≠ .on ∧ (strs (fun g => { g with power := .waking 3 }) (testingRow (.inFlight .fetch) (.fetching 12 .test 200))).store.fetch = .fetching 12 .test 200 ∧ 12 ∉ (strs (fun g => { g with power := .waking 3 }) (testingRow (.inFlight .fetch) (.fetching 12 .test 200))).store.written ∧
    (strs (fun g => { g with power := .waking 3 }) (testingRow (.inFlight .fetch) (.fetching 12 .test 200))).strings.strings[0]? = some SelString.reset ∧ 0 < stringCount (strs (fun g => { g with power := .waking 3 }) (testingRow (.inFlight .fetch) (.fetching 12 .test 200))) := by decide +kernel

/-- A FAST station in SET at an angle, its first string PENDING, power ON. -/
def fastSet (x : Nat) : Device :=
  let d := turn (fun t => { t with speed := .fast }) (firing x aimed { aimed with pattern := false })
  { d with tracker := { d.tracker with angle := x }
           fire := { FireTimer.reset with phase := .set, strings := [FireString.reset, { FireString.reset with fired := true }] } }

theorem witness_StallAndStationarySeconds_leaves_fast_2440 :
    (fastSet 2440).control.powered = true ∧ (fastSet 2440).tracker.speed = .fast ∧ (fastSet 2440).fire.phase = .set ∧
    (fastSet 2440).control.config = some secCfg ∧ (fastSet 2440).control.state = .weave ∧ inArc (fastSet 2440).tracker.angle secCfg.w secCfg.k = true ∧
    0 < stringCount (fastSet 2440) ∧ (fastSet 2440).fire.strings[0]? = some FireString.reset ∧ (fastSet 2440).strings.strings[0]? = some aimed ∧
    aimed.chain = .pending ∧ aimed.drive = .off ∧ aimed.waiting = false ∧ (fastSet 2440).strings.blank = false ∧ (fastSet 2440).strings.power = .on := by decide +kernel

theorem witness_StallAndStationarySeconds_leaves_fast_2299 :
    (fastSet 2299).control.powered = true ∧ (fastSet 2299).tracker.speed = .fast ∧ (fastSet 2299).fire.phase = .set ∧
    (fastSet 2299).control.config = some secCfg ∧ (fastSet 2299).control.state = .weave ∧ inArc (fastSet 2299).tracker.angle secCfg.w secCfg.k = false ∧
    0 < stringCount (fastSet 2299) ∧ (fastSet 2299).fire.strings[0]? = some FireString.reset ∧ (fastSet 2299).strings.strings[0]? = some aimed ∧
    aimed.chain = .pending ∧ aimed.drive = .off ∧ aimed.waiting = false ∧ (fastSet 2299).strings.blank = false ∧ (fastSet 2299).strings.power = .on := by decide +kernel

theorem witness_IndexReferencesChecksAndGoesMissing_leaves_fast :
    (fastSet 2440).control.powered = true ∧ (fastSet 2440).control.config = some secCfg ∧ (fastSet 2440).tracker.speed = .fast ∧ (fastSet 2440).fire.phase = .set ∧ (fastSet 2440).control.state = .weave ∧
    2 < indexError secCfg.index (fastSet 2440).tracker.angle ∧ (turn (fun t => { t with referenced := false }) (fastSet 2440)).tracker.referenced = false := by decide +kernel

theorem witness_FireTimerComputesTheAngles_turn :
    referencedBy secCfg (strs (fun g => { g with mode := .none }) (turn (fun t => { t with angle := 2439, dir := .reverse }) (fastSet 2440))) = true ∧
    (strs (fun g => { g with mode := .none }) (turn (fun t => { t with angle := 2439, dir := .reverse }) (fastSet 2440))).control.state = .weave ∧ (strs (fun g => { g with mode := .none }) (turn (fun t => { t with angle := 2439, dir := .reverse }) (fastSet 2440))).control.role = .sectionRole ∧ (strs (fun g => { g with mode := .none }) (turn (fun t => { t with angle := 2439, dir := .reverse }) (fastSet 2440))).strings.mode = .none ∧ (strs (fun g => { g with mode := .none }) (turn (fun t => { t with angle := 2439, dir := .reverse }) (fastSet 2440))).tracker.speed = .fast ∧ (strs (fun g => { g with mode := .none }) (turn (fun t => { t with angle := 2439, dir := .reverse }) (fastSet 2440))).fire.phase = .set ∧
    turns .forward (strs (fun g => { g with mode := .none }) (turn (fun t => { t with angle := 2439, dir := .reverse }) (fastSet 2440))).tracker = true ∧ stepsOnto .forward true false 2440 (strs (fun g => { g with mode := .none }) (turn (fun t => { t with angle := 2439, dir := .reverse }) (fastSet 2440))) = true ∧
    2440 ≠ secCfg.b ∧ 2440 ≠ secCfg.c ∧ 2440 ≠ secCfg.w ∧ 2440 ≠ secCfg.k ∧ 2440 ≠ secCfg.d ∧ 2440 ≠ guardEnd secCfg := by decide +kernel

theorem witness_StringsFireCaptureAndRelease_late :
    referencedBy secCfg (strs (fun g => { g with mode := .none }) (firing 2437 aimed aimed)) = true ∧
    (strs (fun g => { g with mode := .none }) (firing 2437 aimed aimed)).control.state = .weave ∧ (strs (fun g => { g with mode := .none }) (firing 2437 aimed aimed)).control.role = .sectionRole ∧ (strs (fun g => { g with mode := .none }) (firing 2437 aimed aimed)).strings.mode = .none ∧ goesOn .forward (strs (fun g => { g with mode := .none }) (firing 2437 aimed aimed)) = true ∧
    stepsOnto .forward true false 2437 (strs (fun g => { g with mode := .none }) (firing 2437 aimed aimed)) = true ∧ 2437 ≠ secCfg.b ∧ 2437 ≠ secCfg.c ∧
    (strs (fun g => { g with mode := .none }) (firing 2437 aimed aimed)).strings.strings[0]? = some aimed ∧ aimed.drive = .off ∧ aimed.chain = .pending ∧ aimed.fireAngle = some 2437 ∧
    aimed.waiting = false ∧ aimed.pattern = true ∧ (strs (fun g => { g with mode := .none }) (firing 2437 aimed aimed)).strings.blank = false ∧ (strs (fun g => { g with mode := .none }) (firing 2437 aimed aimed)).strings.power = .on ∧ 0 < stringCount (strs (fun g => { g with mode := .none }) (firing 2437 aimed aimed)) := by decide +kernel

theorem witness_TurnsAndReverseSelection_turn_set_fast :
    referencedBy secCfg (turn (fun t => { t with speed := .fast, dir := .reverse }) (let d := firing 2400 firedString aimed; { d with fire := { d.fire with phase := .set } })) = true ∧
    (turn (fun t => { t with speed := .fast, dir := .reverse }) (let d := firing 2400 firedString aimed; { d with fire := { d.fire with phase := .set } })).control.state = .weave ∧ (turn (fun t => { t with speed := .fast, dir := .reverse }) (let d := firing 2400 firedString aimed; { d with fire := { d.fire with phase := .set } })).control.role = .sectionRole ∧ (turn (fun t => { t with speed := .fast, dir := .reverse }) (let d := firing 2400 firedString aimed; { d with fire := { d.fire with phase := .set } })).strings.mode = .forward ∧ (turn (fun t => { t with speed := .fast, dir := .reverse }) (let d := firing 2400 firedString aimed; { d with fire := { d.fire with phase := .set } })).tracker.speed = .fast ∧
    turns .forward (turn (fun t => { t with speed := .fast, dir := .reverse }) (let d := firing 2400 firedString aimed; { d with fire := { d.fire with phase := .set } })).tracker = true ∧ stepsOnto .forward true false 2400 (turn (fun t => { t with speed := .fast, dir := .reverse }) (let d := firing 2400 firedString aimed; { d with fire := { d.fire with phase := .set } })) = true ∧ noFireAt 2400 (turn (fun t => { t with speed := .fast, dir := .reverse }) (let d := firing 2400 firedString aimed; { d with fire := { d.fire with phase := .set } })) = true ∧
    2400 ≠ secCfg.b ∧ 2400 ≠ secCfg.c ∧ 2400 ≠ secCfg.w ∧ 2400 ≠ secCfg.k ∧ 2400 ≠ secCfg.d ∧
    (turn (fun t => { t with speed := .fast, dir := .reverse }) (let d := firing 2400 firedString aimed; { d with fire := { d.fire with phase := .set } })).fire.phase = .set ∧ 0 < stringCount (turn (fun t => { t with speed := .fast, dir := .reverse }) (let d := firing 2400 firedString aimed; { d with fire := { d.fire with phase := .set } })) ∧ 0 < (turn (fun t => { t with speed := .fast, dir := .reverse }) (let d := firing 2400 firedString aimed; { d with fire := { d.fire with phase := .set } })).fire.strings.length ∧ (turn (fun t => { t with speed := .fast, dir := .reverse }) (let d := firing 2400 firedString aimed; { d with fire := { d.fire with phase := .set } })).strings.strings[0]? = some firedString := by decide +kernel

/-- R121, R122: the turn that leaves FAST in SET hands W to the string that has fired, and leaves its register latched. -/
theorem test_turn_in_set_and_fast :
    (after (.countingStep true false false (lap 0) dark)
      (turn (fun t => { t with speed := .fast, dir := .reverse })
        (let d := firing 2400 firedString aimed; { d with fire := { d.fire with phase := .set } }))).map
      (fun d => ((d.strings.strings.map fun x => (x.chain, x.latched, x.fireAngle)).take 1, d.fire.phase, d.tracker.speed)) =
      some ([(.pending, true, some 2300)], .held, .creep) := by decide +kernel

theorem witness_ProgrammeIsWritten_range :
    asked .runWrite (runBytes ++ [0#8]) (asking .runWrite (runBytes ++ [0#8]) (sec .load)) = true ∧ (runBytes ++ [0#8]).length ≠ 10 ∧
    asked .runWrite ([64#8] ++ runBytes.drop 1) (asking .runWrite ([64#8] ++ runBytes.drop 1) (sec .load)) = true ∧ 63 < fieldAt ([64#8] ++ runBytes.drop 1) 0 1 ∧
    asked .matchWrite ([12#8] ++ matchBytes.drop 1) (asking .matchWrite ([12#8] ++ matchBytes.drop 1) (sec .weave)) = true ∧ 11 < fieldAt ([12#8] ++ matchBytes.drop 1) 0 1 ∧
    asked .matchWrite ([0#8, 0#8, 64#8] ++ matchBytes.drop 3) (asking .matchWrite ([0#8, 0#8, 64#8] ++ matchBytes.drop 3) (sec .load)) = true ∧ (([0#8, 0#8, 64#8] ++ matchBytes.drop 3).getD 1 0#8).getLsbD 0 = false ∧ 63 < fieldAt ([0#8, 0#8, 64#8] ++ matchBytes.drop 3) 2 1 ∧
    asked .weftMapWrite [2#8, 2#8, 2#8, 1#8] (asking .weftMapWrite [2#8, 2#8, 2#8, 1#8] (wef .load)) = true ∧ fieldAt [2#8, 2#8, 2#8, 1#8] 2 1 = fieldAt [2#8, 2#8, 2#8, 1#8] 1 1 ∧
    asked .weftMapWrite [2#8, 2#8, 5#8, 1#8] (asking .weftMapWrite [2#8, 2#8, 5#8, 1#8] (sec .load)) = true ∧ (sec .load).control.role = .sectionRole := by decide +kernel

theorem witness_TestBeginsAndEnds_refused :
    asked .testBegin [5#8, 0#8, 0#8] (asking .testBegin [5#8, 0#8, 0#8] (sec .ready)) = true ∧ 4 < fieldAt [5#8, 0#8, 0#8] 0 1 ∧ (sec .ready).control.role = .sectionRole ∧
    asked .testBegin [4#8, 0x40#8, 0#8] (asking .testBegin [4#8, 0x40#8, 0#8] (sec .ready)) = true ∧ fieldAt [4#8, 0x40#8, 0#8] 0 1 = 4 ∧ 16383 < fieldAt [4#8, 0x40#8, 0#8] 1 2 ∧
    asked .testBegin [1#8, 0#8, 0#8] (asking .testBegin [1#8, 0#8, 0#8] (wef .ready)) = true ∧ (wef .ready).control.role = .weftRole := by decide +kernel

end Sys2Proof.Tests
end

section
/-! SUPPORT. The counting step (ch. 1): what stands when it comes, its direction, and the tracker it leaves, case by case. -/

namespace Sys2Proof.Machine

/-! ## The station as a counting step finds it -/

/-- The station as a counting step finds it: the lapse has passed at every block and the sense inputs stand as given (log 3, 10). -/
def beforeStep (dt : Lapse) (sense : List StringBits) (d : Device) : Device :=
  onPins (fun p => { p with sense := sense }) (pass dt d)

@[simp] theorem beforeStep_tracker (dt : Lapse) (sense : List StringBits) (d : Device) :
    (beforeStep dt sense d).tracker = elapseTracker dt.ticks d.tracker := by
  simp [beforeStep]

@[simp] theorem elapse_flags (dt : Nat) (others : List LineRun) (d : Device) :
    (elapse dt others d).control.flags = d.control.flags := rfl

@[simp] theorem beforeStep_frame (dt : Lapse) (sense : List StringBits) (d : Device) :
    (beforeStep dt sense d).seq = d.seq ∧ (beforeStep dt sense d).weft = d.weft ∧
    (beforeStep dt sense d).store.mem = d.store.mem ∧ (beforeStep dt sense d).store.written = d.store.written ∧
    (beforeStep dt sense d).line.queue = d.line.queue ∧ (beforeStep dt sense d).line.replySlot = d.line.replySlot ∧
    (beforeStep dt sense d).control.state = d.control.state ∧ (beforeStep dt sense d).control.role = d.control.role ∧
    (beforeStep dt sense d).control.number = d.control.number ∧
    (beforeStep dt sense d).control.config = d.control.config ∧
    (beforeStep dt sense d).control.powered = d.control.powered ∧
    (beforeStep dt sense d).control.flags = d.control.flags := by
  simp [beforeStep]

/-- With main power an index edge acts on the station alone (R3, R4). -/
theorem exec_indexEdge {s : State} (hp : s.dev.control.powered = true) :
    exec .indexEdge s = .next { s with dev := takeIndexEdge s.dev } := completed_powered hp

/-- The index edge of a step is what an index edge does to the station the step leaves (R1 step 4). -/
theorem takeStep_index (dir : Direction) (d : Device) : takeStep dir true d = takeIndexEdge (takeStep dir false d) := rfl

/-! ## The tracker through a counting step -/

/-- The tracker after the distance test (R5): the angle goes UNREFERENCED where the index distance has reached 8,256. -/
def distanceChecked (t : Tracker) : Tracker :=
  if t.referenced ∧ 8256 ≤ t.indexDist.natAbs then { t with referenced := false, indexDist := 0 } else t

theorem checkDistance_tracker (d : Device) : (checkDistance d).tracker = distanceChecked d.tracker := by
  unfold checkDistance distanceChecked
  by_cases h : d.tracker.referenced ∧ 8256 ≤ d.tracker.indexDist.natAbs <;> simp [h]

@[simp] theorem distanceChecked_frame (t : Tracker) :
    (distanceChecked t).angle = t.angle ∧ (distanceChecked t).dir = t.dir ∧ (distanceChecked t).phase = t.phase ∧
    (distanceChecked t).spanCounts = t.spanCounts ∧ (distanceChecked t).spanTimer = t.spanTimer ∧
    (distanceChecked t).span = t.span ∧ (distanceChecked t).unsettled = t.unsettled ∧
    (distanceChecked t).speed = t.speed ∧ (distanceChecked t).stationary = t.stationary := by
  unfold distanceChecked
  split <;> simp

/-- A step without an index edge ends with the distance test (R5): what comes before it leaves the tracker as the step's own rules
say, and a station in WEAVE in WEAVE. -/
theorem takeStep_ends_with_checkDistance (dir : Direction) (d : Device) :
    ∃ x, takeStep dir false d = checkDistance x ∧ x.tracker = stepTracker d.control.config dir d.tracker ∧
      (d.control.state = .weave → x.control.state = .weave) := by
  refine ⟨_, rfl, ?_, fun hweave => ?_⟩
  · have hturn : ∀ x, (doIf (turns dir d.tracker) turnPick x).tracker = x.tracker := fun x => by simp
    simp [hturn]
  · simp [handMotion, hweave]

/-- A counting step leaves the tracker as its own rules say, whatever the other blocks do (R1 steps 1 and 2, R5). -/
theorem takeStep_tracker (dir : Direction) (d : Device) :
    (takeStep dir false d).tracker = distanceChecked (stepTracker d.control.config dir d.tracker) := by
  obtain ⟨x, hstep, htracker, -⟩ := takeStep_ends_with_checkDistance dir d
  rw [hstep, checkDistance_tracker, htracker]

@[simp] theorem elapseTracker_frame (dt : Nat) (t : Tracker) :
    (elapseTracker dt t).angle = t.angle ∧ (elapseTracker dt t).dir = t.dir ∧ (elapseTracker dt t).phase = t.phase ∧
    (elapseTracker dt t).referenced = t.referenced ∧ (elapseTracker dt t).indexDist = t.indexDist ∧
    (elapseTracker dt t).spanCounts = t.spanCounts ∧ (elapseTracker dt t).span = t.span ∧
    (elapseTracker dt t).unsettled = t.unsettled ∧ (elapseTracker dt t).speed = t.speed ∧
    (elapseTracker dt t).stationary = t.stationary := by
  unfold elapseTracker
  split <;> simp

/-! ## Spans and speed states (R8 to R12) -/

/-- A step against the direction held (R9, R12): two unsettled spans, CREEP, the step an anchor, the last span kept. -/
theorem stepSpan_turn (cfg : Option Configuration) {dir : Direction} {t : Tracker} (h : dir ≠ t.dir) :
    ∃ stationary secondTimer, (t.speed = .stalled → stationary = 0) ∧
      stepSpan cfg dir t = { t with
        dir := dir, spanCounts := some 0, spanTimer := 0, unsettled := 2, speed := .creep
        stationary := stationary, secondTimer := secondTimer } := by
  cases hs : t.speed with
  | stalled => exact ⟨0, 0, fun _ => rfl, by simp [stepSpan, hs, turns, h, endStall, anchored, unsettle]⟩
  | creep | run | fast =>
    exact ⟨t.stationary, t.secondTimer, by simp, by simp [stepSpan, hs, turns, h, anchored, unsettle, slowed]⟩

/-- The first step after a stall in the direction held (R12). -/
theorem stepSpan_stalled (cfg : Option Configuration) {t : Tracker} (hs : t.speed = .stalled) :
    stepSpan cfg t.dir t = endStall t := by
  cases t
  simp_all [stepSpan, turns]

/-- Outside STALLED a step in the direction held is a count of its span (R8). -/
theorem stepSpan_counts (cfg : Option Configuration) {t : Tracker} (hs : t.speed ≠ .stalled) :
    stepSpan cfg t.dir t = countSpan cfg t := by
  simp [stepSpan, hs, turns]

@[simp] theorem countSpan_frame (cfg : Option Configuration) (t : Tracker) :
    (countSpan cfg t).angle = t.angle ∧ (countSpan cfg t).dir = t.dir ∧ (countSpan cfg t).phase = t.phase ∧
    (countSpan cfg t).referenced = t.referenced ∧ (countSpan cfg t).indexDist = t.indexDist := by
  unfold countSpan
  (repeat' split) <;> simp [anchored, completeSpan]

/-- The span rules move neither the counter nor its reference, and take the direction of the step (R1). -/
@[simp] theorem stepSpan_frame (cfg : Option Configuration) (dir : Direction) (t : Tracker) :
    (stepSpan cfg dir t).angle = t.angle ∧ (stepSpan cfg dir t).dir = dir ∧ (stepSpan cfg dir t).phase = t.phase ∧
    (stepSpan cfg dir t).referenced = t.referenced ∧ (stepSpan cfg dir t).indexDist = t.indexDist := by
  by_cases h : dir = t.dir
  · subst h
    by_cases hs : t.speed = .stalled
    · simp [stepSpan_stalled cfg hs, endStall, anchored]
    · simp [stepSpan_counts cfg hs]
  · obtain ⟨_, _, -, e⟩ := stepSpan_turn cfg h
    simp [e]

/-! ## The direction of a step (R1) -/

/-- The decoder state one count on in a direction (R1). -/
def stepPhase (dir : Direction) (p : BitVec 2) : BitVec 2 :=
  match dir with
  | .forward => p + 1#2
  | .reverse => p - 1#2

theorem directionOf_stepPhase (dir : Direction) (p : BitVec 2) : directionOf p (stepPhase dir p) = some dir := by
  cases dir
  · exact directionOf_forward p
  · exact directionOf_reverse p

/-- The two neighbours of a decoder state differ. -/
theorem stepPhase_inj {dir dir' : Direction} {p : BitVec 2} (h : stepPhase dir p = stepPhase dir' p) : dir = dir' :=
  Option.some.inj (by rw [← directionOf_stepPhase dir p, h, directionOf_stepPhase])

theorem step_of_neighbour {p q : BitVec 2} (h : q = p + 1#2 ∨ q = p - 1#2) : ∃ dir, q = stepPhase dir p :=
  h.elim (⟨.forward, ·⟩) (⟨.reverse, ·⟩)

theorem step_along {p q : BitVec 2} {dir : Direction}
    (h : (q = p + 1#2 ∧ dir = .forward) ∨ (q = p - 1#2 ∧ dir = .reverse)) : q = stepPhase dir p := by
  rcases h with ⟨hq, rfl⟩ | ⟨hq, rfl⟩ <;> exact hq

theorem step_against {p q : BitVec 2} {dir : Direction}
    (h : (q = p - 1#2 ∧ dir = .forward) ∨ (q = p + 1#2 ∧ dir = .reverse)) :
    ∃ dir', dir' ≠ dir ∧ q = stepPhase dir' p := by
  rcases h with ⟨hq, rfl⟩ | ⟨hq, rfl⟩
  · exact ⟨.reverse, by decide, hq⟩
  · exact ⟨.forward, by decide, hq⟩

/-- With main power a change to a neighbouring phase is a step that way (R1). -/
theorem exec_countingStep {a b index : Bool} {dt : Lapse} {sense : List StringBits} {s : State} {dir : Direction}
    (hp : s.dev.control.powered = true) (hd : phaseOf a b = stepPhase dir s.dev.tracker.phase) :
    exec (.countingStep a b index dt sense) s =
      .next { s with dev := takeStep dir index (beforeStep dt sense s.dev) } := by
  have hdir : directionOf s.dev.tracker.phase (phaseOf a b) = some dir := by rw [hd, directionOf_stepPhase]
  calc exec (.countingStep a b index dt sense) s
      = completed (shaftStep a b index dt sense) s := rfl
    _ = .next { s with dev := takeStep dir index (beforeStep dt sense s.dev) } := by
        rw [completed_powered hp, shaftStep_of_direction hdir]; rfl

/-! ## The tracker of a step, case by case (R1, R8 to R12) -/

/-- The counter and the decoder state move, the direction is taken and the distance brought up to date (R1); the reference stands. -/
@[simp] theorem stepTracker_frame (cfg : Option Configuration) (dir : Direction) (t : Tracker) :
    (stepTracker cfg dir t).angle = stepAngle dir t.angle ∧ (stepTracker cfg dir t).dir = dir ∧
    (stepTracker cfg dir t).phase = stepPhase dir t.phase ∧ (stepTracker cfg dir t).referenced = t.referenced ∧
    (stepTracker cfg dir t).indexDist = stepDistance dir t := by
  simp only [stepTracker, stepSpan_frame]
  cases dir <;> simp [stepPhase]

theorem stepTracker_turn (cfg : Option Configuration) {dir : Direction} {t : Tracker} (h : dir ≠ t.dir) :
    (stepTracker cfg dir t).spanCounts = some 0 ∧ (stepTracker cfg dir t).spanTimer = 0 ∧
    (stepTracker cfg dir t).unsettled = 2 ∧ (stepTracker cfg dir t).speed = .creep ∧
    (stepTracker cfg dir t).span = t.span ∧ (t.speed = .stalled → (stepTracker cfg dir t).stationary = 0) := by
  unfold stepTracker
  generalize hm : ({ t with angle := _, phase := _, indexDist := _ } : Tracker) = m
  have hdir : dir ≠ m.dir := by rw [← hm]; exact h
  obtain ⟨stationary, secondTimer, hst, e⟩ := stepSpan_turn cfg hdir
  subst hm
  simpa [e] using hst

/-! ## Steps along the direction held (R8 to R12) -/

theorem stepTracker_stalled (cfg : Option Configuration) {t : Tracker} (hs : t.speed = .stalled) :
    (stepTracker cfg t.dir t).spanCounts = some 0 ∧ (stepTracker cfg t.dir t).spanTimer = 0 ∧
    (stepTracker cfg t.dir t).speed = .creep ∧ (stepTracker cfg t.dir t).stationary = 0 ∧
    (stepTracker cfg t.dir t).unsettled = t.unsettled ∧ (stepTracker cfg t.dir t).span = t.span := by
  simp [stepTracker, stepSpan, hs, turns, endStall, anchored]

/-- The sixteenth count completes the span (R8, R9, R10). -/
theorem stepTracker_completes (cfg : Option Configuration) {t : Tracker} (hs : t.speed ≠ .stalled)
    (hcounts : t.spanCounts = some 15) :
    (stepTracker cfg t.dir t).span = some (spanOf t) ∧ (stepTracker cfg t.dir t).spanCounts = some 0 ∧
    (stepTracker cfg t.dir t).spanTimer = 0 ∧ (stepTracker cfg t.dir t).unsettled = t.unsettled - 1 ∧
    (stepTracker cfg t.dir t).speed = speedAfter cfg t.unsettled (spanOf t) := by
  simp [stepTracker, stepSpan, hs, turns, countSpan, hcounts, completeSpan, anchored, spanOf]

/-- The span measured after a lapse (R8): the stop of the timer at the stall expiry does not show. -/
theorem spanOf_elapsed (dt : Nat) {t : Tracker} (hs : t.speed ≠ .stalled) :
    spanOf (elapseTracker dt t) = min (max (t.spanTimer + dt) 1) 1048575 := by
  simp only [spanOf, elapseTracker, hs, if_false, runTimer, stallTicks]
  omega

/-- The sixteenth count after a lapse (R8, R9, R10). -/
theorem stepTracker_completes_elapsed (cfg : Option Configuration) (dt : Nat) {t : Tracker} (hs : t.speed ≠ .stalled)
    (hcounts : t.spanCounts = some 15) :
    (stepTracker cfg t.dir (elapseTracker dt t)).span = some (min (max (t.spanTimer + dt) 1) 1048575) ∧
    (stepTracker cfg t.dir (elapseTracker dt t)).spanCounts = some 0 ∧
    (stepTracker cfg t.dir (elapseTracker dt t)).spanTimer = 0 ∧
    (stepTracker cfg t.dir (elapseTracker dt t)).unsettled = t.unsettled - 1 ∧
    (stepTracker cfg t.dir (elapseTracker dt t)).speed =
      speedAfter cfg t.unsettled (min (max (t.spanTimer + dt) 1) 1048575) := by
  have h := stepTracker_completes cfg (t := elapseTracker dt t) (by simpa using hs) (by simpa using hcounts)
  rw [spanOf_elapsed dt hs] at h
  simpa only [elapseTracker_frame] using h

/-- The speed state at a completed span, with no configuration or with `c` (R10). -/
theorem speedAfter_eq {cfg : Option Configuration} {c : Configuration} (before n : Nat) (h : cfg = some c ∨ cfg = none) :
    speedAfter cfg before n =
      if cfg = none ∨ 0 < before then .creep else if c.sCreep < n then .creep else if n < c.sFast then .fast else .run := by
  rcases h with rfl | rfl <;> simp [speedAfter]

end Sys2Proof.Machine
end

section
/-! SUPPORT. Which operations of a counting step set a flag: HOLD SENT comes from pulse requests alone, FAST from the change of speed
state alone (12.6, R10, R86). -/

namespace Sys2Proof.Machine

/-! ## Flags read from station control, so that the frames over `Device.control` apply to them (12.6) -/

/-- A flag as station control holds it. -/
def flagOf (f : Flag) (c : Control) : Bool := c.flags.getLsbD (flagNumber f)

theorem hasFlag_eq_flagOf (f : Flag) (d : Device) : hasFlag f d = flagOf f d.control := rfl

theorem flagNumber_lt (f : Flag) : flagNumber f < 30 := by
  cases f <;> decide

theorem flagNumber_inj {f g : Flag} : flagNumber f = flagNumber g ↔ f = g := by
  cases f <;> cases g <;> decide

@[simp] theorem setFlag_flagOf (f g : Flag) (d : Device) :
    flagOf f (setFlag g d).control = (flagOf f d.control || decide (f = g)) := by
  have hlt := flagNumber_lt g
  simp only [flagOf, setFlag_control, BitVec.getLsbD_or, BitVec.getLsbD_twoPow, hlt, decide_true, Bool.true_and,
    flagNumber_inj, eq_comm]

theorem doIf_flagOf (f : Flag) (c : Bool) (g : Device → Device) (d : Device)
    (h : flagOf f (g d).control = flagOf f d.control) : flagOf f (doIf c g d).control = flagOf f d.control :=
  doIf_keeps (flagOf f ·.control) c g d h

/-- An operation that keeps a flag of every station keeps it under a condition. -/
theorem doIf_flagOf_of_forall {f : Flag} {g : Device → Device} (h : ∀ d, flagOf f (g d).control = flagOf f d.control)
    (c : Bool) (d : Device) : flagOf f (doIf c g d).control = flagOf f d.control := doIf_flagOf f c g d (h d)

@[simp] theorem writeRetained_flagOf (f : Flag) (d : Device) :
    flagOf f (writeRetained d).control = flagOf f d.control := rfl

@[simp] theorem setState_flagOf (f : Flag) (st : StationState) (d : Device) :
    flagOf f (setState st d).control = flagOf f d.control := rfl

/-- A pulse request sets HOLD SENT alone (R86). -/
@[simp] theorem requestPulse_flagOf {f : Flag} (hf : f ≠ .holdSent) (d : Device) :
    flagOf f (requestPulse d).control = flagOf f d.control := by
  rcases requestPulse_cases d with ⟨-, e⟩ | ⟨-, -, e⟩ | ⟨-, -, e⟩ <;> simp [e, hf]

/-- An own hold sets HOLD SENT alone (R44). -/
@[simp] theorem ownHold_flagOf {f : Flag} (hf : f ≠ .holdSent) (d : Device) :
    flagOf f (ownHold d).control = flagOf f d.control := by
  rcases ownHold_cases d with ⟨-, e⟩ | ⟨-, e⟩ <;> simp [e, hf]

/-! ## FAST is set by the change of speed state alone (R10) -/

@[simp] theorem evaluateMatches_fast (d : Device) :
    flagOf .fast (evaluateMatches d).control = flagOf .fast d.control := by
  simp [evaluateMatches, restartPiece, doIf_flagOf]

@[simp] theorem chooseFinger_fast (k : Nat) (d : Device) :
    flagOf .fast (chooseFinger k d).control = flagOf .fast d.control := by
  simp only [chooseFinger, substitute, noFinger]
  (repeat' split) <;> simp

@[simp] theorem startChoice_fast (d : Device) : flagOf .fast (startChoice d).control = flagOf .fast d.control := by
  unfold startChoice
  split <;> simp

@[simp] theorem weftIsMissing_fast (d : Device) :
    flagOf .fast (weftIsMissing d).control = flagOf .fast d.control := by
  simp [weftIsMissing]

@[simp] theorem weftForwardBoundary_fast (kind : CrossKind) (left : Nat) (d : Device) :
    flagOf .fast (weftForwardBoundary kind left d).control = flagOf .fast d.control := by
  simp only [weftForwardBoundary, arrivalAtForwardB]
  split <;> simp [doIf_flagOf]

@[simp] theorem fingerAngle_fast (d : Device) : flagOf .fast (fingerAngle d).control = flagOf .fast d.control := by
  simp only [fingerAngle, reexamine, substitute, noFinger, onWeft_frame, outputChoice_frame]
  (repeat' split) <;> simp

@[simp] theorem arrivalClose_fast (d : Device) : flagOf .fast (arrivalClose d).control = flagOf .fast d.control := by
  unfold arrivalClose
  split <;> simp

@[simp] theorem seqForwardB_fast (d : Device) : flagOf .fast (seqForwardB d).control = flagOf .fast d.control := by
  simp [seqForwardB, doIf_flagOf]

@[simp] theorem seqReverseB_fast (d : Device) : flagOf .fast (seqReverseB d).control = flagOf .fast d.control := by
  unfold seqReverseB reversePop reverseExhausted
  split <;> simp

@[simp] theorem missTest_fast (d : Device) : flagOf .fast (missTest d).control = flagOf .fast d.control := by
  unfold missTest
  simp only
  split <;> simp [doIf_flagOf]

@[simp] theorem outstandingMissTest_fast (d : Device) :
    flagOf .fast (outstandingMissTest d).control = flagOf .fast d.control := by
  simp [outstandingMissTest, doIf_flagOf]

@[simp] theorem takeFault_fast (d : Device) (e : FaultEntry) :
    flagOf .fast (takeFault d e).control = flagOf .fast d.control := by
  unfold takeFault
  simp only
  (repeat' split) <;> simp

@[simp] theorem takeFaults_fast (fs : List FaultEntry) (d : Device) :
    flagOf .fast (takeFaults fs d).control = flagOf .fast d.control := by
  unfold takeFaults
  rw [doIf_flagOf _ _ _ _ (ownHold_flagOf (by decide) _)]
  exact foldl_keeps (flagOf .fast ·.control) takeFault takeFault_fast fs d

@[simp] theorem openTestPick_fast (w : Nat) (d : Device) :
    flagOf .fast (openTestPick w d).control = flagOf .fast d.control := by
  unfold openTestPick shiftAll
  simp only
  split <;> simp

@[simp] theorem forwardB_fast (c : Configuration) (d : Device) :
    flagOf .fast (forwardB c d).control = flagOf .fast d.control := by
  unfold forwardB
  split <;> simp [doIf_flagOf, openForwardPick]

@[simp] theorem reverseB_fast (d : Device) : flagOf .fast (reverseB d).control = flagOf .fast d.control := by
  unfold reverseB
  split <;> simp [doIf_flagOf, openReversePick]

@[simp] theorem computeStrings_fast (c : Configuration) (held : Bool) (d : Device) :
    flagOf .fast (computeStrings c held d).control = flagOf .fast d.control := by
  simp [computeStrings, doIf_flagOf]

@[simp] theorem recompute_fast (c : Configuration) (d : Device) :
    flagOf .fast (recompute c d).control = flagOf .fast d.control := by
  simp [recompute]

@[simp] theorem fireClose_fast (s : Snapshot) (d : Device) :
    flagOf .fast (fireClose s d).control = flagOf .fast d.control := by
  unfold fireClose
  (repeat' split) <;> simp

@[simp] theorem turnPick_fast (d : Device) : flagOf .fast (turnPick d).control = flagOf .fast d.control := by
  refine (doIf_flagOf .fast _ _ _ ?_).trans (by simp)
  unfold fireTurn enterHeld
  (repeat' split) <;> simp

@[simp] theorem fireSpan_fast (s : Nat) (d : Device) :
    flagOf .fast (fireSpan s d).control = flagOf .fast d.control := by
  unfold fireSpan
  simp only
  (repeat' split) <;> simp

@[simp] theorem fireLeavesFast_fast (d : Device) :
    flagOf .fast (fireLeavesFast d).control = flagOf .fast d.control := by
  unfold fireLeavesFast
  (repeat' split) <;> simp

@[simp] theorem judgeAgreement_fast (d : Device) :
    flagOf .fast (judgeAgreement d).control = flagOf .fast d.control := by
  simp only [judgeAgreement, realign, adoptPosition]
  (repeat' split) <;> simp

@[simp] theorem checkWeftCode_fast (d : Device) :
    flagOf .fast (checkWeftCode d).control = flagOf .fast d.control := by
  unfold checkWeftCode
  (repeat' split) <;> simp

@[simp] theorem rosterClose_fast (d : Device) : flagOf .fast (rosterClose d).control = flagOf .fast d.control := by
  simp only [rosterClose, closeSection, closeWeft]
  (repeat' split) <;> simp

@[simp] theorem captureAndTest_fast (d : Device) :
    flagOf .fast (captureAndTest d).control = flagOf .fast d.control := by
  simp [captureAndTest, doIf_flagOf]

@[simp] theorem forwardK_fast (d : Device) : flagOf .fast (forwardK d).control = flagOf .fast d.control := by
  simp [forwardK, stringsForwardK, doIf_flagOf]

@[simp] theorem stringsForwardD_fast (d : Device) :
    flagOf .fast (stringsForwardD d).control = flagOf .fast d.control := by
  simp [stringsForwardD, doIf_flagOf]

@[simp] theorem stringsReverseK_fast (d : Device) :
    flagOf .fast (stringsReverseK d).control = flagOf .fast d.control := by
  simp [stringsReverseK, doIf_flagOf]

@[simp] theorem forwardCrossings_fast (c : Configuration) (role : Role) (a : Nat) (d : Device) :
    flagOf .fast (forwardCrossings c role a d).control = flagOf .fast d.control := by
  have hB := doIf_flagOf_of_forall (forwardB_fast c)
  have hC := doIf_flagOf_of_forall rosterClose_fast
  have hK := doIf_flagOf_of_forall forwardK_fast
  have hD := doIf_flagOf_of_forall stringsForwardD_fast
  have hAc := doIf_flagOf_of_forall arrivalClose_fast
  cases role <;> simp [forwardCrossings, forwardFa, doIf_flagOf, hB, hC, hK, hD, hAc]

@[simp] theorem reverseCrossings_fast (c : Configuration) (role : Role) (a : Nat) (d : Device) :
    flagOf .fast (reverseCrossings c role a d).control = flagOf .fast d.control := by
  cases role <;> simp [reverseCrossings, doIf_flagOf]

@[simp] theorem crossings_fast (dir : Direction) (d : Device) :
    flagOf .fast (crossings dir d).control = flagOf .fast d.control := by
  unfold crossings
  cases dir <;> (repeat' split) <;> simp

@[simp] theorem checkDistance_fast (d : Device) :
    flagOf .fast (checkDistance d).control = flagOf .fast d.control := by
  unfold checkDistance
  split <;> simp

@[simp] theorem handMotion_fast (d : Device) : flagOf .fast (handMotion d).control = flagOf .fast d.control := by
  unfold handMotion
  split <;> simp [enterReady, abandonTraining, trainerIdle]

/-- The change of speed state sets FAST where it enters FAST from another state (R10). -/
theorem handSpeed_fast (before : Speed) (done : Bool) (d : Device) :
    flagOf .fast (handSpeed before done d).control =
      (flagOf .fast d.control || (decide (before ≠ .fast) && decide (d.tracker.speed = .fast))) := by
  have hset : ∀ c : Bool, flagOf .fast (doIf c (setFlag .fast) d).control = (flagOf .fast d.control || c) := by
    intro c
    cases c <;> simp [doIf]
  unfold handSpeed
  simp only
  (repeat' split) <;> simp [doIf_flagOf, hset]

/-- A counting step sets FAST where the speed state it leaves enters FAST (R10). -/
theorem takeStep_fast (dir : Direction) (d : Device) :
    flagOf .fast (takeStep dir false d).control = (flagOf .fast d.control ||
      (decide (d.tracker.speed ≠ .fast) && decide ((stepTracker d.control.config dir d.tracker).speed = .fast))) := by
  have hturn := doIf_flagOf_of_forall turnPick_fast
  have hspeed : ∀ d', (doIf (turns dir d.tracker) turnPick d').tracker = d'.tracker := fun d' => by simp
  simp [takeStep, handStep, doIf_false, handSpeed_fast, hturn, hspeed]

end Sys2Proof.Machine
end

section
/-! SUPPORT. A fire that falls due, a computation by angle, and what becomes of the strings when FAST is left in SET (R119, R120,
R122, R131). -/

namespace Sys2Proof.Machine

/-! ## Fires that fall due (R120, R131) -/

theorem stringCount_eq {d t : Device} (hr : t.control.role = d.control.role) (hc : t.control.config = d.control.config) :
    stringCount t = stringCount d := by
  simp [stringCount, capacityOf, hr, hc]

/-- Whether a fire that falls due for the strings satisfying `p` reaches this one: PENDING and not waiting already (R131). -/
def fallsDue (p : Nat → SelString → Bool) (i : Nat) (s : SelString) : Bool :=
  decide (s.chain = .pending) && !s.waiting && p i s

theorem fallDue_eq (p : Nat → SelString → Bool) (d : Device) :
    fallDue p d =
      mapStrings (fun i s => if fallsDue p i s && !d.strings.blank then { s with waiting := true } else s)
        (fireWhere (fun i s => fallsDue p i s && readyToFire d s) d) := rfl

/-- One string as a fire that falls due leaves it: fired when ready, left in a blank pick, otherwise waiting (R131). -/
theorem fallDue_getElem? {p : Nat → SelString → Bool} {d : Device} {i : Nat} {z : SelString} (hi : i < stringCount d)
    (hz : d.strings.strings[i]? = some z) :
    (fallDue p d).strings.strings[i]? = some
      (if fallsDue p i z && !d.strings.blank then
        if readyToFire d z then fireString z else { z with waiting := true }
      else z) := by
  have hcount : stringCount (fireWhere (fun i s => fallsDue p i s && readyToFire d s) d) = stringCount d :=
    stringCount_eq (by simp) (by simp)
  rw [fallDue_eq, mapStrings_getElem?, fireWhere_getElem?, hcount, hz]
  have hfired : fallsDue p i (fireString z) = false := by simp [fallsDue, fireString]
  have hblank : readyToFire d z = true → d.strings.blank = false := by simp +contextual [readyToFire]
  by_cases hdue : fallsDue p i z = true <;> by_cases hready : readyToFire d z = true <;>
    simp_all

/-- What a fire that falls due reports to the fire timer (R120). -/
theorem fallDue_fire (p : Nat → SelString → Bool) (d : Device) :
    (fallDue p d).fire = { d.fire with
      strings := d.fire.strings.mapIdx fun i r =>
        { r with fired := r.fired || (firesByAngle d && decide (i < stringCount d) &&
            (d.strings.strings[i]?).any fun s => fallsDue p i s && readyToFire d s) } } := by
  rw [fallDue_eq]
  unfold fireWhere
  cases ha : firesByAngle d
  · have hsame : d.fire.strings.mapIdx (fun _ r => r) = d.fire.strings := by simp [List.mapIdx_eq_zipIdx_map]
    simp [doIf, hsame]
  · simp only [mapStrings_frame, doIf_true, reportFired, onFire_fire, Bool.true_and]
    congr
    funext i r
    by_cases h : (decide (i < stringCount d) &&
        (d.strings.strings[i]?).any fun s => fallsDue p i s && readyToFire d s) = true <;> simp [h]

/-! ## The computation by angle (R119) -/

/-- Out of FAST the angle handed is W (R119). -/
theorem firingAt_byAngle (c : Configuration) (held : Bool) (i : Nat) (r : FireString) {d : Device}
    (h : d.tracker.speed ≠ .fast) : firingAt d c held i r = byAngle c := by
  unfold firingAt firingOf
  split <;> simp [h]

theorem computeStrings_fire (c : Configuration) (held : Bool) (d : Device) :
    (computeStrings c held d).fire = { d.fire with
      strings := d.fire.strings.mapIdx fun i t =>
        if unfired d i then withFiring (firingAt d c held i t) t else t } := by
  simp [computeStrings]

/-- The computation hands its angle to each string not reported as fired (R119, R131). -/
theorem computeStrings_getElem? {c : Configuration} {held : Bool} {d : Device} {i : Nat} {r : FireString} {z : SelString}
    (hi : i < stringCount d) (hr : d.fire.strings[i]? = some r) (hf : r.fired = false)
    (hz : d.strings.strings[i]? = some z) :
    (computeStrings c held d).strings.strings[i]? = some (handString (firingAt d c held i r).angle z) := by
  simp only [computeStrings, doIf_strings, setFlag_frame, mapStrings_getElem?, onFire_frame, hz, Option.map_some]
  have hcount : ∀ f, stringCount (onFire f d) = stringCount d := fun f => stringCount_eq (by simp) (by simp)
  simp [hcount, hi, hr, hf]

@[simp] theorem computeStrings_blank (c : Configuration) (held : Bool) (d : Device) :
    (computeStrings c held d).strings.blank = d.strings.blank := by
  simp [computeStrings, mapStrings]

@[simp] theorem mayEnergise_computeStrings (c : Configuration) (held : Bool) (d : Device) :
    mayEnergise (computeStrings c held d) = mayEnergise d := by
  simp [mayEnergise]

@[simp] theorem readyToFire_computeStrings (c : Configuration) (held : Bool) (d : Device) (s : SelString) :
    readyToFire (computeStrings c held d) s = readyToFire d s := by
  simp [readyToFire]

@[simp] theorem firesByAngle_computeStrings (c : Configuration) (held : Bool) (d : Device) :
    firesByAngle (computeStrings c held d) = firesByAngle d := by
  simp [firesByAngle, inWeave]

@[simp] theorem stringCount_computeStrings (c : Configuration) (held : Bool) (d : Device) :
    stringCount (computeStrings c held d) = stringCount d := stringCount_eq (by simp) (by simp)

/-! ## FAST left in SET (R119, R122) -/

theorem recompute_strings_length (c : Configuration) (d : Device) :
    (recompute c d).strings.strings.length = d.strings.strings.length := by
  simp [recompute, firePassed, fallDue_eq, fireWhere, mapStrings, computeStrings]

/-- A recomputation out of FAST hands W to the fire timer's record of a string not yet fired, and reports its fire (R119, R120). -/
theorem recompute_fire_getElem? (c : Configuration) {d : Device} {i : Nat} {r : FireString} (hi : i < stringCount d)
    (hspeed : d.tracker.speed ≠ .fast) (hr : d.fire.strings[i]? = some r) (hf : r.fired = false) :
    (recompute c d).fire.strings[i]? = some { withFiring (byAngle c) r with
      fired := firesByAngle d && ((computeStrings c false d).strings.strings[i]?).any fun s =>
        fallsDue (fun _ s => s.fireAngle.any fun f => inArc d.tracker.angle f c.k) i s && readyToFire d s } := by
  have hunfired : unfired d i = true := by simp [unfired, hi, hr, hf]
  simp [recompute, firePassed, fallDue_fire, computeStrings_fire, hr, hunfired, firingAt_byAngle c false i r hspeed, hi, hf,
    withFiring]

/-- A string reported as fired is left alone by a recomputation (R119). -/
theorem recompute_fire_of_fired (c : Configuration) {d : Device} {i : Nat} {r : FireString}
    (hr : d.fire.strings[i]? = some r) (hf : r.fired = true) : (recompute c d).fire.strings[i]? = some r := by
  cases r
  simp_all [recompute, firePassed, fallDue_fire, computeStrings_fire, unfired]

/-- A recomputation out of FAST gives a PENDING string W, and makes its fire due where W has been passed (R119, R120, R131). -/
theorem recompute_getElem? (c : Configuration) {d : Device} {i : Nat} {r : FireString} {z : SelString}
    (hi : i < stringCount d) (hspeed : d.tracker.speed ≠ .fast) (hr : d.fire.strings[i]? = some r) (hf : r.fired = false)
    (hz : d.strings.strings[i]? = some z) (hpending : z.chain = .pending) (hwaiting : z.waiting = false) :
    (computeStrings c false d).strings.strings[i]? = some { z with fireAngle := some c.w } ∧
    (recompute c d).strings.strings[i]? = some
      (if inArc d.tracker.angle c.w c.k && !d.strings.blank then
        if readyToFire d z then fireString { z with fireAngle := some c.w }
        else { z with fireAngle := some c.w, waiting := true }
      else { z with fireAngle := some c.w }) := by
  have hhanded : (computeStrings c false d).strings.strings[i]? = some { z with fireAngle := some c.w } := by
    rw [computeStrings_getElem? hi hr hf hz, firingAt_byAngle c false i r hspeed]
    simp [handString, hpending, byAngle]
  refine ⟨hhanded, ?_⟩
  rw [recompute, firePassed, fallDue_getElem? (by simpa using hi) hhanded]
  simp [fallsDue, hpending, hwaiting, readyToFire]

/-- A recomputation out of FAST in WEAVE hands W, and fires it where it has been passed (R119, R120, R122; log 47). -/
theorem recompute_firesByW (c : Configuration) {d : Device} (hphase : d.fire.phase = .set)
    (hspeed : d.tracker.speed ≠ .fast) (hweave : d.control.state = .weave) :
    FiresByW c d.tracker.angle d (recompute c d) := by
  have hfire : (recompute c d).fire = _ := fallDue_fire _ _
  refine ⟨?_, ?_, ?_, recompute_strings_length c d, fun i r hi hr => ⟨recompute_fire_of_fired c hr, fun hf => ⟨?_, ?_⟩⟩⟩
  · rw [hfire, computeStrings_fire]; exact hphase
  · rw [hfire, computeStrings_fire]
  · rw [hfire, computeStrings_fire]; simp
  · exact ⟨_, recompute_fire_getElem? c hi hspeed hr hf, rfl, rfl, rfl⟩
  intro z hz hpending hdrive hwaiting
  obtain ⟨hhanded, hleft⟩ := recompute_getElem? c hi hspeed hr hf hz hpending hwaiting
  refine ⟨fun hnot => ?_, fun hpassed hblank hunready => ?_, fun hpassed hblank hpattern hpower => ⟨?_, fun hmode => ?_⟩⟩
  · rw [hleft]
    rcases hnot with h | h <;> simp [h]
  · have hready : readyToFire d z = false := by
      rcases hunready with h | h <;> simp [readyToFire, mayEnergise, h]
    simp [hleft, hpassed, hblank, hready]
  · have hready : readyToFire d z = true := by simp [readyToFire, mayEnergise, hpattern, hblank, hpower, hweave]
    simp [hleft, hpassed, hblank, hready, fireString, hwaiting]
  · have hangle : firesByAngle d = true := by
      rcases hmode with h | h <;> simp [firesByAngle, h, inWeave, hweave]
    simp [recompute_fire_getElem? c hi hspeed hr hf, hhanded, hangle, fallsDue, hpending, hwaiting, hpassed,
      readyToFire, mayEnergise, hpattern, hblank, hpower, hweave]

/-- What becomes of a station depends on its fire timer and string driver alone. -/
theorem FiresByW.congr {c : Configuration} {x : Nat} {d d' t t' : Device} (h : FiresByW c x d t)
    (hfire : d'.fire = d.fire) (hstrings : d'.strings = d.strings) (hcount : stringCount d' = stringCount d)
    (hfire' : t'.fire = t.fire) (hstrings' : t'.strings = t.strings) : FiresByW c x d' t' := by
  simpa only [FiresByW, hfire, hstrings, hcount, hfire', hstrings'] using h

/-- FAST left in SET for the tracker `f` leaves, in WEAVE (R122). -/
theorem fireLeavesFast_firesByW {f : Tracker → Tracker} {c : Configuration} {d : Device}
    (hc : d.control.config = some c) (hphase : d.fire.phase = .set) (hweave : d.control.state = .weave)
    (hspeed : (f d.tracker).speed ≠ .fast) :
    FiresByW c (f d.tracker).angle d (fireLeavesFast (onTracker f d)) := by
  have hleave : fireLeavesFast (onTracker f d) = recompute c (onTracker f d) := by
    simp [fireLeavesFast, hc, hphase]
  rw [hleave]
  exact (recompute_firesByW c (d := onTracker f d) hphase hspeed hweave).congr rfl rfl rfl rfl rfl

end Sys2Proof.Machine
end

section
/-! SUPPORT. The index edge, the index distance and the stall (R3 to R5, R11), with the dwell test (R127). -/

namespace Sys2Proof.Machine

/-! ## The index (R3 to R5, R48) -/

theorem closeGuard_seq (d : Device) : (closeGuard d).seq = { d.seq with guardOpen := false } := rfl

/-- Two unsettled spans, and RUN or FAST falls to CREEP (R3, R4, R9). -/
theorem unsettle_eq (t : Tracker) :
    unsettle t = { t with unsettled := 2, speed := if t.speed = .stalled then .stalled else .creep } := by
  cases hs : t.speed <;> simp [unsettle, slowed, hs]

theorem unsettle_not_fast (t : Tracker) : (unsettle t).speed ≠ .fast := by
  rw [unsettle_eq]
  simp only
  split <;> decide

theorem unsettling_tracker (f : Tracker → Tracker) (d : Device) : (unsettling f d).tracker = unsettle (f d.tracker) := by
  rw [unsettling, doIf_tracker _ _ _ (fireLeavesFast_frame _).1, onTracker_tracker]

/-- A change that sets two unsettled spans leaves FAST (R122). -/
theorem unsettling_firesByW (f : Tracker → Tracker) {c : Configuration} {d : Device} (hc : d.control.config = some c)
    (hspeed : d.tracker.speed = .fast) (hphase : d.fire.phase = .set) (hweave : d.control.state = .weave) :
    FiresByW c (f d.tracker).angle d (unsettling f d) := by
  rw [unsettling, hspeed]
  exact fireLeavesFast_firesByW (f := fun t => unsettle (f t)) hc hphase hweave (unsettle_not_fast _)

/-- The counter set to I with the distance begun anew (R4). -/
def corrected (i : Nat) (t : Tracker) : Tracker := { t with indexDist := 0, angle := i }

theorem checkIndex_exact {i : Nat} {d : Device} (h : indexError i d.tracker.angle = 0) :
    checkIndex i d = onTracker (fun t => { t with indexDist := 0 }) d := by
  simp [checkIndex, h]

theorem checkIndex_near {i : Nat} {d : Device} (h : indexError i d.tracker.angle = 1 ∨ indexError i d.tracker.angle = 2) :
    checkIndex i d = closeGuard (onTracker (corrected i) d) := by
  rcases h with h | h <;> simp only [checkIndex, h] <;> rfl

/-- An error above 2 is ANGLE SLIP (R4). -/
theorem checkIndex_slip {i : Nat} {d : Device} (h : 2 < indexError i d.tracker.angle) :
    checkIndex i d = ownHold (setFlag .angleSlip (closeGuard (unsettling (corrected i) d))) := by
  have hzero : indexError i d.tracker.angle ≠ 0 := by omega
  simp only [checkIndex, if_neg hzero, if_neg (Nat.not_le.mpr h)]
  rfl

theorem takeIndexEdge_reference {c : Configuration} {d : Device} (hc : d.control.config = some c)
    (hr : d.tracker.referenced = false) : takeIndexEdge d = reference c.index d := by
  simp [takeIndexEdge, hc, hr]

theorem takeIndexEdge_check {c : Configuration} {d : Device} (hc : d.control.config = some c)
    (hr : d.tracker.referenced = true) : takeIndexEdge d = checkIndex c.index d := by
  simp [takeIndexEdge, hc, hr]

/-- Two revolutions without an index edge are INDEX MISSING (R5). -/
theorem checkDistance_missing {d : Device} (hr : d.tracker.referenced = true) (hdist : 8256 ≤ d.tracker.indexDist.natAbs) :
    checkDistance d = ownHold (setFlag .indexMissing (closeGuard
      (onTracker (fun t => { t with referenced := false, indexDist := 0 }) d))) := by
  simp [checkDistance, hr, hdist]

/-- A step that reaches the limit of the index distance, either way. -/
theorem step_to_limit {p q : BitVec 2} {t : Tracker} (hr : t.referenced = true)
    (h : (q = p + 1#2 ∧ 8255 ≤ t.indexDist) ∨ (q = p - 1#2 ∧ t.indexDist ≤ -8255)) :
    ∃ dir, q = stepPhase dir p ∧ 8256 ≤ (stepDistance dir t).natAbs := by
  rcases h with ⟨hq, h⟩ | ⟨hq, h⟩
  · refine ⟨.forward, hq, ?_⟩
    simp only [stepDistance, hr, if_true]
    omega
  · refine ⟨.reverse, hq, ?_⟩
    simp only [stepDistance, hr, if_true]
    omega

/-- A step to the limit of the index distance (R5, R48): what INDEX MISSING leaves. -/
theorem takeStep_missing {dir : Direction} {d : Device} (hr : d.tracker.referenced = true)
    (hdist : 8256 ≤ (stepDistance dir d.tracker).natAbs) :
    (takeStep dir false d).tracker.referenced = false ∧ (takeStep dir false d).tracker.indexDist = 0 ∧
    (takeStep dir false d).seq.guardOpen = false ∧
    flagOf .indexMissing (takeStep dir false d).control = true ∧
    (d.control.state = .weave → (takeStep dir false d).seq.void = true) := by
  obtain ⟨x, hstep, htracker, hweave⟩ := takeStep_ends_with_checkDistance dir d
  rw [hstep, checkDistance_missing (by simpa [htracker] using hr) (by simpa [htracker] using hdist)]
  refine ⟨by simp, by simp, ?_, by simp, fun h => ?_⟩
  · simp [ownHold_seq, closeGuard_seq]
  · simp [ownHold_seq, hweave h]



/-! ## The stall (R11) -/

theorem exec_stallExpiry {s : State} (hp : s.dev.control.powered = true) :
    exec .stallExpiry s = .next { s with dev := stalls s.dev } := completed_powered hp

theorem exec_stationarySecond {s : State} (hp : s.dev.control.powered = true) :
    exec .stationarySecond s = .next { s with dev := stationaryRises s.dev } := completed_powered hp

/-- The tracker at the stall expiry (R11). -/
def stalledTracker (t : Tracker) : Tracker :=
  { t with speed := .stalled, spanCounts := none, unsettled := 2, stationary := 0, secondTimer := 0 }

theorem stalls_moving {d : Device} (hs : d.tracker.speed ≠ .stalled) :
    stalls d = doIf (decide (d.tracker.speed = .fast)) fireLeavesFast (onTracker stalledTracker d) := by
  rw [stalls, if_neg hs]
  rfl

theorem stalls_tracker {d : Device} (hs : d.tracker.speed ≠ .stalled) : (stalls d).tracker = stalledTracker d.tracker := by
  rw [stalls_moving hs, doIf_tracker _ _ _ (fireLeavesFast_frame _).1, onTracker_tracker]

theorem doIf_of_fixed {c : Bool} {f : Device → Device} {d : Device} (h : c = true → f d = d) : doIf c f d = d := by
  cases c
  · rfl
  · exact h rfl

/-- Leaving FAST does nothing outside SET (R122). -/
theorem fireLeavesFast_of_not_set {d : Device} (h : d.fire.phase ≠ .set) : fireLeavesFast d = d := by
  unfold fireLeavesFast
  split <;> simp [h]

/-- The stationary second in STALLED, before the dwell test (R11). -/
def secondPassed (t : Tracker) : Tracker := { t with stationary := min (t.stationary + 1) 600, secondTimer := 0 }

theorem stationaryRises_stalled {d : Device} (hs : d.tracker.speed = .stalled) :
    stationaryRises d = dwellTest (onTracker secondPassed d) := by
  rw [stationaryRises, if_pos hs]
  rfl

/-- The dwell test (R127): in READY and WEAVE, with the dwell time reached, string power goes OFF. -/
theorem dwellTest_eq (d : Device) :
    dwellTest d =
      if ((d.control.state = .ready ∨ d.control.state = .weave) ∧ dwellDue d = true) ∧ d.strings.power ≠ .off then powerOff d
      else d := by
  simp [dwellTest, dwellDue, and_assoc]

theorem dwellTest_power {d : Device} (hstate : d.control.state = .ready ∨ d.control.state = .weave)
    (hdue : dwellDue d = true) : (dwellTest d).strings.power = .off := by
  rw [dwellTest_eq]
  by_cases hpower : d.strings.power = .off
  · simp [hpower]
  · simp [hstate, hdue, hpower, powerOff_strings]

/-- Outside READY and WEAVE, or short of the dwell time, the dwell test does nothing (R127). -/
theorem dwellTest_idle {d : Device}
    (h : (d.control.state ≠ .ready ∧ d.control.state ≠ .weave) ∨ dwellDue d = false) : dwellTest d = d := by
  rw [dwellTest_eq, if_neg]
  rintro ⟨⟨hstate, hdue⟩, -⟩
  rcases h with ⟨hready, hweave⟩ | hnot
  · exact hstate.elim hready hweave
  · simp [hdue] at hnot

/-- The dwell test touches the strings alone (R127, R128). -/
theorem dwellTest_strings_only (d : Device) : dwellTest d = { d with strings := (dwellTest d).strings } := by
  rcases dwellTest_cases d with e | e <;> rw [e]
  rfl

@[simp] theorem dwellDue_dwellTest (d : Device) : dwellDue (dwellTest d) = dwellDue d := by
  simp [dwellDue]

end Sys2Proof.Machine
end

section
/-! SUPPORT. The line over a lapse and over one bit time (R74, R84), the idle tick (log 2) and the encoder glitch (R2). -/

namespace Sys2Proof.Machine

/-! ## The line over a lapse (R74; log 7) -/

@[simp] theorem pass_line (p : Lapse) (d : Device) : (pass p d).line = (elapse p.ticks p.line d).line := by
  unfold pass
  (repeat' split) <;> simp

@[simp] theorem bitTimes_even (n : Nat) : bitTimes false (2 * n) = (n, false) := by
  simp [bitTimes]

/-- Whole bit times on a line that keeps no half one. -/
theorem elapseRuns_even {l : Line} (n : Nat) (others : List LineRun) (h : l.halfBit = false) :
    elapseRuns (2 * n) others l = { measureLine n (pulseBits (2 * n) l) others l with halfBit := false } := by
  simp [elapseRuns, h]

/-- While another node drives the line the dominant run goes on, and nothing else changes. -/
theorem measureLine_othersDrive {l : Line} {n k : Nat} (pulse : Nat) (htx : l.tx = .idle) (hn : 0 < n) (hk : n ≤ k) :
    measureLine n pulse [.dominant k] l =
      { l with recessiveRun := 0, dominantRun := min (l.dominantRun + n) 2001 } := by
  simp [measureLine, htx, takeRuns, measureRuns, measureRun, hn.ne', Nat.not_lt.mpr hk]

/-- While this station's pulse is driven the dominant run goes on whatever the other nodes do (R86). -/
theorem measureLine_ownPulse {l : Line} {n e pulse : Nat} (others : List LineRun) (htx : l.tx = .pulse e) (hn : 0 < n)
    (hpulse : n ≤ pulse) :
    measureLine n pulse others l = { l with recessiveRun := 0, dominantRun := min (l.dominantRun + n) 2001 } := by
  simp [measureLine, htx, takeRuns, measureRuns, measureRun, hn.ne', Nat.not_lt.mpr hpulse]

/-- A pulse short of its end is driven for all of a lapse that does not reach it (R86). -/
theorem pulseBits_even {l : Line} {n e : Nat} (htx : l.tx = .pulse e) (hend : e + 2 * n ≤ 64) (h : l.halfBit = false) :
    pulseBits (2 * n) l = n := by
  have hrun : runTimer pulseTicks (2 * n) e - e = 2 * n := by
    simp only [runTimer, pulseTicks]
    omega
  simp [pulseBits, htx, hrun, h]

/-! ## One bit time (R74, R84) -/

/-- In no bit time the line is as it was. -/
@[simp] theorem measureLine_zero (pulse : Nat) (others : List LineRun) (l : Line) : measureLine 0 pulse others l = l := by
  have htake : ∀ rs, measureRuns (takeRuns 0 rs) l = l := by
    intro rs
    rcases rs with _ | ⟨⟨k⟩ | ⟨k⟩, rs⟩ <;> simp [takeRuns, measureRuns, measureRun]
  unfold measureLine
  split
  · exact htake _
  · exact htake _
  · cases bitsToSend _ l <;> simp [htake, sendBits]

/-- The line over one bit time, dominant or recessive. -/
def bitRun (dominant : Bool) : LineRun := if dominant then .dominant 1 else .recessive 1

/-- What the other nodes do in a tick (log 7). -/
def othersDo (dominant : Bool) : List LineRun := if dominant then [.dominant 1] else []

/-- This station drives the line dominant: its pulse, or a dominant bit of its frame (R84, R86). -/
def ownDrive (l : Line) : Prop :=
  (∃ n, l.tx = .pulse n ∧ n < 64) ∨
    (∃ slot chars, l.tx = .sending slot chars ∧ l.held = false ∧
      ((chars.map soundChar).flatMap charBits)[l.sentBits]? = some false)

theorem measureRuns_othersDo (o : Bool) (l : Line) :
    measureRuns (takeRuns 1 (othersDo o)) l = measureRun l (bitRun o) := by
  cases o <;> simp [othersDo, bitRun, takeRuns, measureRuns]

theorem measureLine_bit_pulse {l : Line} {n : Nat} (htx : l.tx = .pulse n) (hhalf : l.halfBit = true) (o : Bool) :
    measureLine 1 (pulseBits 1 l) (othersDo o) l = measureRun l (bitRun (decide (n < 64) || o)) := by
  by_cases hn : n < 64
  · have hrun : runTimer pulseTicks 1 n - n = 1 := by simp only [runTimer, pulseTicks]; omega
    simp [measureLine, htx, pulseBits, hhalf, hrun, bitTimes, takeRuns, measureRuns, hn, bitRun]
  · have hrun : runTimer pulseTicks 1 n - n = 0 := by simp only [runTimer, pulseTicks]; omega
    cases o <;> simp [measureLine, htx, pulseBits, hhalf, hrun, bitTimes, takeRuns, measureRuns, hn, bitRun, othersDo,
      dropRuns, measureRun]

/-- A bit of this station's frame passes, or is held dominant by another node (R84). -/
theorem measureLine_bit_sending {l : Line} {slot : SlotName} {chars : List Byte} {b : Bool} (pulse : Nat)
    (htx : l.tx = .sending slot chars) (hheld : l.held = false)
    (hb : ((chars.map soundChar).flatMap charBits)[l.sentBits]? = some b) (o : Bool) :
    measureLine 1 pulse (othersDo o) l =
      { measureRun l (bitRun (!b || o)) with
        held := b && o, sentBits := if b && o then l.sentBits else l.sentBits + 1 } := by
  obtain ⟨rest, hbits⟩ : ∃ rest, bitsToSend chars l = b :: rest := by
    rw [List.getElem?_eq_some_iff] at hb
    obtain ⟨hlt, hb⟩ := hb
    exact ⟨_, by rw [bitsToSend, List.drop_eq_getElem_cons hlt, hb]⟩
  have hothers : othersDominant (othersDo o) = o := by cases o <;> rfl
  simp only [measureLine, htx, hheld, hbits, sendBits, hothers]
  cases b <;> cases o <;> simp [bitRun, measureRuns_othersDo, measureRun, hheld, htx]

theorem measureLine_bit_sent {l : Line} {slot : SlotName} {chars : List Byte} (pulse : Nat)
    (htx : l.tx = .sending slot chars)
    (h : l.held = true ∨ ((chars.map soundChar).flatMap charBits)[l.sentBits]? = none) (o : Bool) :
    measureLine 1 pulse (othersDo o) l = measureRun l (bitRun o) := by
  rw [← measureRuns_othersDo]
  rcases h with h | h
  · simp [measureLine, htx, h]
  · have hbits : bitsToSend chars l = [] := List.drop_eq_nil_of_le (List.getElem?_eq_none_iff.mp h)
    simp [measureLine, htx, hbits, sendBits]

theorem measureRun_keeps_sent (l : Line) (r : LineRun) :
    { measureRun l r with held := l.held, sentBits := l.sentBits } = measureRun l r := by
  have hheld : (measureRun l r).held = l.held := by simp
  have hsent : (measureRun l r).sentBits = l.sentBits := by simp
  rw [← hheld, ← hsent]

theorem measureLine_bit_idle {l : Line} (pulse : Nat) (htx : l.tx = .idle) (o : Bool) :
    measureLine 1 pulse (othersDo o) l = measureRun l (bitRun o) := by
  rw [← measureRuns_othersDo]
  simp [measureLine, htx]

/-- The line over one bit time: dominant where this station or another node drives it, and a bit of this station's frame counted
where it passes (R74, R84). -/
theorem measureLine_bit {l : Line} {drives : Bool} (hhalf : l.halfBit = true) (hd : drives = true ↔ ownDrive l) (o : Bool) :
    ∃ held sentBits,
      measureLine 1 (pulseBits 1 l) (othersDo o) l =
        { measureRun l (bitRun (drives || o)) with held := held, sentBits := sentBits } ∧
      ∀ slot chars b, l.tx = .sending slot chars → l.held = false →
        ((chars.map soundChar).flatMap charBits)[l.sentBits]? = some b →
        held = (b && o) ∧ sentBits = if b && o then l.sentBits else l.sentBits + 1 := by
  cases htx : l.tx with
  | idle =>
    have hdrives : drives = false := by simpa [ownDrive, htx] using hd
    refine ⟨l.held, l.sentBits, ?_, by simp⟩
    rw [measureRun_keeps_sent, measureLine_bit_idle _ htx, hdrives, Bool.false_or]
  | pulse n =>
    have hdrives : drives = decide (n < 64) := by
      rw [Bool.eq_iff_iff, hd]
      simp [ownDrive, htx]
    refine ⟨l.held, l.sentBits, ?_, by simp⟩
    rw [measureRun_keeps_sent, measureLine_bit_pulse htx hhalf, hdrives]
  | sending slot chars =>
    cases hbit : ((chars.map soundChar).flatMap charBits)[l.sentBits]? with
    | none =>
      have hdrives : drives = false := by simpa [ownDrive, htx, hbit] using hd
      refine ⟨l.held, l.sentBits, ?_, by rintro slot' chars' b ⟨rfl, rfl⟩ - hb; simp [hbit] at hb⟩
      rw [measureRun_keeps_sent, measureLine_bit_sent _ htx (.inr hbit), hdrives, Bool.false_or]
    | some b =>
      cases hheld : l.held with
      | true =>
        have hdrives : drives = false := by simpa [ownDrive, htx, hheld] using hd
        refine ⟨l.held, l.sentBits, ?_, by simp⟩
        rw [measureRun_keeps_sent, measureLine_bit_sent _ htx (.inl hheld), hdrives, Bool.false_or]
      | false =>
        have hdrives : drives = !b := by
          cases b <;> simpa [ownDrive, htx, hheld, hbit] using hd
        refine ⟨b && o, if b && o then l.sentBits else l.sentBits + 1, ?_, ?_⟩
        · rw [measureLine_bit_sending _ htx hheld hbit, hdrives]
        · rintro slot' chars' b' ⟨rfl, rfl⟩ - hb'
          obtain rfl : b = b' := by simpa [hbit] using hb'
          exact ⟨rfl, rfl⟩

/-! ## The idle tick (log 2) -/

theorem bitTimes_one (half : Bool) : bitTimes half 1 = (if half then 1 else 0, !half) := by
  cases half <;> rfl

theorem elapseRuns_half {l : Line} (others : List LineRun) (h : l.halfBit = false) :
    elapseRuns 1 others l = { l with halfBit := true } := by
  simp [elapseRuns, bitTimes_one, h]

theorem elapseRuns_whole {l : Line} (others : List LineRun) (h : l.halfBit = true) :
    elapseRuns 1 others l = { measureLine 1 (pulseBits 1 l) others l with halfBit := false } := by
  simp [elapseRuns, bitTimes_one, h]

theorem tickDevice_line (d : Device) :
    (tickDevice d).line = { elapseRuns 1 (othersDo (Config.othersDrive d.line.idleTicks)) d.line with
      tx := elapseTx 1 d.line.tx, idleTicks := d.line.idleTicks + 1 } := by
  simp [tickDevice, elapse_line, idleLine, othersDo]

@[simp] theorem tickDevice_frame (d : Device) :
    (tickDevice d).tracker = elapseTracker 1 d.tracker ∧ (tickDevice d).seq = d.seq ∧ (tickDevice d).roster = d.roster ∧
    (tickDevice d).fire = d.fire ∧ (tickDevice d).weft = d.weft ∧ (tickDevice d).pins = d.pins ∧
    (tickDevice d).store.mem = d.store.mem ∧ (tickDevice d).store.written = d.store.written := by
  simp [tickDevice, elapse_tracker]

/-- With main power a step on an empty queue is one tick (log 2). -/
theorem step_idle {s : State} (hq : s.pending = []) (hp : s.dev.control.powered = true) :
    step s = .next ⟨tickDevice s.dev, due (tickDevice s.dev)⟩ := by
  simp [step, hq, idleTick, hp]

theorem stallExpiry_due {d : Device} (hs : d.tracker.speed ≠ .stalled) (ht : stallTicks ≤ d.tracker.spanTimer) :
    .stallExpiry ∈ due d := by
  simp [due, timersDue, dueWhen, hs, ht]

theorem stationarySecond_due {d : Device} (hs : d.tracker.speed = .stalled) (ht : secondTicks ≤ d.tracker.secondTimer) :
    .stationarySecond ∈ due d := by
  simp [due, timersDue, dueWhen, hs, ht]

/-- The line after a tick that ends a bit time (R74, R84). -/
theorem tickDevice_bit {d : Device} {drives : Bool} (hhalf : d.line.halfBit = true) (hd : drives = true ↔ ownDrive d.line) :
    ∃ held sentBits,
      (tickDevice d).line =
        { measureRun d.line (bitRun (drives || Config.othersDrive d.line.idleTicks)) with
          held := held, sentBits := sentBits, halfBit := false
          tx := elapseTx 1 d.line.tx, idleTicks := d.line.idleTicks + 1 } ∧
      ∀ slot chars b, d.line.tx = .sending slot chars → d.line.held = false →
        ((chars.map soundChar).flatMap charBits)[d.line.sentBits]? = some b →
        held = (b && Config.othersDrive d.line.idleTicks) ∧
          sentBits = if b && Config.othersDrive d.line.idleTicks then d.line.sentBits else d.line.sentBits + 1 := by
  obtain ⟨held, sentBits, hline, hsent⟩ := measureLine_bit hhalf hd (Config.othersDrive d.line.idleTicks)
  exact ⟨held, sentBits, by rw [tickDevice_line, elapseRuns_whole _ hhalf, hline], hsent⟩

/-- One recessive bit time ends the dominant run, and with it a character with a dominant stop bit (R74, R77). -/
theorem measureRun_recessive_bit (l : Line) :
    (measureRun l (bitRun false)).recessiveRun = min (l.recessiveRun + 1) 1000 ∧
    (measureRun l (bitRun false)).dominantRun = 0 ∧ (measureRun l (bitRun false)).ownPulse = false ∧
    (l.rx ≠ .awaitingRun →
      (measureRun l (bitRun false)).rx = l.rx ∧ (measureRun l (bitRun false)).counters = l.counters) ∧
    (l.rx = .awaitingRun → (measureRun l (bitRun false)).rx = .hunt ∧ (l.dominantRun < 22 →
      (measureRun l (bitRun false)).counters =
        { l.counters with parityFraming := min (l.counters.parityFraming + 1) 65535 })) := by
  rcases judgeStopBit_cases l with ⟨h, e⟩ | ⟨h, hrun, e⟩ | ⟨h, hrun, e⟩
  · simp [measureRun, bitRun, e, h]
  · simp [measureRun, bitRun, e, h, inc16, satInc]
  · simp [measureRun, bitRun, e, h, Nat.not_lt.mpr hrun]

theorem measureRun_dominant_bit (l : Line) :
    measureRun l (bitRun true) = { l with recessiveRun := 0, dominantRun := min (l.dominantRun + 1) 2001 } := by
  simp [measureRun, bitRun]

/-! ## The encoder glitch (R2) -/

theorem glitch_tracker (dt : Lapse) (d : Device) :
    (glitch dt d).tracker = { elapseTracker dt.ticks d.tracker with
      phase := d.tracker.phase + 2#2, spanCounts := none, spanTimer := 0 } := by
  simp [glitch]

theorem glitch_line (dt : Lapse) (d : Device) :
    (glitch dt d).line = { elapseRuns dt.ticks dt.line d.line with tx := elapseTx dt.ticks d.line.tx } := by
  simp [glitch, elapse_line]

theorem glitch_flags (dt : Lapse) (d : Device) :
    (glitch dt d).control.flags = d.control.flags ||| BitVec.twoPow 30 14 := by
  simp [glitch, setFlag_control, flagNumber]

theorem exec_encoderGlitch {dt : Lapse} {s : State} (hp : s.dev.control.powered = true) :
    exec (.encoderGlitch dt) s = .next { s with dev := glitch dt s.dev } := completed_powered hp

end Sys2Proof.Machine
end

section
/-! The statements about the shaft's angle and speed, settled. -/

namespace Sys2Proof.Machine

/-- Settles O4: the tracker by `takeStep_tracker`, the other blocks by the frames of a step, the index edge by `takeStep_index`. -/
theorem countingStepCounts : Obligations.CountingStepCounts := by
  unfold Obligations.CountingStepCounts
  intro a b dt sense s hp hq
  obtain ⟨dir, hd⟩ := step_of_neighbour hq
  refine ⟨_, exec_countingStep hp hd, rfl, ?_⟩
  simp only [takeStep_tracker, takeStep_frame, beforeStep_frame, beforeStep_tracker, distanceChecked_frame, stepTracker_frame,
    elapseTracker_frame, hd, true_and]
  refine ⟨fun hf => ?_, fun hr => ?_, ?_⟩
  · obtain rfl : dir = .forward := stepPhase_inj hf
    exact ⟨rfl, rfl⟩
  · obtain rfl : dir = .reverse := stepPhase_inj hr
    exact ⟨rfl, rfl⟩
  · rw [exec_countingStep hp hd, takeStep_index, exec_indexEdge (by simpa using hp)]

/-- Settles O5: the span by `stepTracker_completes`, the FAST flag by `takeStep_fast`. -/
theorem spanCompletionDecidesSpeed : Obligations.SpanCompletionDecidesSpeed := by
  unfold Obligations.SpanCompletionDecidesSpeed
  intro a b dt sense s c hp hc hs hq hcounts
  have hd := step_along hq
  refine ⟨_, exec_countingStep hp hd, rfl, ?_⟩
  obtain ⟨hspan, hcounts', htimer, hunsettled, hspeed⟩ :=
    stepTracker_completes_elapsed s.dev.control.config dt.ticks hs hcounts
  have hflag := takeStep_fast s.dev.tracker.dir (beforeStep dt sense s.dev)
  simp only [flagOf, flagNumber, beforeStep_frame, beforeStep_tracker, elapseTracker_frame] at hflag
  simp only [takeStep_tracker, beforeStep_tracker, beforeStep_frame, distanceChecked_frame, hspan, hcounts', htimer, hunsettled,
    hspeed, true_and, ← speedAfter_eq _ _ hc]
  rw [hflag, hspeed, Bool.and_comm]

/-- Settles O6: a turn by `stepTracker_turn`, the first step after a stall by `stepTracker_stalled`. -/
theorem directionChangeAndStallEnd : Obligations.DirectionChangeAndStallEnd := by
  unfold Obligations.DirectionChangeAndStallEnd
  refine ⟨fun a b dt sense s hp hq => ?_, fun a b dt sense s hp hs hq => ?_⟩
  · obtain ⟨dir, hturn, hd⟩ := step_against hq
    refine ⟨_, exec_countingStep hp hd, rfl, ?_⟩
    have h := stepTracker_turn s.dev.control.config (t := elapseTracker dt.ticks s.dev.tracker) (by simpa using hturn)
    simpa [takeStep_tracker] using h
  · refine ⟨_, exec_countingStep hp (step_along hq), rfl, ?_⟩
    have h := stepTracker_stalled s.dev.control.config (t := elapseTracker dt.ticks s.dev.tracker) (by simpa using hs)
    simpa [takeStep_tracker] using h

/-- Settles O8: an index edge by the cases of `checkIndex`, INDEX MISSING by `takeStep_missing`, FAST left in SET by
`unsettling_firesByW`. -/
theorem indexReferencesChecksAndGoesMissing : Obligations.IndexReferencesChecksAndGoesMissing := by
  unfold Obligations.IndexReferencesChecksAndGoesMissing
  refine ⟨fun s hp => ⟨fun hc => ?_, fun c hc hr => ⟨_, exec_indexEdge hp, rfl, ?_⟩⟩,
    fun s c hp hc hr => ⟨fun he => ?_, fun he => ?_, fun he => ⟨_, exec_indexEdge hp, rfl, ?_⟩⟩,
    fun a b dt sense s hp hr hq => ?_,
    fun s c hp hc hspeed hphase hweave hq => ⟨_, exec_indexEdge hp, rfl, ?_⟩⟩
  · simp [exec_indexEdge hp, takeIndexEdge, hc]
  · simp only [takeIndexEdge_reference hc hr, reference_frame]
    simp [reference, unsettling_tracker, unsettle_eq]
  · rw [exec_indexEdge hp, takeIndexEdge_check hc hr, checkIndex_exact he]
    rfl
  · rw [exec_indexEdge hp, takeIndexEdge_check hc hr, checkIndex_near he]
    rfl
  · have hflag : flagOf .angleSlip (takeIndexEdge s.dev).control = true := by
      simp [takeIndexEdge_check hc hr, checkIndex_slip he]
    refine ⟨?_, ?_, hflag, by simp⟩
    · simp [takeIndexEdge_check hc hr, checkIndex_slip he, unsettling_tracker, unsettle_eq, corrected]
    · simp [takeIndexEdge_check hc hr, checkIndex_slip he, ownHold_seq, closeGuard_seq]
  · obtain ⟨dir, hd, hdist⟩ := step_to_limit hr hq
    refine ⟨_, exec_countingStep hp hd, rfl, ?_⟩
    have hdist' : 8256 ≤ (stepDistance dir (beforeStep dt sense s.dev).tracker).natAbs := by
      simpa [stepDistance] using hdist
    obtain ⟨href, hzero, hguard, hflag, hvoid⟩ := takeStep_missing (d := beforeStep dt sense s.dev) (by simpa using hr) hdist'
    exact ⟨href, hzero, by simp [takeStep_tracker], hguard, hflag, by simpa using hvoid⟩
  · cases hr : s.dev.tracker.referenced with
    | false =>
      rw [takeIndexEdge_reference hc hr]
      exact unsettling_firesByW _ hc hspeed hphase hweave
    | true =>
      have he : 2 < indexError c.index s.dev.tracker.angle := by simpa [hr] using hq
      simp only [takeIndexEdge_check hc hr, checkIndex_slip he]
      exact (unsettling_firesByW (corrected c.index) hc hspeed hphase hweave).congr rfl rfl rfl (by simp) (by simp)

/-- Settles O2: one tick at the tracker and at the line, by whether it ends a bit time. -/
theorem idleStepLetsATickPass : Obligations.IdleStepLetsATickPass := by
  unfold Obligations.IdleStepLetsATickPass
  intro s hq hp
  refine ⟨_, step_idle hq hp, rfl, by simp, by simp, by simp, by simp, by simp, by simp, by simp, ?_, ?_, ?_, ?_, ?_, ?_, ?_⟩
  · simp [tickDevice_line]
  · simp [tickDevice_line, elapseRuns, bitTimes_one]
  · intro hhalf
    simp [tickDevice_line, elapseRuns_half _ hhalf]
  · intro drives hhalf hd
    obtain ⟨held, sentBits, hline, -⟩ := tickDevice_bit hhalf hd
    simp only [hline]
    refine ⟨fun h => ?_, fun h => ?_⟩ <;> rw [h]
    · simp [measureRun_dominant_bit]
    · exact measureRun_recessive_bit s.dev.line
  · intro slot chars b htx hhalf hheld hb
    obtain ⟨held, sentBits, hline, hsent⟩ := tickDevice_bit (drives := !b) hhalf (by simp [ownDrive, htx, hheld, hb])
    simp only [hline]
    obtain ⟨rfl, rfl⟩ := hsent slot chars b htx hheld hb
    exact ⟨fun h => by simp [h], fun h => by simp [h]⟩
  · intro hs ht
    refine stallExpiry_due (by simpa using hs) ?_
    simp only [tickDevice_frame, elapseTracker, if_neg hs, runTimer, stallTicks]
    omega
  · intro hs ht
    refine stationarySecond_due (by simpa using hs) ?_
    simp only [tickDevice_frame, elapseTracker, if_pos hs, runTimer, secondTicks]
    omega

/-- Settles O7: the lapse at the tracker and at the line, and the glitch's own changes. -/
theorem encoderGlitchLosesNoAngle : Obligations.EncoderGlitchLosesNoAngle := by
  unfold Obligations.EncoderGlitchLosesNoAngle
  intro dt s hp
  refine ⟨_, exec_encoderGlitch hp, rfl, ?_⟩
  simp only [glitch_tracker, glitch_flags, glitch_frame, elapseTracker_frame, true_and]
  refine ⟨by simp [glitch], by simp [glitch], by simp [glitch], ?_, ?_⟩
  · intro n k hdt hn hk hhalf htx
    rw [glitch_line, hdt, elapseRuns_even n _ hhalf]
    refine ⟨fun hline => ?_, fun hline => ?_⟩ <;> rw [hline]
    · simp [measureLine_othersDrive _ htx hn hk]
    · simp [measureLine_recessive n _ s.dev.line htx hn.ne']
  · intro n e hdt hn hend hhalf htx
    rw [glitch_line, hdt, elapseRuns_even n _ hhalf, measureLine_ownPulse _ htx hn (pulseBits_even htx hend hhalf).ge]
    simp [htx, elapseTx, runTimer, pulseTicks, hend]

/-- Settles O9: the stall by `fireLeavesFast_firesByW`, the second by the dwell test. -/
theorem stallAndStationarySeconds : Obligations.StallAndStationarySeconds := by
  unfold Obligations.StallAndStationarySeconds
  intro s hp
  refine ⟨fun hs => ?_, fun hs => ⟨_, exec_stallExpiry hp, rfl, ?_⟩, fun hs => ?_, fun hs =>
    ⟨_, exec_stationarySecond hp, rfl, ?_⟩⟩
  · rw [exec_stallExpiry hp, stalls, if_pos hs]
  · refine ⟨stalls_tracker hs, fun hnot => ?_, fun c hfast hset hc hweave => ?_⟩
    · simp only [stalls_moving hs]
      rw [doIf_of_fixed fun hfast => ?_]
      · rfl
      · have hset : s.dev.fire.phase ≠ .set := fun h => hnot ⟨by simpa using hfast, h⟩
        exact fireLeavesFast_of_not_set hset
    · simp only [stalls_moving hs, hfast, decide_true, doIf_true]
      exact fireLeavesFast_firesByW hc hset hweave (by simp [stalledTracker])
  · rw [exec_stationarySecond hp, stationaryRises, if_neg hs]
  · simp only [stationaryRises_stalled hs, dwellDue_dwellTest]
    refine ⟨dwellTest_strings_only _, fun hstate hdue => dwellTest_power hstate hdue, fun hr hw => ?_, fun hdue => ?_⟩
    · rw [dwellTest_idle (d := onTracker secondPassed s.dev) (.inl ⟨hr, hw⟩)]
      rfl
    · rw [dwellTest_idle (.inr hdue)]
      rfl

end Sys2Proof.Machine
end

section
/-! SUPPORT. The pick programme (ch. 2): what an advance does at each place of a run, when a position is valid, and the operations of the
sequencer that move the position or the history, which leave them valid (R20 to R24, R40, R49, R52, R105). -/

namespace Sys2Proof.Machine

/-! ## Runs (R16, R17) -/

/-- The `i`-th row that one iteration of a run weaves, counted from 0 (R17). -/
def rowOf (r : Run) (i : Nat) : Nat := if ascending r then r.fromRow + i else r.fromRow - i

theorem runRows_getElem? (r : Run) (i : Nat) : (runRows r)[i]? = if i < runLength r then some (rowOf r i) else none := by
  by_cases h : i < runLength r <;> simp [runRows, rowOf, h]

theorem runLength_pos (r : Run) : 0 < runLength r := by
  unfold runLength
  split <;> omega

theorem inRange_iff (r : Run) (row : Nat) :
    inRange r row = true ↔ r.fromRow ≤ row ∧ row ≤ r.toRow ∨ r.toRow ≤ row ∧ row ≤ r.fromRow := by
  simp [inRange]

theorem inRange_fromRow (r : Run) : inRange r r.fromRow = true := by
  rw [inRange_iff]
  omega

/-- Of the rows of an iteration the last one alone is the to-row. -/
theorem rowOf_eq_toRow {r : Run} {i : Nat} (h : i < runLength r) : rowOf r i = r.toRow ↔ i + 1 = runLength r := by
  simp only [runLength, rowOf, ascending, decide_eq_true_eq] at h ⊢
  by_cases ha : r.fromRow ≤ r.toRow
  · simp only [if_pos ha] at h ⊢
    omega
  · simp only [if_neg ha] at h ⊢
    omega

/-- Short of the to-row the row steps to the next one of the run's order (R22). -/
theorem rowOf_succ (r : Run) (i : Nat) :
    (if ascending r then rowOf r i + 1 else rowOf r i - 1) = rowOf r (i + 1) := by
  simp only [rowOf]
  split <;> omega

/-! ## The advance, by the place in the run (R22 to R25) -/

theorem advance_of_not_toRow {runs : List (Option Run)} {p : Position} {r : Run} (hr : runAt runs p.run = some r)
    (h : p.row ≠ r.toRow) :
    advance runs p = { p with row := if ascending r then p.row + 1 else p.row - 1, piece := nextPiece p.piece } := by
  simp [advance, hr, h]

theorem advance_of_iteration_lt {runs : List (Option Run)} {p : Position} {r : Run} (hr : runAt runs p.run = some r)
    (h : p.row = r.toRow) (hi : p.iteration < r.count) :
    advance runs p = { p with iteration := p.iteration + 1, row := r.fromRow, piece := nextPiece p.piece } := by
  simp [advance, hr, h, hi]

theorem advance_of_last {runs : List (Option Run)} {p : Position} {r r' : Run} (hr : runAt runs p.run = some r)
    (h : p.row = r.toRow) (hi : r.count ≤ p.iteration) (hn : runAt runs r.next = some r') :
    advance runs p = ⟨r.next, 1, r'.fromRow, nextPiece p.piece⟩ := by
  simp [advance, hr, h, Nat.not_lt.mpr hi, hn]

/-- Short of the to-row the advance stays in the range of the run (R22). -/
theorem inRange_advance {r : Run} {row : Nat} (hin : inRange r row = true) (h : row ≠ r.toRow) :
    inRange r (if ascending r then row + 1 else row - 1) = true := by
  simp only [inRange_iff, ascending, decide_eq_true_eq] at *
  split <;> omega

/-- From the first row and iteration 1 the `i`-th advance inside a run stands at row `i % length` of iteration `i / length + 1`. -/
theorem advance_iterate {runs : List (Option Run)} {p : Position} {r : Run} (hr : runAt runs p.run = some r)
    (hrow : p.row = r.fromRow) (hit : p.iteration = 1) (i : Nat) (hi : i < runLength r * r.count) :
    ((advance runs)^[i] p).run = p.run ∧ ((advance runs)^[i] p).iteration = 1 + i / runLength r ∧
      ((advance runs)^[i] p).row = rowOf r (i % runLength r) := by
  have hpos := runLength_pos r
  induction i with
  | zero => simp [hrow, hit, rowOf]
  | succ i ih =>
    obtain ⟨hrun, hiter, hplace⟩ := ih (by omega)
    have hmod := Nat.mod_lt i hpos
    have hdiv := Nat.mod_add_div i (runLength r)
    rw [Function.iterate_succ_apply']
    generalize (advance runs)^[i] p = q at *
    rw [← hrun] at hr
    by_cases hlast : i % runLength r + 1 = runLength r
    · have hto : q.row = r.toRow := hplace.trans ((rowOf_eq_toRow hmod).mpr hlast)
      have hnext : (i + 1) / runLength r = i / runLength r + 1 ∧ (i + 1) % runLength r = 0 :=
        (Nat.div_mod_unique hpos).mpr ⟨by rw [Nat.mul_add]; omega, hpos⟩
      have hlt : q.iteration < r.count := by
        rw [hiter, Nat.add_comm, ← hnext.1]
        exact Nat.div_lt_of_lt_mul hi
      rw [advance_of_iteration_lt hr hto hlt, hnext.1, hnext.2]
      exact ⟨hrun, by simp only; omega, by simp [rowOf]⟩
    · have hto : q.row ≠ r.toRow := hplace ▸ (rowOf_eq_toRow hmod).not.mpr hlast
      have hnext : (i + 1) / runLength r = i / runLength r ∧ (i + 1) % runLength r = i % runLength r + 1 :=
        (Nat.div_mod_unique hpos).mpr ⟨by omega, by omega⟩
      rw [advance_of_not_toRow hr hto, hnext.1, hnext.2, hplace, rowOf_succ]
      exact ⟨hrun, hiter, rfl⟩

/-! ## Valid positions (R18, R21, R24) -/

theorem validPosition_iff (runs : List (Option Run)) (p : Position) :
    validPosition runs p = true ↔ ∃ r, runAt runs p.run = some r ∧ inRange r p.row = true ∧
      1 ≤ p.iteration ∧ p.iteration ≤ r.count ∧ p.piece ≤ 16777215 := by
  unfold validPosition
  cases runAt runs p.run <;> simp [and_assoc]

theorem some_mem_of_runAt {runs : List (Option Run)} {i : Nat} {r : Run} (h : runAt runs i = some r) : some r ∈ runs := by
  unfold runAt at h
  exact List.mem_of_getElem? (Option.join_eq_some_iff.mp h)

theorem runAt_of_some_mem {runs : List (Option Run)} {r : Run} (h : some r ∈ runs) :
    ∃ i, i < runs.length ∧ runAt runs i = some r := by
  obtain ⟨i, hi, he⟩ := List.getElem_of_mem h
  exact ⟨i, hi, by simp [runAt, hi, he]⟩

theorem runsCounted_iff (runs : List (Option Run)) : runsCounted runs = true ↔ ∀ r, some r ∈ runs → 1 ≤ r.count := by
  simp only [runsCounted, List.all_eq_true]
  refine ⟨fun h r hr => by simpa using h _ hr, fun h o ho => ?_⟩
  cases o with
  | none => rfl
  | some r => simpa using h r ho

theorem runsChained_iff (runs : List (Option Run)) :
    runsChained runs = true ↔ ∀ r, some r ∈ runs → (runAt runs r.next).isSome = true := by
  simp only [runsChained, List.all_eq_true]
  refine ⟨fun h r hr => h _ hr, fun h o ho => ?_⟩
  cases o with
  | none => rfl
  | some r => exact h r ho

theorem validPosition_piece_zero {runs : List (Option Run)} {p : Position} (h : validPosition runs p = true) :
    validPosition runs { p with piece := 0 } = true := by
  rw [validPosition_iff] at *
  obtain ⟨r, hr, hrow, hlo, hhi, -⟩ := h
  exact ⟨r, hr, hrow, hlo, hhi, Nat.zero_le _⟩

theorem nextPiece_le (n : Nat) : nextPiece n ≤ 16777215 := by
  unfold nextPiece
  omega

/-- The first row of a run in iteration 1 is a valid place (R24, R34). -/
theorem validPosition_start {runs : List (Option Run)} {i piece : Nat} {r : Run} (hc : runsCounted runs = true)
    (hr : runAt runs i = some r) (hp : piece ≤ 16777215) : validPosition runs ⟨i, 1, r.fromRow, piece⟩ = true := by
  rw [validPosition_iff]
  exact ⟨r, hr, inRange_fromRow r, le_rfl, (runsCounted_iff runs).mp hc r (some_mem_of_runAt hr), hp⟩

/-- An advance from a valid position leads to one, where every written run names a written next run (R22 to R24). -/
theorem advance_valid {runs : List (Option Run)} {p : Position} (hcounted : runsCounted runs = true)
    (hchained : runsChained runs = true) (h : validPosition runs p = true) : validPosition runs (advance runs p) = true := by
  obtain ⟨r, hr, hrow, hlo, hhi, -⟩ := (validPosition_iff runs p).mp h
  by_cases hto : p.row = r.toRow
  · by_cases hlast : p.iteration < r.count
    · rw [advance_of_iteration_lt hr hto hlast, validPosition_iff]
      exact ⟨r, hr, inRange_fromRow r, Nat.succ_pos _, hlast, nextPiece_le _⟩
    · obtain ⟨r', hr'⟩ := Option.isSome_iff_exists.mp ((runsChained_iff runs).mp hchained r (some_mem_of_runAt hr))
      rw [advance_of_last hr hto (Nat.not_lt.mp hlast) hr']
      exact validPosition_start hcounted hr' (nextPiece_le _)
  · rw [advance_of_not_toRow hr hto, validPosition_iff]
    exact ⟨r, hr, inRange_advance hrow hto, hlo, hhi, nextPiece_le _⟩

/-! ## The programme, the position and the history held (R20) -/

/-- What a programme held keeps: counted runs, each with a written next run, and every position that the sequencer holds valid. -/
structure ProgrammeValid (q : Sequencer) : Prop where
  counted : runsCounted q.runs = true
  chained : runsChained q.runs = true
  pos : validPosition q.runs q.pos = true
  history : ∀ e ∈ q.history, validPosition q.runs e.pos = true

theorem ProgrammeValid.congr {q q' : Sequencer} (h : ProgrammeValid q)
    (he : q'.runs = q.runs ∧ q'.pos = q.pos ∧ q'.history = q.history) : ProgrammeValid q' := by
  obtain ⟨hruns, hpos, hhist⟩ := he
  exact ⟨hruns ▸ h.counted, hruns ▸ h.chained, hruns ▸ hpos ▸ h.pos, hruns ▸ hhist ▸ h.history⟩

/-- A programme stays valid where the position or the history moves to valid ones. -/
theorem ProgrammeValid.move {q q' : Sequencer} (h : ProgrammeValid q) (hruns : q'.runs = q.runs)
    (hpos : validPosition q.runs q'.pos = true) (hhist : ∀ e ∈ q'.history, validPosition q.runs e.pos = true) :
    ProgrammeValid q' :=
  ⟨hruns ▸ h.counted, hruns ▸ h.chained, hruns ▸ hpos, hruns ▸ hhist⟩

theorem mem_pushHistory {x e : HistoryEntry} {l : List HistoryEntry} (h : x ∈ pushHistory e l) : x = e ∨ x ∈ l :=
  List.mem_cons.mp (List.mem_of_mem_take h)

/-- An operation that leaves the programme valid does so under a condition. -/
theorem doIf_valid {f : Device → Device} (h : ∀ {d}, ProgrammeValid d.seq → ProgrammeValid (f d).seq) (c : Bool) {d : Device}
    (hd : ProgrammeValid d.seq) : ProgrammeValid (doIf c f d).seq := by
  cases c
  · exact hd
  · exact h hd

/-! ## Boundary crossings (R40, R52, R53) -/

theorem crossPosition_valid {d : Device} (h : ProgrammeValid d.seq) : ProgrammeValid (crossPosition d).seq := by
  rw [crossPosition_seq]
  refine h.move rfl ?_ fun e he => ?_
  · dsimp only
    split
    · exact advance_valid h.counted h.chained h.pos
    · exact h.pos
  · obtain rfl | hold := mem_pushHistory he
    · exact h.pos
    · exact h.history e hold

theorem restartPiece_valid {d : Device} (h : ProgrammeValid d.seq) : ProgrammeValid (restartPiece d).seq :=
  h.move rfl (validPosition_piece_zero h.pos) h.history

theorem evaluateMatches_valid {d : Device} (h : ProgrammeValid d.seq) : ProgrammeValid (evaluateMatches d).seq := by
  refine ProgrammeValid.congr (q := (doIf (actionMatched d .pieceRestart) restartPiece d).seq) ?_ (by simp [evaluateMatches])
  exact doIf_valid restartPiece_valid _ h

theorem seqForwardB_valid {d : Device} (h : ProgrammeValid d.seq) : ProgrammeValid (seqForwardB d).seq := by
  have hcross : ProgrammeValid (doIf (decide (crossingKind d = .advance)) evaluateMatches (crossPosition d)).seq :=
    doIf_valid evaluateMatches_valid _ (crossPosition_valid h)
  exact hcross.congr (by simp [seqForwardB])

theorem reversePop_valid {e : HistoryEntry} {rest : List HistoryEntry} {d : Device} (h : ProgrammeValid d.seq)
    (hd : d.seq.history = e :: rest) : ProgrammeValid (reversePop e rest d).seq := by
  refine h.move (by simp) ?_ fun x hx => ?_
  · simpa [reversePop] using h.history e (by simp [hd])
  · exact h.history x (by simp_all [reversePop])

theorem seqReverseB_valid {d : Device} (h : ProgrammeValid d.seq) : ProgrammeValid (seqReverseB d).seq := by
  unfold seqReverseB
  cases hd : d.seq.history with
  | nil => exact h.congr (by simp [reverseExhausted, hd])
  | cons e rest => exact (reversePop_valid h hd).congr (by simp)

theorem retract_valid {e : HistoryEntry} {rest : List HistoryEntry} {d : Device} (h : ProgrammeValid d.seq)
    (hd : d.seq.history = e :: rest) : ProgrammeValid (retract e rest d).seq := by
  have he : validPosition d.seq.runs e.pos = true := h.history e (by simp [hd])
  refine h.move (by simp) (by simpa [retract] using he) fun x hx => ?_
  obtain rfl | hold := mem_pushHistory (l := rest) (e := { e with void := true, kind := .again }) (by simpa [retract] using hx)
  · exact he
  · exact h.history x (by simp [hd, hold])

theorem lineHold_valid {d : Device} (h : ProgrammeValid d.seq) : ProgrammeValid (lineHold d).seq := by
  unfold lineHold
  split
  · split
    · next hd => exact retract_valid h hd
    · exact h.congr ⟨rfl, rfl, rfl⟩
  · exact h

/-! ## The close of the pick (R105, R108) -/

theorem realign_valid {p : BeaconPos} {d : Device} (h : ProgrammeValid d.seq) : ProgrammeValid (realign p d).seq := by
  unfold realign
  dsimp only
  split
  · next hv => exact h.move (by simp) (by simpa [adoptPosition] using hv) (by simp [adoptPosition])
  · exact h.congr (by simp)

theorem judgeAgreement_valid {d : Device} (h : ProgrammeValid d.seq) : ProgrammeValid (judgeAgreement d).seq := by
  unfold judgeAgreement
  split
  · exact h.congr (by simp)
  · split
    · exact realign_valid h
    · exact h.congr (by simp)

theorem closeSection_valid {d : Device} (h : ProgrammeValid d.seq) : ProgrammeValid (closeSection d).seq := by
  have hjudged : ProgrammeValid (judgeAgreement (countMisses
      (onRoster (fun r => { r with snapshot := some (takeSnapshot d) }) (beaconIdle d)))).seq :=
    judgeAgreement_valid (h.congr (by simp))
  exact hjudged.congr (by simp [closeSection])

theorem closeWeft_valid {d : Device} (h : ProgrammeValid d.seq) : ProgrammeValid (closeWeft d).seq := by
  have hjudged : ProgrammeValid (judgeAgreement (countMisses (beaconIdle d))).seq := judgeAgreement_valid (h.congr (by simp))
  exact hjudged.congr (by simp [closeWeft])

theorem rosterClose_valid {d : Device} (h : ProgrammeValid d.seq) : ProgrammeValid (rosterClose d).seq := by
  have hd : ProgrammeValid (discardBeacon true d).seq := h.congr (by simp)
  unfold rosterClose
  dsimp only
  split
  · split
    · exact closeSection_valid hd
    · exact closeWeft_valid hd
  · exact hd

/-! ## The crossings of a step (R6) -/

theorem forwardB_valid (c : Configuration) {d : Device} (h : ProgrammeValid d.seq) : ProgrammeValid (forwardB c d).seq := by
  unfold forwardB
  split
  · exact (seqForwardB_valid h).congr (by simp)
  · exact h.congr (by simp)
  · exact h

theorem reverseB_valid {d : Device} (h : ProgrammeValid d.seq) : ProgrammeValid (reverseB d).seq := by
  unfold reverseB
  split
  · exact (seqReverseB_valid h).congr (by simp)
  · exact h

theorem forwardFa_valid {d : Device} (h : ProgrammeValid d.seq) : ProgrammeValid (forwardFa d).seq :=
  rosterClose_valid (h.congr (by simp))

theorem forwardCrossings_valid (c : Configuration) (role : Role) (a : Nat) {d : Device} (h : ProgrammeValid d.seq) :
    ProgrammeValid (forwardCrossings c role a d).seq := by
  have hB : ProgrammeValid (doIf (decide (a = guardEnd c)) forwardGuardEnd (doIf (decide (a = c.b)) (forwardB c) d)).seq :=
    (doIf_valid (forwardB_valid c) (decide (a = c.b)) h).congr (by simp)
  unfold forwardCrossings
  cases role with
  | sectionRole => exact (doIf_valid rosterClose_valid (decide (a = c.c)) hB).congr (by simp)
  | weftRole => exact (doIf_valid forwardFa_valid (decide (a = c.fa)) hB).congr (by simp)

theorem reverseCrossings_valid (c : Configuration) (role : Role) (a : Nat) {d : Device} (h : ProgrammeValid d.seq) :
    ProgrammeValid (reverseCrossings c role a d).seq := by
  have hB : ProgrammeValid (doIf (decide (a = c.b)) reverseB d).seq :=
    doIf_valid reverseB_valid _ h
  unfold reverseCrossings
  cases role <;> exact hB.congr (by simp)

theorem crossings_valid (dir : Direction) {d : Device} (h : ProgrammeValid d.seq) : ProgrammeValid (crossings dir d).seq := by
  unfold crossings
  split
  · exact h
  · split
    · cases dir
      · exact forwardCrossings_valid _ _ _ h
      · exact reverseCrossings_valid _ _ _ h
    · exact h

end Sys2Proof.Machine
end

section
/-! SUPPORT. The training run that stands in TRAIN alone, and the positions valid wherever a programme is held: the two invariants taken
apart, and the operations of the trainer, which keep both (R20, R21, R143 to R148). -/

namespace Sys2Proof.Machine

/-! ## The two invariants, taken apart -/

theorem trainingSound_iff (d : Device) :
    trainingSound d = true ↔ (d.trainer.phase ≠ .idle → d.control.state = .train) ∧
      (d.trainer.phase ≠ .idle → d.trainer.phase ≠ .waking → d.strings.power = .on) := by
  unfold trainingSound
  cases d.trainer.phase <;> simp

theorem positionSound_iff (d : Device) :
    positionSound d = true ↔ d.seq.runs.length = 64 ∧ runsCounted d.seq.runs = true ∧
      (holdsProgramme d.control.state = true → ProgrammeValid d.seq) := by
  have hvalid : runsCounted d.seq.runs = true →
      (((runsChained d.seq.runs && validPosition d.seq.runs d.seq.pos
        && d.seq.history.all fun e => validPosition d.seq.runs e.pos) = true) ↔ ProgrammeValid d.seq) := by
    intro hc
    simp only [Bool.and_eq_true, List.all_eq_true]
    exact ⟨fun ⟨⟨hchained, hpos⟩, hhist⟩ => ⟨hc, hchained, hpos, hhist⟩, fun h => ⟨⟨h.chained, h.pos⟩, h.history⟩⟩
  unfold positionSound
  cases holdsProgramme d.control.state <;> simp_all [and_assoc]

theorem trainingSound_of_idle {d : Device} (h : d.trainer.phase = .idle) : trainingSound d = true := by
  simp [trainingSound_iff, h]

/-- Outside TRAIN no training run is under way. -/
theorem trainer_idle {d : Device} (h : trainingSound d = true) (hs : d.control.state ≠ .train) : d.trainer.phase = .idle := by
  by_contra hp
  exact hs (((trainingSound_iff d).mp h).1 hp)

theorem trainingSound_congr {d t : Device} (h : trainingSound d = true) (hphase : t.trainer.phase = d.trainer.phase)
    (hstate : t.control.state = d.control.state)
    (hpower : d.control.state = .train → d.strings.power = .on → t.strings.power = .on) : trainingSound t = true := by
  rw [trainingSound_iff] at *
  rw [hphase, hstate]
  exact ⟨h.1, fun hi hw => hpower (h.1 hi) (h.2 hi hw)⟩

/-- The invariant of positions is kept where the sequencer stays valid and no programme comes to be held. -/
theorem positionSound_move {d t : Device} (h : positionSound d = true) (hruns : t.seq.runs = d.seq.runs)
    (hstate : holdsProgramme t.control.state = true → holdsProgramme d.control.state = true)
    (hvalid : ProgrammeValid d.seq → ProgrammeValid t.seq) : positionSound t = true := by
  rw [positionSound_iff] at *
  obtain ⟨hlen, hcounted, hheld⟩ := h
  exact ⟨hruns ▸ hlen, hruns ▸ hcounted, fun ht => hvalid (hheld (hstate ht))⟩

theorem positionSound_congr {d t : Device} (h : positionSound d = true)
    (he : t.seq.runs = d.seq.runs ∧ t.seq.pos = d.seq.pos ∧ t.seq.history = d.seq.history)
    (hstate : holdsProgramme t.control.state = true → holdsProgramme d.control.state = true) : positionSound t = true :=
  positionSound_move h he.1 hstate fun hd => hd.congr he

/-- Outside READY, WEAVE, TEST and TRAIN the runs alone are asked for. -/
theorem positionSound_of_not_held {d : Device} (h : holdsProgramme d.control.state = false) (hlen : d.seq.runs.length = 64)
    (hcounted : runsCounted d.seq.runs = true) : positionSound d = true := by
  rw [positionSound_iff]
  exact ⟨hlen, hcounted, by simp [h]⟩

/-- The two invariants, which every step keeps together. -/
structure HeldSound (d : Device) : Prop where
  training : trainingSound d = true
  position : positionSound d = true

/-- What leaves the programme, the station state and the training run as they are, and string power ON in TRAIN, keeps both. -/
theorem HeldSound.congr {d t : Device} (h : HeldSound d)
    (he : t.seq.runs = d.seq.runs ∧ t.seq.pos = d.seq.pos ∧ t.seq.history = d.seq.history)
    (hs : t.trainer.phase = d.trainer.phase ∧ t.control.state = d.control.state)
    (hpower : d.control.state = .train → d.strings.power = .on → t.strings.power = .on) : HeldSound t :=
  ⟨trainingSound_congr h.training hs.1 hs.2 hpower, positionSound_congr h.position he (by simp [hs.2])⟩

/-- The same where string power is left as it is. -/
theorem HeldSound.frame {d t : Device} (h : HeldSound d)
    (he : t.seq.runs = d.seq.runs ∧ t.seq.pos = d.seq.pos ∧ t.seq.history = d.seq.history)
    (hs : t.trainer.phase = d.trainer.phase ∧ t.control.state = d.control.state ∧ t.strings.power = d.strings.power) :
    HeldSound t :=
  h.congr he ⟨hs.1, hs.2.1⟩ fun _ hp => hs.2.2 ▸ hp

/-- Outside TRAIN the trainer is IDLE, and what leaves it so has to keep the positions alone. -/
theorem HeldSound.outside {d t : Device} (h : HeldSound d) (hs : d.control.state ≠ .train)
    (hphase : t.trainer.phase = d.trainer.phase) (hpos : positionSound t = true) : HeldSound t :=
  ⟨trainingSound_of_idle (hphase.trans (trainer_idle h.training hs)), hpos⟩

/-! ## Station states entered and left (R169) -/

@[simp] theorem setState_state (st : StationState) (d : Device) : (setState st d).control.state = st := rfl

@[simp] theorem enterReady_state (d : Device) : (enterReady d).control.state = .ready := by simp [enterReady]

@[simp] theorem trainerIdle_phase (d : Device) : (trainerIdle d).trainer.phase = .idle := rfl

@[simp] theorem abandonTraining_phase (d : Device) : (abandonTraining d).trainer.phase = .idle := by simp [abandonTraining]

@[simp] theorem trainComplete_phase (d : Device) : (trainComplete d).trainer.phase = .idle := by simp [trainComplete]

@[simp] theorem trainComplete_state (d : Device) : (trainComplete d).control.state = .ready := by simp [trainComplete]

theorem dwellTest_power_of_train {d : Device} (h : d.control.state = .train) : (dwellTest d).strings.power = d.strings.power := by
  rw [dwellTest_idle (.inl ⟨by simp [h], by simp [h]⟩)]

theorem dwellTest_heldSound {d : Device} (h : HeldSound d) : HeldSound (dwellTest d) :=
  h.congr (by simp) (by simp) fun ht hp => (dwellTest_power_of_train ht).trans hp

/-! ## Latency training (R143 to R148) -/

/-- The pre-checks begin a trial in TRAIN with power ON, or end the run. -/
theorem preCheck_trainingSound (n : Nat) {d : Device} (hs : d.control.state = .train) (hp : d.strings.power = .on) :
    trainingSound (preCheck n d) = true := by
  induction n generalizing d with
  | zero => exact trainingSound_of_idle (trainComplete_phase d)
  | succ n ih =>
    unfold preCheck
    dsimp only
    split
    · split
      · exact ih (by simpa using hs) (by simpa using hp)
      · exact trainingSound_of_idle (trainComplete_phase _)
    · simp [trainingSound_iff, hs, hp]

theorem preCheck_heldSound (n : Nat) {d : Device} (h : positionSound d = true) (hs : d.control.state = .train)
    (hp : d.strings.power = .on) : HeldSound (preCheck n d) :=
  ⟨preCheck_trainingSound n hs hp, positionSound_congr h (by simp) fun _ => by simp [hs, holdsProgramme]⟩

theorem trainComplete_heldSound {d : Device} (h : positionSound d = true) (hs : d.control.state = .train) :
    HeldSound (trainComplete d) :=
  ⟨trainingSound_of_idle (trainComplete_phase d), positionSound_congr h (by simp) fun _ => by simp [hs, holdsProgramme]⟩

theorem endString_heldSound (f : SelString → SelString) {d : Device} (h : positionSound d = true) (hs : d.control.state = .train)
    (hp : d.strings.power = .on) : HeldSound (endString f d) := by
  have hd : positionSound (onCurrent f d) = true := positionSound_congr h (by simp) (by simp)
  unfold endString nextTrained
  split
  · exact preCheck_heldSound 8 (positionSound_congr hd (by simp) (by simp)) (by simpa using hs) (by simpa using hp)
  · exact trainComplete_heldSound hd (by simpa using hs)

theorem startTrial_heldSound {d : Device} (h : positionSound d = true) (hs : d.control.state = .train)
    (hp : d.strings.power = .on) : HeldSound (startTrial d) :=
  ⟨by simp [trainingSound_iff, hs, hp], positionSound_congr h (by simp) (by simp)⟩

theorem sampleTrial_heldSound (held : Bool) {d : Device} (h : HeldSound d) : HeldSound (sampleTrial held d) := by
  refine ⟨?_, positionSound_congr h.position (by simp) (by simp)⟩
  have ht := (trainingSound_iff d).mp h.training
  unfold sampleTrial
  split
  · next hphase => simp [trainingSound_iff, ht.1 (by simp [hphase]), ht.2 (by simp [hphase]) (by simp [hphase])]
  · exact h.training

theorem endRest_heldSound (armature : BitVec 8) {d : Device} (h : HeldSound d) : HeldSound (endRest armature d) := by
  unfold endRest
  split
  · next hphase =>
    obtain ⟨htrain, hon⟩ := (trainingSound_iff d).mp h.training
    have hs : d.control.state = .train := htrain (by simp [hphase])
    have hp : d.strings.power = .on := hon (by simp [hphase]) (by simp [hphase])
    have hd : positionSound (onPins (fun p => { p with armature := armature }) d) = true :=
      positionSound_congr h.position (by simp) (by simp)
    have hstart (f : Trainer → Trainer) :
        HeldSound (startTrial (onTrainer f (onPins (fun p => { p with armature := armature }) d))) :=
      startTrial_heldSound (positionSound_congr hd (by simp) (by simp)) hs hp
    dsimp only
    split
    · exact endString_heldSound _ hd hs hp
    · split
      · exact hstart _
      · split
        · exact endString_heldSound _ hd hs hp
        · split
          · exact hstart _
          · exact endString_heldSound _ hd hs hp
  · exact h

theorem startTraining_heldSound (armature : BitVec 8) {d : Device} (h : positionSound d = true) (hs : d.control.state = .ready) :
    HeldSound (startTraining armature d) := by
  unfold startTraining
  dsimp only
  split
  · next hp =>
    exact preCheck_heldSound 8 (positionSound_congr h (by simp) fun _ => by simp [hs, holdsProgramme]) (by simp) (by simpa using hp)
  · exact ⟨by simp [trainingSound_iff], positionSound_congr h (by simp) fun _ => by simp [hs, holdsProgramme]⟩

theorem powerComesOn_heldSound (armature : BitVec 8) {d : Device} (h : HeldSound d) : HeldSound (powerComesOn armature d) := by
  unfold powerComesOn
  split
  · next hp =>
    dsimp only
    refine dwellTest_heldSound ?_
    have hfired : ∀ d' : Device, d'.seq = d.seq → d'.control = d.control → d'.trainer = d.trainer → d'.strings.power = .on →
        HeldSound (if d'.trainer.phase = .waking then preCheck 8 d' else d') := by
      intro d' hseq hcontrol htrainer hpower
      have hd' : HeldSound d' := h.congr (by simp [hseq]) (by simp [hcontrol, htrainer]) fun _ _ => hpower
      split
      · next hw => exact preCheck_heldSound 8 hd'.position (((trainingSound_iff _).mp hd'.training).1 (by simp [hw])) hpower
      · exact hd'
    split
    · exact hfired _ (by simp) (by simp) (by simp) (by simp [setPower])
    · exact hfired _ (by simp) (by simp) (by simp) (by simp [setPower])
  · exact h

end Sys2Proof.Machine
end

section
/-! SUPPORT. The validation of LOAD DONE (R29 to R34): which failure is the first, and what a programme that passes has. -/

namespace Sys2Proof.Machine

/-! ## First failures -/

/-- The first number below `n` at which a search answers. -/
theorem findSome?_range {α : Type} {f : Nat → Option α} {n i : Nat} {b : α} (hi : i < n) (hf : f i = some b)
    (hbefore : ∀ j, j < i → f j = none) : (List.range n).findSome? f = some b := by
  obtain ⟨m, rfl⟩ := Nat.exists_eq_add_of_lt hi
  rw [Nat.add_assoc, List.range_add, List.findSome?_append, List.range_succ_eq_map,
    List.findSome?_eq_none_iff.mpr fun j hj => hbefore j (List.mem_range.mp hj)]
  simp [hf]

theorem runFailure_nextUnwritten {d : Device} {i : Nat} {r : Run} (h : runAt d.seq.runs r.next = none) :
    runFailure d i r = some ⟨.nextUnwritten, i, r.next, 0xFF⟩ := by
  simp [runFailure, h]

/-- R31: the first unwritten row of a run in weaving order. -/
theorem runFailure_rowUnwritten {d : Device} {i row : Nat} {r : Run} {before after : List Nat}
    (hn : (runAt d.seq.runs r.next).isSome = true) (hrows : runRows r = before ++ row :: after)
    (hbefore : ∀ x ∈ before, x ∈ d.store.written) (hrow : row ∉ d.store.written) :
    runFailure d i r = some ⟨.rowUnwritten, i, row, 0xFF⟩ := by
  obtain ⟨r', hr'⟩ := Option.isSome_iff_exists.mp hn
  have hfind : (runRows r).find? (fun row => !isWritten d row) = some row :=
    List.find?_eq_some_iff_append.mpr ⟨by simpa [isWritten] using hrow, before, after, hrows, by simpa [isWritten] using hbefore⟩
  simp [runFailure, hr', hfind]

/-- A run passes where its next run and all of its rows are written (R30, R31). -/
theorem runFailure_eq_none_iff (d : Device) (i : Nat) (r : Run) :
    runFailure d i r = none ↔ (runAt d.seq.runs r.next).isSome = true ∧ ∀ x ∈ runRows r, x ∈ d.store.written := by
  unfold runFailure
  cases runAt d.seq.runs r.next <;> simp [isWritten]

theorem runsFailure_of_first {d : Device} {i : Nat} {r : Run} {t : Detail} (hi : i < 64) (hr : runAt d.seq.runs i = some r)
    (ht : runFailure d i r = some t)
    (hbefore : ∀ j q, j < i → runAt d.seq.runs j = some q → runFailure d j q = none) : runsFailure d = some t := by
  refine findSome?_range hi (by simp [hr, ht]) fun j hj => ?_
  cases hq : runAt d.seq.runs j with
  | none => rfl
  | some q => exact hbefore j q hj hq

theorem runsFailure_eq_none_iff (d : Device) :
    runsFailure d = none ↔ ∀ i r, i < 64 → runAt d.seq.runs i = some r → runFailure d i r = none := by
  simp only [runsFailure, List.findSome?_eq_none_iff, List.mem_range]
  refine ⟨fun h i r hi hr => by simpa [hr] using h i hi, fun h i hi => ?_⟩
  cases hr : runAt d.seq.runs i with
  | none => rfl
  | some r => exact h i r hi hr

theorem unmapped_iff (d : Device) (k : Nat) : unmapped d k = true ↔ k < 8 ∧ (d.weft.map[k]?).join = none := by
  unfold unmapped mapEntry
  by_cases hk : k < 8 <;> simp [hk]

theorem unmapped_eq_false_iff (d : Device) (k : Nat) :
    unmapped d k = false ↔ (k < 8 → (d.weft.map[k]?).join.isSome = true) := by
  rw [← Bool.not_eq_true, unmapped_iff, ← Option.not_isSome_iff_eq_none]
  tauto

/-- R32, first pass: the first run by number whose override is unmapped. -/
theorem overrideFailure_of_first {d : Device} {i k : Nat} {r : Run} (hi : i < 64) (hr : runAt d.seq.runs i = some r)
    (hk : r.override = some k) (hun : unmapped d k = true)
    (hbefore : ∀ j q l, j < i → runAt d.seq.runs j = some q → q.override = some l → unmapped d l = false) :
    overrideFailure d = some ⟨.weftUnmapped, i, 0xFFFF, k⟩ := by
  refine findSome?_range hi (by simp [hr, hk, hun]) fun j hj => ?_
  cases hq : runAt d.seq.runs j with
  | none => rfl
  | some q =>
    cases hl : q.override with
    | none => simp [hl]
    | some l => simp [hl, hbefore j q l hj hq hl]

theorem overrideFailure_eq_none {d : Device}
    (h : ∀ j q l, j < 64 → runAt d.seq.runs j = some q → q.override = some l → unmapped d l = false) :
    overrideFailure d = none := by
  simp only [overrideFailure, List.findSome?_eq_none_iff, List.mem_range]
  intro j hj
  cases hq : runAt d.seq.runs j with
  | none => rfl
  | some q =>
    cases hl : q.override with
    | none => simp [hl]
    | some l => simp [hl, h j q l hj hq hl]

/-- R32, second pass: the first written row by number whose code is unmapped. -/
theorem rowCodeFailure_of_first {d : Device} {row : Nat} (hsorted : d.store.written.Pairwise (· < ·))
    (hrow : row ∈ d.store.written) (hun : unmapped d (readRow d row).weft.toNat = true)
    (hbefore : ∀ x ∈ d.store.written, x < row → unmapped d (readRow d x).weft.toNat = false) :
    rowCodeFailure d = some ⟨.weftUnmapped, 0xFF, row, (readRow d row).weft.toNat⟩ := by
  obtain ⟨before, after, hsplit⟩ := List.append_of_mem hrow
  have hlt : ∀ x ∈ before, x < row := by
    rw [hsplit, List.pairwise_append] at hsorted
    exact fun x hx => hsorted.2.2 x hx row (by simp)
  refine List.findSome?_eq_some_iff.mpr ⟨before, row, after, hsplit, by simp [hun], fun x hx => ?_⟩
  simp [hbefore x (by simp [hsplit, hx]) (hlt x hx)]

theorem rowCodeFailure_eq_none {d : Device} (h : ∀ x ∈ d.store.written, unmapped d (readRow d x).weft.toNat = false) :
    rowCodeFailure d = none :=
  List.findSome?_eq_none_iff.mpr fun x hx => by simp [h x hx]

/-! ## The order of the checks (R29 to R32) -/

theorem loadFailure_startUnwritten {d : Device} (h : runAt d.seq.runs d.seq.startRun = none) :
    loadFailure d = some ⟨.startUnwritten, d.seq.startRun, 0xFFFF, 0xFF⟩ := by
  simp [loadFailure, h]

theorem loadFailure_of_runsFailure {d : Device} {t : Detail} (hs : (runAt d.seq.runs d.seq.startRun).isSome = true)
    (h : runsFailure d = some t) : loadFailure d = some t := by
  obtain ⟨r, hr⟩ := Option.isSome_iff_exists.mp hs
  simp [loadFailure, hr, h]

/-- A section station's programme passes with its runs. -/
theorem loadFailure_section {d : Device} (hs : (runAt d.seq.runs d.seq.startRun).isSome = true) (h : runsFailure d = none)
    (hrole : d.control.role = .sectionRole) : loadFailure d = none := by
  obtain ⟨r, hr⟩ := Option.isSome_iff_exists.mp hs
  simp [loadFailure, hr, h, isWeft, hrole]

/-- A weft station's has two more passes (R32). -/
theorem loadFailure_weft {d : Device} (hs : (runAt d.seq.runs d.seq.startRun).isSome = true) (h : runsFailure d = none)
    (hrole : d.control.role = .weftRole) : loadFailure d = (overrideFailure d).or (rowCodeFailure d) := by
  obtain ⟨r, hr⟩ := Option.isSome_iff_exists.mp hs
  simp [loadFailure, hr, h, isWeft, hrole]

/-- A programme that passes has its start run and the next run of every run written. -/
theorem passes_of_loadFailure_none {d : Device} (h : loadFailure d = none) :
    (∃ r, runAt d.seq.runs d.seq.startRun = some r) ∧ runsFailure d = none := by
  cases hs : runAt d.seq.runs d.seq.startRun with
  | none => simp [loadFailure_startUnwritten hs] at h
  | some r =>
    cases hf : runsFailure d with
    | none => exact ⟨⟨r, rfl⟩, rfl⟩
    | some t => simp [loadFailure_of_runsFailure (by simp [hs]) hf] at h

theorem runsChained_of_passes {d : Device} (hlen : d.seq.runs.length = 64) (h : runsFailure d = none) :
    runsChained d.seq.runs = true := by
  rw [runsChained_iff]
  intro r hr
  obtain ⟨i, hi, hat⟩ := runAt_of_some_mem hr
  exact ((runFailure_eq_none_iff d i r).mp ((runsFailure_eq_none_iff d).mp h i r (hlen ▸ hi) hat)).1

/-! ## What LOAD DONE leaves (R33, R34) -/

theorem startPosition_eq {d : Device} {r : Run} (h : runAt d.seq.runs d.seq.startRun = some r) :
    startPosition d = ⟨d.seq.startRun, 1, r.fromRow, 0⟩ := by
  simp [startPosition, h]

theorem finishLoad_popQueue (d : Device) : finishLoad (popQueue d) = popQueue (finishLoad d) := by
  have hdwell (x : Device) : dwellTest (popQueue x) = popQueue (dwellTest x) := by
    rw [dwellTest_eq x, apply_ite popQueue]
    exact dwellTest_eq (popQueue x)
  have hweft (x : Device) (f : WeftSel → WeftSel) :
      doIf (isWeft x) (onWeft f) (popQueue x) = popQueue (doIf (isWeft x) (onWeft f) x) := by
    cases isWeft x <;> rfl
  unfold finishLoad enterReady
  rw [← hdwell]
  congr 1
  exact congrArg (setState .ready) (hweft (setPosition (startPosition d) d) _)

end Sys2Proof.Machine
end

section
/-! SUPPORT. Every command keeps the training run and the positions sound, block by block, and so does every step. -/

namespace Sys2Proof.Machine

/-! ## The shaft (ch. 1) -/

theorem elapseTrainer_phase (dt : Nat) (t : Trainer) : (elapseTrainer dt t).phase = t.phase := by
  unfold elapseTrainer
  split <;> rfl

theorem elapse_heldSound (dt : Nat) (others : List LineRun) {d : Device} (h : HeldSound d) : HeldSound (elapse dt others d) :=
  h.congr (by simp) (by simp [elapse_trainer, elapseTrainer_phase]) fun _ hp => by simp [elapse_strings, elapsePower_on, hp]

theorem pass_heldSound (p : Lapse) {d : Device} (h : HeldSound d) : HeldSound (pass p d) := by
  have he := elapse_heldSound p.ticks p.line h
  unfold pass
  dsimp only
  split
  · exact he.frame (by simp) (by simp)
  · exact he

/-- A counting step ends a training run (R148), so that none is under way after it. -/
theorem handMotion_idle {d : Device} (h : trainingSound d = true) : (handMotion d).trainer.phase = .idle := by
  have hidle := trainer_idle h
  unfold handMotion
  split <;> simp_all

theorem handMotion_heldSound {d : Device} (h : HeldSound d) : HeldSound (handMotion d) := by
  refine ⟨trainingSound_of_idle (handMotion_idle h.training), positionSound_congr h.position (by simp) ?_⟩
  unfold handMotion
  split <;> simp_all [holdsProgramme]

theorem crossings_heldSound (dir : Direction) {d : Device} (h : HeldSound d) : HeldSound (crossings dir d) :=
  ⟨trainingSound_congr h.training (by simp) (by simp) (by simp),
    positionSound_move h.position (by simp) (by simp) (crossings_valid dir)⟩

theorem takeIndexEdge_heldSound {d : Device} (h : HeldSound d) : HeldSound (takeIndexEdge d) :=
  h.frame (by simp) (by simp)

theorem handStep_heldSound (before : Tracker) (dir : Direction) (index : Bool) {d : Device} (h : HeldSound d) :
    HeldSound (handStep before dir index d) := by
  have hmotion : HeldSound (handMotion (handSpeed before.speed (completes dir before) (doIf (turns dir before) turnPick d))) :=
    handMotion_heldSound (h.frame (by simp) (by simp))
  unfold handStep
  dsimp only
  generalize handMotion _ = m at *
  have hcross : HeldSound (crossings dir (doIf (decide (dir = .forward)) (stringsAtAngle m.tracker.angle) m)) :=
    crossings_heldSound dir (hmotion.frame (by simp) (by simp))
  exact hcross.frame (by simp) (by simp)

theorem takeStep_heldSound (dir : Direction) (index : Bool) {d : Device} (h : HeldSound d) : HeldSound (takeStep dir index d) :=
  handStep_heldSound _ dir index (h.frame (by simp) (by simp))

theorem shaftStep_heldSound (a b index : Bool) (dt : Lapse) (sense : List StringBits) {d : Device} (h : HeldSound d) :
    HeldSound (shaftStep a b index dt sense d) := by
  unfold shaftStep
  split
  · exact takeStep_heldSound _ _ ((pass_heldSound dt h).frame (by simp) (by simp))
  · exact h

theorem glitch_heldSound (dt : Lapse) {d : Device} (h : HeldSound d) : HeldSound (glitch dt d) :=
  (pass_heldSound dt h).frame (by simp [glitch]) (by simp [glitch])

theorem stationaryRises_heldSound {d : Device} (h : HeldSound d) : HeldSound (stationaryRises d) := by
  unfold stationaryRises
  split
  · exact dwellTest_heldSound (h.frame (by simp) (by simp))
  · exact h

/-! ## Resets and power (R178 to R180) -/

theorem Sequencer.reset_counted : Sequencer.reset.runs.length = 64 ∧ runsCounted Sequencer.reset.runs = true := by decide

/-- After a reset the station is DORMANT with no run written and the trainer IDLE. -/
theorem heldSound_of_reset {d : Device} (hseq : d.seq = Sequencer.reset) (htrainer : d.trainer = Trainer.reset)
    (hstate : d.control.state = .dormant) : HeldSound d :=
  ⟨trainingSound_of_idle (by rw [htrainer]; rfl),
    positionSound_of_not_held (by rw [hstate]; rfl) (hseq ▸ Sequencer.reset_counted.1) (hseq ▸ Sequencer.reset_counted.2)⟩

theorem resetTo_heldSound (number : Nat) (role : Role) (phase : BitVec 2) (d : Device) : HeldSound (resetTo number role phase d) :=
  heldSound_of_reset rfl rfl rfl

theorem powerOnReset_heldSound (number : Nat) (role : Role) (a b backupHeld : Bool) (backup : Option RetainedRecord)
    (sram : List Host.Cell) (d : Device) : HeldSound (powerOnReset number role a b backupHeld backup sram d) :=
  (resetTo_heldSound number role (phaseOf a b) (onStore (fun s => { s with mem := Memory.writeCells [] sram }) d)).frame
    (by simp [powerOnReset]) (by simp [powerOnReset])

theorem completeWrite_state (c : Control) : (completeWrite c).state = c.state := by
  unfold completeWrite
  split <;> rfl

theorem completeAllWrites_state (c : Control) : (completeAllWrites c).state = c.state := by
  unfold completeAllWrites
  split <;> rfl

theorem powerFails_heldSound {d : Device} (h : HeldSound d) : HeldSound (powerFails d) :=
  h.frame (by simp) (by simp [powerFails, completeAllWrites_state])

theorem retainedWritten_heldSound {d : Device} (h : HeldSound d) : HeldSound (retainedWritten d) :=
  h.frame (by simp) (by simp [retainedWritten, completeWrite_state])

theorem resetTimesOut_heldSound {d : Device} (h : HeldSound d) : HeldSound (resetTimesOut d) := by
  unfold resetTimesOut
  split
  · exact resetTo_heldSound _ _ _ d
  · exact h

/-! ## The head line (ch. 5, 6) -/

theorem replyLeaves_heldSound {d : Device} (h : HeldSound d) : HeldSound (replyLeaves d) := by
  unfold replyLeaves
  split
  · exact resetTo_heldSound _ _ _ d
  · exact h.frame (by simp) (by simp)

theorem frameSent_heldSound {d : Device} (h : HeldSound d) : HeldSound (frameSent d) := by
  unfold frameSent
  split
  · dsimp only
    split
    · exact h.frame (by simp) (by simp)
    · exact replyLeaves_heldSound (h.frame (by simp) (by simp))
  · exact h

theorem attemptAbandoned_heldSound {d : Device} (h : HeldSound d) : HeldSound (attemptAbandoned d) := by
  unfold attemptAbandoned
  split
  · dsimp only
    split
    · split
      · exact h.frame (by simp) (by simp)
      · exact replyLeaves_heldSound (h.frame (by simp) (by simp))
    · exact h.frame (by simp) (by simp)
  · exact h

theorem detectHold_heldSound {d : Device} (h : HeldSound d) : HeldSound (detectHold d) := by
  refine ⟨trainingSound_congr h.training (by simp) (by simp) (by simp), positionSound_move h.position (by simp) (by simp) ?_⟩
  intro hv
  exact doIf_valid (fun hd => lineHold_valid (hd.congr (by simp))) _ (hv.congr (by simp))

@[simp] theorem enterFault_state (d : Device) : (enterFault d).control.state = .fault := by simp [enterFault]

theorem enterFault_idle {d : Device} (h : trainingSound d = true) : (enterFault d).trainer.phase = .idle := by
  have hidle := trainer_idle h
  unfold enterFault
  split <;> simp_all

theorem enterFault_heldSound {d : Device} (h : HeldSound d) : HeldSound (enterFault d) :=
  ⟨trainingSound_of_idle (enterFault_idle h.training), positionSound_congr h.position (by simp) (by simp [holdsProgramme])⟩

theorem duplicateFound_heldSound {d : Device} (h : HeldSound d) : HeldSound (duplicateFound d) := by
  have hd : HeldSound (setFlag .duplicateStation d) := h.frame (by simp) (by simp)
  unfold duplicateFound
  dsimp only
  split
  · exact hd
  · exact hd
  · exact enterFault_heldSound (hd.frame (by simp) (by simp))

theorem takeBeaconFrame_heldSound {d : Device} (h : HeldSound d) : HeldSound (takeBeaconFrame d) := by
  unfold takeBeaconFrame
  split
  · exact h
  · next f rest hq =>
    split
    · have hd : HeldSound (onLine (fun l => { l with queue := rest }) d) := h.frame (by simp) (by simp)
      dsimp only
      split
      · exact hd
      · split
        · exact duplicateFound_heldSound hd
        · split
          · exact hd.frame (by simp) (by simp)
          · exact hd
    · exact h

/-! ## The terminal's requests (ch. 12) -/

/-- The table of 12.2 refuses a request exactly outside the states that take it. -/
theorem acceptance_eq_none_iff (r : Request) (st : StationState) : acceptance r st = none ↔ st ∈ takenIn r := by
  unfold acceptance
  split
  · simp_all
  · split <;> simp_all

/-- What a request row does to a frame that it drops or refuses keeps the invariants; so does the request where its broadcast and
its own effect, in the states that take it, do (R79, R80, R170). -/
theorem takeRequest_heldSound {r : Request} {broadcast : Device → Device} {run : List Byte → Device → Device}
    (hb : ∀ {d}, HeldSound d → HeldSound (broadcast d))
    (hr : ∀ {p d}, HeldSound d → d.control.state ∈ takenIn r → HeldSound (run p d)) {d : Device} (h : HeldSound d) :
    HeldSound (takeRequest r broadcast run d) := by
  have hpop : HeldSound (popQueue d) := h.frame (by simp) (by simp)
  unfold takeRequest takeAddressed
  split
  · split
    · exact hb hpop
    · split
      · exact hpop.frame (by simp) (by simp)
      · split
        · exact hpop.frame (by simp) (by simp)
        · next hs => exact hr hpop ((acceptance_eq_none_iff _ _).mp hs)
  · exact h

theorem discarded_heldSound {d : Device} (h : HeldSound d) : HeldSound (discarded d) := h

/-- A reply changes the line alone. -/
theorem answer_heldSound (r : Request) (res : Result) {d : Device} (h : HeldSound d) : HeldSound (answer r res d) :=
  h.frame (by simp) (by simp)

theorem withLength_heldSound (r : Request) (n : Nat) (f : Device → Device) (p : List Byte) {d : Device} (h : HeldSound d)
    (hf : HeldSound (f d)) : HeldSound (withLength r n f p d) := by
  unfold withLength
  split
  · exact hf
  · exact answer_heldSound r .range h

@[simp] theorem storeConfig_state (c : Configuration) (d : Device) : (storeConfig c d).control.state = .load := by
  simp [storeConfig]

theorem storeConfig_heldSound (c : Configuration) {d : Device} (h : HeldSound d) (hs : d.control.state = .dormant) :
    HeldSound (storeConfig c d) :=
  h.outside (by simp [hs]) (by simp) (positionSound_congr h.position (by simp) (by simp [holdsProgramme]))

theorem runConfigure_heldSound (p : List Byte) {d : Device} (h : HeldSound d) (hs : d.control.state = .dormant) :
    HeldSound (runConfigure p d) := by
  have hstored := storeConfig_heldSound (clamped d.control.role (configFields d.control.role p)) h hs
  unfold runConfigure
  dsimp only
  split
  · exact answer_heldSound _ _ h
  · split
    · exact answer_heldSound _ _ h
    · split
      · exact answer_heldSound _ _ h
      · split
        · exact answer_heldSound _ _ h
        · exact hstored.frame (by simp) (by simp)

/-- A run in range written in LOAD leaves the programme for LOAD DONE to check (R18). -/
theorem storeRun_positionSound {i : Nat} {r : Run} (start : Bool) {d : Device} (h : positionSound d = true)
    (hs : d.control.state = .load) (hr : runInRange r = true) : positionSound (storeRun i r start d) = true := by
  obtain ⟨hlen, hcounted, -⟩ := (positionSound_iff d).mp h
  refine positionSound_of_not_held (by simp [hs, holdsProgramme]) (by simp [storeRun, hlen]) ?_
  rw [runsCounted_iff] at *
  intro q hq
  obtain hold | hnew := List.mem_or_eq_of_mem_set hq
  · exact hcounted q hold
  · obtain rfl : q = r := Option.some.inj hnew
    simp only [runInRange, Bool.and_eq_true, decide_eq_true_eq] at hr
    tauto

theorem runRunWrite_heldSound (p : List Byte) {d : Device} (h : HeldSound d) (hs : d.control.state = .load) :
    HeldSound (runRunWrite p d) := by
  unfold runRunWrite
  split
  · exact answer_heldSound _ _ h
  · next hgood =>
    refine answer_heldSound _ _ (h.outside (by simp [hs]) (by simp) (storeRun_positionSound _ h.position hs ?_))
    by_contra hr
    exact hgood (.inr (.inr (by simpa using hr)))

theorem setPosition_positionSound {p : Position} {d : Device} (h : positionSound d = true)
    (hp : validPosition d.seq.runs p = true) : positionSound (setPosition p d) = true :=
  positionSound_move h (by simp) (by simp) fun hd => hd.move rfl hp (by simp [setPosition])

theorem runPositionSet_heldSound (p : List Byte) {d : Device} (h : HeldSound d) : HeldSound (runPositionSet p d) := by
  unfold runPositionSet
  split
  · exact answer_heldSound _ _ h
  · next hgood =>
    have hp : validPosition d.seq.runs (positionFields p) = true := by
      by_contra hp
      exact hgood (.inr (by simpa using hp))
    have hset : HeldSound (setPosition (positionFields p) d) :=
      ⟨trainingSound_congr h.training rfl rfl fun _ => id, setPosition_positionSound h.position hp⟩
    exact hset.frame (by simp) (by simp)

theorem runPositionResume_heldSound (p : List Byte) {d : Device} (h : HeldSound d) : HeldSound (runPositionResume p d) := by
  refine withLength_heldSound _ _ _ p h ?_
  split
  · exact answer_heldSound _ _ h
  · split
    · exact answer_heldSound _ _ h
    · split
      · exact answer_heldSound _ _ h
      · next hp =>
        exact answer_heldSound _ _ ⟨trainingSound_congr h.training rfl rfl fun _ => id,
          setPosition_positionSound h.position (by simpa using hp)⟩

/-- A LOAD DONE that passes enters READY with a chained programme and its start position valid (R29 to R34). -/
theorem finishLoad_positionSound {d : Device} (h : positionSound d = true) (hpass : loadFailure d = none) :
    positionSound (finishLoad d) = true := by
  obtain ⟨hlen, hcounted, -⟩ := (positionSound_iff d).mp h
  obtain ⟨⟨r, hr⟩, hruns⟩ := passes_of_loadFailure_none hpass
  have hvalid : ProgrammeValid (setPosition (startPosition d) d).seq := by
    refine ⟨hcounted, runsChained_of_passes hlen hruns, ?_, by simp [setPosition]⟩
    rw [startPosition_eq hr]
    exact validPosition_start hcounted hr (Nat.zero_le _)
  rw [positionSound_iff]
  exact ⟨by simpa using hlen, by simpa using hcounted, fun _ => hvalid.congr (by simp [finishLoad])⟩

theorem runLoadDone_heldSound (p : List Byte) {d : Device} (h : HeldSound d) (hs : d.control.state = .load) :
    HeldSound (runLoadDone p d) := by
  refine withLength_heldSound _ _ _ p h ?_
  split
  · exact h.frame (by simp) (by simp)
  · next hpass => exact answer_heldSound _ _ (h.outside (by simp [hs]) (by simp) (finishLoad_positionSound h.position hpass))

/-- Between READY, WEAVE and TEST the programme held stays, and no training run is under way. -/
theorem HeldSound.betweenHeld {d t : Device} (h : HeldSound d) (hs : d.control.state ≠ .train)
    (hheld : holdsProgramme d.control.state = true)
    (he : t.seq.runs = d.seq.runs ∧ t.seq.pos = d.seq.pos ∧ t.seq.history = d.seq.history)
    (hphase : t.trainer.phase = d.trainer.phase) : HeldSound t :=
  h.outside hs hphase (positionSound_congr h.position he fun _ => hheld)

theorem armStation_heldSound {d : Device} (h : HeldSound d) (hs : d.control.state = .ready) : HeldSound (armStation d) :=
  h.betweenHeld (by simp [hs]) (by simp [hs, holdsProgramme]) (by simp) (by simp)

theorem disarmStation_heldSound {d : Device} (h : HeldSound d) (hs : d.control.state = .weave) : HeldSound (disarmStation d) :=
  h.betweenHeld (by simp [hs]) (by simp [hs, holdsProgramme]) (by simp) (by simp)

theorem broadcastArm_heldSound {d : Device} (h : HeldSound d) : HeldSound (broadcastArm d) := by
  unfold broadcastArm doIf
  split
  · next hs => exact armStation_heldSound h (of_decide_eq_true hs)
  · exact h

theorem broadcastDisarm_heldSound {d : Device} (h : HeldSound d) : HeldSound (broadcastDisarm d) := by
  unfold broadcastDisarm doIf
  split
  · next hs => exact disarmStation_heldSound h (of_decide_eq_true (Bool.and_eq_true_iff.mp hs).1)
  · exact h

theorem runDisarm_heldSound (p : List Byte) {d : Device} (h : HeldSound d) (hs : d.control.state = .weave) :
    HeldSound (runDisarm p d) := by
  refine withLength_heldSound _ _ _ p h ?_
  split
  · exact answer_heldSound _ _ (disarmStation_heldSound h hs)
  · exact answer_heldSound _ _ h

theorem runTrain_heldSound (armature : BitVec 8) (p : List Byte) {d : Device} (h : HeldSound d) (hs : d.control.state = .ready) :
    HeldSound (runTrain armature p d) := by
  unfold runTrain
  split
  · exact answer_heldSound _ _ h
  · refine withLength_heldSound _ _ _ p h ?_
    split
    · exact answer_heldSound _ _ (startTraining_heldSound armature h.position hs)
    · exact answer_heldSound _ _ h

theorem commandedReset_heldSound {d : Device} (_ : HeldSound d) : HeldSound (commandedReset d) := resetTo_heldSound _ _ _ d

/-! ## Every command, every step -/

/-- What a command's effect keeps, the command keeps, with main power or without it. -/
theorem completed_heldSound {f : Device → Device} (hf : ∀ {d}, HeldSound d → HeldSound (f d)) {s t : State} (h : HeldSound s.dev)
    (hs : completed f s = .next t) : HeldSound t.dev := by
  cases hp : s.dev.control.powered with
  | true =>
    obtain rfl := Host.Outcome.next.inj ((completed_powered hp).symm.trans hs)
    exact hf h
  | false =>
    obtain rfl := Host.Outcome.next.inj ((completed_unpowered hp).symm.trans hs)
    exact h

/-- A request that nothing does when addressed to all nodes. -/
theorem request_heldSound {r : Request} {run : List Byte → Device → Device}
    (hr : ∀ {p d}, HeldSound d → d.control.state ∈ takenIn r → HeldSound (run p d)) {s t : State} (h : HeldSound s.dev)
    (hs : completed (takeRequest r discarded run) s = .next t) : HeldSound t.dev :=
  completed_heldSound (takeRequest_heldSound discarded_heldSound hr) h hs

theorem exec_heldSound (i : Instr) {s t : State} (h : HeldSound s.dev) (hs : exec i s = .next t) : HeldSound t.dev := by
  cases i
  case countingStep => exact completed_heldSound (shaftStep_heldSound _ _ _ _ _) h hs
  case encoderGlitch => exact completed_heldSound (glitch_heldSound _) h hs
  case indexEdge => exact completed_heldSound takeIndexEdge_heldSound h hs
  case stationarySecond => exact completed_heldSound stationaryRises_heldSound h hs
  case holdDetected => exact completed_heldSound detectHold_heldSound h hs
  case attemptAbandoned => exact completed_heldSound attemptAbandoned_heldSound h hs
  case frameSent => exact completed_heldSound frameSent_heldSound h hs
  case resetReplyTimeout => exact completed_heldSound resetTimesOut_heldSound h hs
  case beaconTaken => exact completed_heldSound takeBeaconFrame_heldSound h hs
  case trialSample => exact completed_heldSound (sampleTrial_heldSound _) h hs
  case restEnd => exact completed_heldSound (endRest_heldSound _) h hs
  case wakeTimeEnd => exact completed_heldSound (powerComesOn_heldSound _) h hs
  case resetPin => exact completed_heldSound (fun _ => resetTo_heldSound _ _ _ _) h hs
  case powerFail => exact completed_heldSound powerFails_heldSound h hs
  case retainedWriteDone => exact completed_heldSound retainedWritten_heldSound h hs
  case powerOn =>
    obtain rfl := Host.Outcome.next.inj hs
    exact powerOnReset_heldSound _ _ _ _ _ _ _ _
  case stallExpiry | pulseEnd | fetchComplete | frameMark | frameReceived | receiveGap | lineStuck | lineClear | frameStart
      | frameDiscarded | testStepCapture | inrushEnd | weftDetectorPulse | feederStopInput =>
    exact completed_heldSound (fun hd => hd.frame (by simp) (by simp)) h hs
  case configure => exact request_heldSound (fun hd hst => runConfigure_heldSound _ hd (by simpa [takenIn] using hst)) h hs
  case runWrite => exact request_heldSound (fun hd hst => runRunWrite_heldSound _ hd (by simpa [takenIn] using hst)) h hs
  case loadDone => exact request_heldSound (fun hd hst => runLoadDone_heldSound _ hd (by simpa [takenIn] using hst)) h hs
  case positionSet => exact request_heldSound (fun hd _ => runPositionSet_heldSound _ hd) h hs
  case positionResume => exact request_heldSound (fun hd _ => runPositionResume_heldSound _ hd) h hs
  case train => exact request_heldSound (fun hd hst => runTrain_heldSound _ _ hd (by simpa [takenIn] using hst)) h hs
  case arm =>
    refine completed_heldSound (takeRequest_heldSound broadcastArm_heldSound fun hd hst => ?_) h hs
    exact withLength_heldSound _ _ _ _ hd (answer_heldSound _ _ (armStation_heldSound hd (by simpa [takenIn] using hst)))
  case disarm =>
    refine completed_heldSound (takeRequest_heldSound broadcastDisarm_heldSound fun hd hst => ?_) h hs
    exact runDisarm_heldSound _ hd (by simpa [takenIn] using hst)
  case reset =>
    refine completed_heldSound (takeRequest_heldSound commandedReset_heldSound fun hd _ => ?_) h hs
    exact hd.frame (by simp) (by simp)
  case testBegin =>
    refine request_heldSound (fun {_ d} hd hst => ?_) h hs
    have hready : d.control.state = .ready := by simpa [takenIn] using hst
    exact hd.betweenHeld (by simp [hready]) (by simp [hready, holdsProgramme]) (by simp) (by simp)
  case testStep | testEnd =>
    refine request_heldSound (fun {_ d} hd hst => ?_) h hs
    have htest : d.control.state = .test := by simpa [takenIn] using hst
    exact hd.betweenHeld (by simp [htest]) (by simp [htest, holdsProgramme]) (by simp) (by simp)
  case rowWrite | rowRead | matchWrite | weftMapWrite | status | flagsTake | faultListRead | faultListClear | historyRead
      | rosterRead | noticeMask =>
    exact request_heldSound (fun hd _ => hd.frame (by simp) (by simp)) h hs

theorem step_heldSound {s t : State} (h : HeldSound s.dev) (hs : step s = .next t) : HeldSound t.dev := by
  unfold step at hs
  split at hs
  · obtain rfl := Host.Outcome.next.inj hs
    unfold idleTick
    split
    · exact (elapse_heldSound 1 (idleLine s.dev) h).frame (by simp [tickDevice]) (by simp [tickDevice])
    · exact h
  · next i rest _ => exact exec_heldSound i (s := { s with pending := rest }) h hs

end Sys2Proof.Machine
end

section
/-! SUPPORT. The requests that write the programme and end LOAD (R18, R29 to R34, R152, R164), each case as an answer. -/

namespace Sys2Proof.Machine

/-! ## Requests taken and run -/

/-- A request row asked for in a state that takes it runs its effect over the queue's rest. -/
theorem exec_request {r : Request} {p : List Byte} {broadcast : Device → Device} {run : List Byte → Device → Device} {s : State}
    (h : asked r p s.dev = true) (hs : s.dev.control.state ∈ takenIn r) :
    completed (takeRequest r broadcast run) s = .next { s with dev := run p (popQueue s.dev) } := by
  rw [completed_powered (asked_powered h), takeRequest_taken h hs]

/-- The same where the effect is an answer alone. -/
theorem exec_request_answer {r : Request} {res : Result} {p : List Byte} {broadcast : Device → Device}
    {run : List Byte → Device → Device} {s : State} (h : asked r p s.dev = true) (hs : s.dev.control.state ∈ takenIn r)
    (hrun : run p (popQueue s.dev) = answer r res (popQueue s.dev)) :
    completed (takeRequest r broadcast run) s =
      .next { s with dev := { s.dev with line := answered r res noDetail [] s.dev } } := by
  rw [exec_request h hs, hrun, answer_popQueue]

/-! ## RUN WRITE, MATCH WRITE, WEFT MAP WRITE (R18, R152, R164) -/

theorem runRunWrite_refused {p : List Byte} (d : Device)
    (h : p.length ≠ 10 ∨ 63 < fieldAt p 0 1 ∨ runInRange (runFields p) = false) :
    runRunWrite p d = answer .runWrite .range d := if_pos h

theorem runMatchWrite_refused {p : List Byte} (d : Device)
    (h : p.length ≠ 12 ∨ 11 < fieldAt p 0 1 ∨
      ∀ act, actionOf (fieldAt p 10 1) = some act → matchInRange (matchFields p act) = false) :
    runMatchWrite p d = answer .matchWrite .range d := by
  unfold runMatchWrite
  split
  · rfl
  · next act hact => exact if_pos (h.imp_right (Or.imp_right fun hr => hr act hact))

theorem runWeftMapWrite_section (p : List Byte) {d : Device} (h : d.control.role = .sectionRole) :
    runWeftMapWrite p d = answer .weftMapWrite .role d := by
  simp [runWeftMapWrite, isSection, h]

theorem runWeftMapWrite_weft (p : List Byte) {d : Device} (h : d.control.role = .weftRole) :
    runWeftMapWrite p d =
      if p.length ≠ 4 ∨ 7 < fieldAt p 0 1 ∨ mapInRange (mapFields p) = false then answer .weftMapWrite .range d
      else answer .weftMapWrite .done (storeMap (fieldAt p 0 1) (mapFields p) d) := by
  simp [runWeftMapWrite, isSection, h]

/-- R18: a run with a field out of range. -/
theorem runInRange_eq_false {p : List Byte} (h : 16383 < fieldAt p 1 2 ∨ 16383 < fieldAt p 3 2 ∨ fieldAt p 5 2 = 0 ∨
      4095 < fieldAt p 5 2 ∨ 63 < fieldAt p 7 1 ∨ (7 < fieldAt p 8 1 ∧ fieldAt p 8 1 ≠ 15 ∧ fieldAt p 8 1 ≠ 255)) :
    runInRange (runFields p) = false := by
  rw [← Bool.not_eq_true]
  simp only [runInRange, Bool.and_eq_true, decide_eq_true_eq]
  simp only [runFields]
  rintro ⟨⟨⟨⟨⟨hfrom, hto⟩, hlo⟩, hhi⟩, hnext⟩, hcode⟩
  obtain h | h | h | h | h | ⟨hk, h15, h255⟩ := h
  · omega
  · omega
  · omega
  · omega
  · omega
  · rw [if_neg h255] at hcode
    simp [weftCodeGood] at hcode
    omega

theorem matchField_of_sent {p : List Byte} {place : Nat} (h : (p.getD 1 0#8).getLsbD place = false) (i n : Nat) :
    matchField p place i n = some (fieldAt p i n) := by
  simp only [matchField, markAt, h]
  rfl

/-- R164: an entry with a field out of range that is not marked ANY. -/
theorem matchInRange_eq_false {p : List Byte} (act : MatchAction)
    (h : ((p.getD 1 0#8).getLsbD 0 = false ∧ 63 < fieldAt p 2 1) ∨
      ((p.getD 1 0#8).getLsbD 1 = false ∧ (fieldAt p 3 2 = 0 ∨ 4095 < fieldAt p 3 2)) ∨
      ((p.getD 1 0#8).getLsbD 2 = false ∧ 16383 < fieldAt p 5 2)) : matchInRange (matchFields p act) = false := by
  rw [← Bool.not_eq_true]
  simp only [matchInRange, Bool.and_eq_true]
  rintro ⟨⟨⟨hrun, hiter⟩, hrow⟩, -⟩
  obtain ⟨hmark, hbad⟩ | ⟨hmark, hbad⟩ | ⟨hmark, hbad⟩ := h
  · simp only [matchFields, matchField_of_sent hmark, Option.all_some, decide_eq_true_eq] at hrun
    omega
  · simp only [matchFields, matchField_of_sent hmark, Option.all_some, Bool.and_eq_true, decide_eq_true_eq] at hiter
    omega
  · simp only [matchFields, matchField_of_sent hmark, Option.all_some, decide_eq_true_eq] at hrow
    omega

theorem actionOf_eq_none {n : Nat} (h : 2 < n) : actionOf n = none := by
  unfold actionOf
  split
  · omega
  · omega
  · omega
  · rfl

/-- R152: an entry with a finger out of range, or with one finger twice. -/
theorem mapInRange_eq_false {p : List Byte}
    (h : 7 < fieldAt p 1 1 ∨ (7 < fieldAt p 2 1 ∧ fieldAt p 2 1 ≠ 255) ∨ fieldAt p 2 1 = fieldAt p 1 1) :
    mapInRange (mapFields p) = false := by
  rw [← Bool.not_eq_true]
  simp only [mapInRange, Bool.and_eq_true, decide_eq_true_eq, Option.all_eq_true_iff_get]
  rintro ⟨hprimary, halternate⟩
  have hp : (mapFields p).primary = fieldAt p 1 1 := rfl
  by_cases h255 : fieldAt p 2 1 = 255
  · omega
  · have ha : (mapFields p).alternate = some (fieldAt p 2 1) := if_neg h255
    simp only [ha, Option.isSome_some, Option.get_some, forall_true_left] at halternate
    omega

/-! ## LOAD DONE (R29 to R34) -/

theorem loadFailure_popQueue (d : Device) : loadFailure (popQueue d) = loadFailure d := rfl

theorem exec_loadDone_failed {s : State} {t : Detail} (h : asked .loadDone [] s.dev = true) (hs : s.dev.control.state = .load)
    (ht : loadFailure s.dev = some t) :
    exec .loadDone s = .next { s with dev := { s.dev with line := answered .loadDone .invalid t [] s.dev } } := by
  refine (exec_request h (by simp [hs, takenIn])).trans ?_
  rw [runLoadDone, withLength, if_pos List.length_nil, loadFailure_popQueue, ht]
  exact congrArg (fun d => Host.Outcome.next { s with dev := d }) (answerInvalid_popQueue .loadDone t s.dev)

theorem exec_loadDone_passed {s : State} (h : asked .loadDone [] s.dev = true) (hs : s.dev.control.state = .load)
    (ht : loadFailure s.dev = none) :
    exec .loadDone s = .next { s with dev :=
      { finishLoad s.dev with line := answered .loadDone .done noDetail [] (finishLoad s.dev) } } := by
  refine (exec_request h (by simp [hs, takenIn])).trans ?_
  rw [runLoadDone, withLength, if_pos List.length_nil, loadFailure_popQueue, ht]
  exact congrArg (fun d => Host.Outcome.next { s with dev := d })
    ((congrArg _ (finishLoad_popQueue s.dev)).trans (answer_popQueue .loadDone .done (finishLoad s.dev)))

/-- What a LOAD DONE that passes leaves of the station (R34): the blocks other than the strings, which the dwell test may change. -/
theorem finishLoad_eq (d : Device) :
    finishLoad d = { d with
      control := { d.control with state := .ready }
      seq := (setPosition (startPosition d) d).seq
      weft := { d.weft with toggles := if d.control.role = .weftRole then 0#8 else d.weft.toggles }
      strings := (finishLoad d).strings } := by
  unfold finishLoad enterReady
  rw [dwellTest_strings_only]
  cases hr : d.control.role <;> simp [doIf, isWeft, setState, setPosition, onControl, onWeft, onSeq, hr]

theorem finishLoad_strings {d : Device} (h : dwellDue d = false) : (finishLoad d).strings = d.strings := by
  have hdue : ∀ x : Device, x.tracker = d.tracker → x.control.config = d.control.config → dwellDue x = false := by
    intro x htracker hconfig
    rw [← h, dwellDue, dwellDue, htracker, hconfig]
  unfold finishLoad enterReady
  rw [dwellTest_idle (.inr (hdue _ (by simp) (by simp)))]
  simp

end Sys2Proof.Machine
end

section
/-! The statements about the pick programme, settled. -/

namespace Sys2Proof.Machine

/-- Settles O57: every step keeps `HeldSound`. -/
theorem positionStaysValid : Obligations.PositionStaysValid := by
  unfold Obligations.PositionStaysValid
  intro s t htraining hposition hs
  obtain ⟨htraining', hposition'⟩ := step_heldSound ⟨htraining, hposition⟩ hs
  exact ⟨htraining', hposition'⟩

/-- Settles O12: the cases of the advance, and `advance_iterate`. -/
theorem advanceFollowsTheRun : Obligations.AdvanceFollowsTheRun := by
  unfold Obligations.AdvanceFollowsTheRun
  intro runs p r hr
  refine ⟨rfl, fun hin hto => ?_, fun hto hit => ?_, fun r' hto hit hn => ?_, fun hone hin => ?_, fun hrow hit i hi => ?_⟩
  · rw [advance_of_not_toRow hr hto]
    exact ⟨by simp [ascending], inRange_advance hin hto, rfl, rfl⟩
  · rw [advance_of_iteration_lt hr hto hit]
    exact ⟨rfl, rfl, rfl⟩
  · rw [advance_of_last hr hto hit.ge hn]
    exact ⟨rfl, rfl, rfl⟩
  · rw [inRange_iff] at hin
    omega
  · obtain ⟨hrun, hiter, hplace⟩ := advance_iterate hr hrow hit i hi
    exact ⟨hrun, hiter, by rw [hplace, runRows_getElem?, if_pos (Nat.mod_lt _ (runLength_pos r))]⟩

/-- Settles O33: the command by `exec_loadDone_failed` and `exec_loadDone_passed`, the first failure run by run by the `_of_first`
lemmas. -/
theorem loadDonePassesOrChangesNothing : Obligations.LoadDonePassesOrChangesNothing := by
  unfold Obligations.LoadDonePassesOrChangesNothing
  refine ⟨fun s h hs => ⟨loadFailure_startUnwritten, fun f hf => exec_loadDone_failed h hs hf, fun hf => ?_⟩,
    fun s chained hchained hstart hsorted => ?_⟩
  · obtain ⟨⟨r, hr⟩, -⟩ := passes_of_loadFailure_none hf
    refine ⟨_, r, exec_loadDone_passed h hs hf, rfl, hr, ?_, fun hdue => finishLoad_strings hdue⟩
    have hline : answered .loadDone .done noDetail [] (finishLoad s.dev) = answered .loadDone .done noDetail [] s.dev := by
      simp [answered, replyFrame]
    rw [hline, finishLoad_eq]
    simp [setPosition, startPosition_eq hr]
  · have hpasses (j : Nat) (q : Run) : runFailure s.dev j q = none ↔ chained q := by
      rw [runFailure_eq_none_iff, hchained]
    refine ⟨fun i r hi hr hbefore => ⟨fun hn => ?_, fun before row after hn hrows hwritten hrow => ?_⟩, fun hall => ?_⟩
    · exact loadFailure_of_runsFailure hstart
        (runsFailure_of_first hi hr (runFailure_nextUnwritten hn) fun j q hj hq => (hpasses j q).mpr (hbefore j q hj hq))
    · exact loadFailure_of_runsFailure hstart (runsFailure_of_first hi hr
        (runFailure_rowUnwritten hn hrows hwritten hrow) fun j q hj hq => (hpasses j q).mpr (hbefore j q hj hq))
    · have hruns : runsFailure s.dev = none :=
        (runsFailure_eq_none_iff s.dev).mpr fun j q hj hq => (hpasses j q).mpr (hall j q hj hq)
      refine ⟨loadFailure_section hstart hruns, fun i r k hrole hi hr hk hlt hun hbefore => ?_, fun hmapped hrole => ?_⟩
      · rw [loadFailure_weft hstart hruns hrole, overrideFailure_of_first hi hr hk ((unmapped_iff _ _).mpr ⟨hlt, hun⟩)
          fun j q l hj hq hl => (unmapped_eq_false_iff _ _).mpr (hbefore j q l hj hq hl)]
        rfl
      · rw [loadFailure_weft hstart hruns hrole, overrideFailure_eq_none fun j q l hj hq hl =>
          (unmapped_eq_false_iff _ _).mpr (hmapped j q l hj hq hl), Option.none_or]
        refine ⟨fun row k hrow hk hlt hun hbefore => ?_, fun hcodes =>
          rowCodeFailure_eq_none fun x hx => (unmapped_eq_false_iff _ _).mpr (hcodes x hx)⟩
        subst hk
        exact rowCodeFailure_of_first hsorted hrow ((unmapped_iff _ _).mpr ⟨hlt, hun⟩) fun x hx hlt =>
          (unmapped_eq_false_iff _ _).mpr (hbefore x hx hlt)

/-- Settles O32: each request by its own cases, the ends of the fields by the `InRange_eq_false` lemmas. -/
theorem programmeIsWritten : Obligations.ProgrammeIsWritten := by
  unfold Obligations.ProgrammeIsWritten
  refine ⟨fun s p => ⟨fun h hs hlen hi hr => ?_, fun h hs hlen hi act hact hr => ?_, fun h hs hrole hlen hk hr => ?_⟩,
    fun s p => ⟨fun h hs hbad => ?_, fun h hs hbad => ?_, fun h hs => ⟨fun hrole => ?_, fun hrole hbad => ?_⟩⟩⟩
  · refine (exec_request h (by simp [hs, takenIn])).trans ?_
    rw [runRunWrite, if_neg (by simp [hlen, hr, hi])]
    exact congrArg (fun d => Host.Outcome.next { s with dev := d }) (answer_popQueue .runWrite .done (storeRun _ _ _ s.dev))
  · refine (exec_request h (by simpa [takenIn] using hs)).trans ?_
    simp only [runMatchWrite, hact]
    rw [if_neg (by simp [hlen, hr, hi])]
    exact congrArg (fun d => Host.Outcome.next { s with dev := d }) (answer_popQueue .matchWrite .done (storeMatch _ _ s.dev))
  · refine (exec_request h (by simp [hs, takenIn])).trans ?_
    rw [runWeftMapWrite_weft p (by simpa using hrole), if_neg (by simp [hlen, hr, hk])]
    exact congrArg (fun d => Host.Outcome.next { s with dev := d }) (answer_popQueue .weftMapWrite .done (storeMap _ _ s.dev))
  · exact exec_request_answer h (by simp [hs, takenIn])
      (runRunWrite_refused _ (hbad.imp_right (Or.imp_right runInRange_eq_false)))
  · refine exec_request_answer h (by simpa [takenIn] using hs) (runMatchWrite_refused _ ?_)
    obtain hlen | hi | hact | hfield := hbad
    · exact .inl hlen
    · exact .inr (.inl hi)
    · exact .inr (.inr fun act h => by simp [actionOf_eq_none hact] at h)
    · exact .inr (.inr fun act _ => matchInRange_eq_false act hfield)
  · exact exec_request_answer h (by simp [hs, takenIn]) (runWeftMapWrite_section p (by simpa using hrole))
  · refine exec_request_answer h (by simp [hs, takenIn]) ?_
    rw [runWeftMapWrite_weft p (by simpa using hrole), if_pos (hbad.imp_right (Or.imp_right mapInRange_eq_false))]

end Sys2Proof.Machine
end

section
/-! SUPPORT. The bounds of the stores, tables and counts, block by block, and the operations of the machine, each of which stays
within them (R11, R16, R38, R60, R74, R79, R99, R125, R126, R137, R151, R163). -/

namespace Sys2Proof.Machine

/-! ## The bounds, block by block -/

/-- Numbers in rising order, none twice, all below `n` (R60, R99). -/
def RisingBelow (n : Nat) (l : List Nat) : Prop := l.Pairwise (· < ·) ∧ ∀ x ∈ l, x < n

/-- The counter, the unsettled spans and the stationary time (ch. 1, R11). -/
def TrackerWithin (t : Tracker) : Prop := t.angle < 4096 ∧ t.unsettled ≤ 2 ∧ t.stationary ≤ 600

/-- The pick history, the programme and the match table (R16, R38, R163). -/
def SeqWithin (q : Sequencer) : Prop := q.history.length ≤ 24 ∧ q.runs.length = 64 ∧ q.table.length = 12

/-- The receive queue and the measured runs (R74, R79). -/
def LineWithin (l : Line) : Prop := l.queue.length ≤ 4 ∧ l.recessiveRun ≤ 1000 ∧ l.dominantRun ≤ 2001

/-- The fault list, its overflow count and the strings (R126, R137). -/
def DriverWithin (g : StringDriver) : Prop := g.faults.length ≤ 32 ∧ g.overflow ≤ 65535 ∧ g.strings.length = 8

/-- The index angle configured (R171). -/
def ConfigWithin (o : Option Configuration) : Prop := ∀ c, o = some c → c.index < 4096

/-- Every block of the station within its bounds. -/
structure WithinBounds (d : Device) : Prop where
  tracker : TrackerWithin d.tracker
  seq : SeqWithin d.seq
  store : RisingBelow 16384 d.store.written
  line : LineWithin d.line
  roster : RisingBelow 32 (d.roster.entries.map (·.station))
  fire : d.fire.strings.length = 8
  strings : DriverWithin d.strings
  weft : d.weft.map.length = 8
  config : ConfigWithin d.control.config

theorem withinBounds_iff (d : Device) : withinBounds d = true ↔ WithinBounds d := by
  have hconfig : (d.control.config.all fun c => decide (c.index < 4096)) = true ↔ ConfigWithin d.control.config := by
    cases h : d.control.config <;> simp [ConfigWithin]
  simp only [withinBounds, Bool.and_eq_true, decide_eq_true_eq, hconfig, List.all_eq_true]
  constructor
  · rintro ⟨⟨⟨⟨⟨⟨⟨⟨⟨⟨⟨⟨⟨⟨⟨⟨⟨⟨hhistory, hqueue⟩, hfaults⟩, hangle⟩, hconfig⟩, hunsettled⟩, hstationary⟩, hrecessive⟩, hdominant⟩,
      hoverflow⟩, hstrings⟩, hfire⟩, hruns⟩, htable⟩, hmap⟩, hstations⟩, hnumbers⟩, hwritten⟩, hrows⟩
    exact ⟨⟨hangle, hunsettled, hstationary⟩, ⟨hhistory, hruns, htable⟩, ⟨hwritten, hrows⟩, ⟨hqueue, hrecessive, hdominant⟩,
      ⟨hstations, by simpa using hnumbers⟩, hfire, ⟨hfaults, hoverflow, hstrings⟩, hmap, hconfig⟩
  · rintro ⟨⟨hangle, hunsettled, hstationary⟩, ⟨hhistory, hruns, htable⟩, ⟨hwritten, hrows⟩, ⟨hqueue, hrecessive, hdominant⟩,
      ⟨hstations, hnumbers⟩, hfire, ⟨hfaults, hoverflow, hstrings⟩, hmap, hconfig⟩
    exact ⟨⟨⟨⟨⟨⟨⟨⟨⟨⟨⟨⟨⟨⟨⟨⟨⟨⟨hhistory, hqueue⟩, hfaults⟩, hangle⟩, hconfig⟩, hunsettled⟩, hstationary⟩, hrecessive⟩, hdominant⟩,
      hoverflow⟩, hstrings⟩, hfire⟩, hruns⟩, htable⟩, hmap⟩, hstations⟩, by simpa using hnumbers⟩, hwritten⟩, hrows⟩

/-! ## Writing one block -/

section
variable {d : Device}

theorem onTracker_within {f : Tracker → Tracker} (hf : TrackerWithin d.tracker → TrackerWithin (f d.tracker))
    (h : WithinBounds d) : WithinBounds (onTracker f d) := { h with tracker := hf h.tracker }

theorem onSeq_within {f : Sequencer → Sequencer} (hf : SeqWithin d.seq → SeqWithin (f d.seq)) (h : WithinBounds d) :
    WithinBounds (onSeq f d) := { h with seq := hf h.seq }

theorem onStore_within {f : Store → Store}
    (hf : RisingBelow 16384 d.store.written → RisingBelow 16384 (f d.store).written) (h : WithinBounds d) :
    WithinBounds (onStore f d) := { h with store := hf h.store }

theorem onLine_within {f : Line → Line} (hf : LineWithin d.line → LineWithin (f d.line)) (h : WithinBounds d) :
    WithinBounds (onLine f d) := { h with line := hf h.line }

theorem onRoster_within {f : Roster → Roster}
    (hf : RisingBelow 32 (d.roster.entries.map (·.station)) → RisingBelow 32 ((f d.roster).entries.map (·.station)))
    (h : WithinBounds d) : WithinBounds (onRoster f d) := { h with roster := hf h.roster }

theorem onFire_within {f : FireTimer → FireTimer} (hf : d.fire.strings.length = 8 → (f d.fire).strings.length = 8)
    (h : WithinBounds d) : WithinBounds (onFire f d) := { h with fire := hf h.fire }

theorem onStrings_within {f : StringDriver → StringDriver} (hf : DriverWithin d.strings → DriverWithin (f d.strings))
    (h : WithinBounds d) : WithinBounds (onStrings f d) := { h with strings := hf h.strings }

theorem onTrainer_within (f : Trainer → Trainer) (h : WithinBounds d) : WithinBounds (onTrainer f d) := { h with }

theorem onWeft_within {f : WeftSel → WeftSel} (hf : d.weft.map.length = 8 → (f d.weft).map.length = 8) (h : WithinBounds d) :
    WithinBounds (onWeft f d) := { h with weft := hf h.weft }

theorem onControl_within {f : Control → Control} (hf : ConfigWithin d.control.config → ConfigWithin (f d.control).config)
    (h : WithinBounds d) : WithinBounds (onControl f d) := { h with config := hf h.config }

theorem onPins_within (f : Pins → Pins) (h : WithinBounds d) : WithinBounds (onPins f d) := { h with }

/-- An operation that stays within the bounds does so under a condition. -/
theorem doIf_within (c : Bool) {f : Device → Device} (hf : WithinBounds d → WithinBounds (f d)) (h : WithinBounds d) :
    WithinBounds (doIf c f d) := by
  cases c
  · exact h
  · exact hf h

/-- Either branch within the bounds. -/
theorem ite_within {c : Prop} [Decidable c] {a b : Device} (ha : WithinBounds a) (hb : WithinBounds b) :
    WithinBounds (if c then a else b) := by
  split
  · exact ha
  · exact hb

/-! ## Flags, counters, pulses, replies -/

theorem setFlag_within (f : Flag) (h : WithinBounds d) : WithinBounds (setFlag f d) := onControl_within id h

theorem count_within (f : Counters → Counters) (h : WithinBounds d) : WithinBounds (count f d) := onLine_within id h

theorem discardBeacon_within (late : Bool) (h : WithinBounds d) : WithinBounds (discardBeacon late d) := by
  unfold discardBeacon
  split
  · exact h
  · exact onLine_within id (doIf_within _ (count_within _) (doIf_within _ (onLine_within id) h))

theorem requestPulse_within (h : WithinBounds d) : WithinBounds (requestPulse d) := by
  unfold requestPulse
  split
  · exact h
  · split
    · exact setFlag_within _ h
    · exact setFlag_within _ (onLine_within (fun hl => ⟨hl.1, Nat.zero_le _, hl.2.2⟩) h)

theorem ownHold_within (h : WithinBounds d) : WithinBounds (ownHold d) :=
    ite_within (requestPulse_within (onSeq_within id h)) h

theorem writeRetained_within (h : WithinBounds d) : WithinBounds (writeRetained d) := onControl_within id h

theorem placeReply_within (f : Frame) (h : WithinBounds d) : WithinBounds (placeReply f d) := onLine_within id h

/-! ## Row fetches (R64) -/

theorem startPickFetch_within (reverse : Bool) (h : WithinBounds d) : WithinBounds (startPickFetch reverse d) :=
  onSeq_within id (onStore_within id h)

theorem startTestFetch_within (row : Nat) (h : WithinBounds d) : WithinBounds (startTestFetch row d) :=
  onSeq_within id (onStore_within id h)

theorem bringBackWeft_within (e : HistoryEntry) (h : WithinBounds d) : WithinBounds (bringBackWeft e d) := onSeq_within id h

theorem endPickFetch_within (h : WithinBounds d) : WithinBounds (endPickFetch d) := by
  unfold endPickFetch
  split
  · exact onStore_within id h
  · exact h

theorem endTestFetch_within (h : WithinBounds d) : WithinBounds (endTestFetch d) := by
  unfold endTestFetch
  split
  · exact onStore_within id h
  · exact h

/-! ## Weft selection (ch. 10) -/

theorem setChoice_within (c : Choice) (h : WithinBounds d) : WithinBounds (setChoice c d) := onWeft_within id h

theorem setArrival_within (a : Arrival) (h : WithinBounds d) : WithinBounds (setArrival a d) := onWeft_within id h

theorem putToggle_within (k : Nat) (v : Bool) (h : WithinBounds d) : WithinBounds (putToggle k v d) :=
    ite_within (onWeft_within id h) h

theorem flipToggle_within (k : Nat) (h : WithinBounds d) : WithinBounds (flipToggle k d) := by
  unfold flipToggle
  split
  · split
    · exact putToggle_within _ _ h
    · exact h
  · exact h

theorem noFinger_within (h : WithinBounds d) : WithinBounds (noFinger d) :=
  ownHold_within (setFlag_within _ (setChoice_within _ h))

theorem substitute_within (other : Option Nat) (h : WithinBounds d) : WithinBounds (substitute other d) := by
  unfold substitute
  split
  · split
    · exact noFinger_within h
    · exact setFlag_within _ (setChoice_within _ h)
  · exact noFinger_within h

theorem chooseFinger_within (k : Nat) (h : WithinBounds d) : WithinBounds (chooseFinger k d) := by
  unfold chooseFinger
  split
  · exact setChoice_within _ h
  · dsimp only
    split
    · exact substitute_within _ h
    · exact setChoice_within _ h

theorem startChoice_within (h : WithinBounds d) : WithinBounds (startChoice d) := by
  unfold startChoice
  split
  · exact chooseFinger_within _ h
  · exact setChoice_within _ h

theorem weftIsMissing_within (h : WithinBounds d) : WithinBounds (weftIsMissing d) := ownHold_within (setFlag_within _ h)

theorem weftForwardBoundary_within (kind : CrossKind) (left : Nat) (h : WithinBounds d) :
    WithinBounds (weftForwardBoundary kind left d) :=
    ite_within (setArrival_within _ (doIf_within _ weftIsMissing_within (startChoice_within (doIf_within _ (flipToggle_within _) h)))) h

theorem weftReversePop_within (e : HistoryEntry) (h : WithinBounds d) : WithinBounds (weftReversePop e d) :=
    ite_within (onWeft_within id (putToggle_within _ _ h)) h

theorem weftReverseEmpty_within (h : WithinBounds d) : WithinBounds (weftReverseEmpty d) :=
    ite_within (onWeft_within id h) h

theorem weftRetract_within (e : HistoryEntry) (h : WithinBounds d) : WithinBounds (weftRetract e d) :=
    ite_within (startChoice_within (setArrival_within _ (putToggle_within _ _ h))) h

theorem outputChoice_within (h : WithinBounds d) : WithinBounds (outputChoice d) := onWeft_within id h

theorem weftCodeArrives_within (k : Nat) (h : WithinBounds d) : WithinBounds (weftCodeArrives k d) := by
  unfold weftCodeArrives
  split
  · refine doIf_within _ (fun hc => ?_) (chooseFinger_within k h)
    exact doIf_within _ (setArrival_within _) (onWeft_within id (outputChoice_within hc))
  · exact h

theorem reexamine_within (h : WithinBounds d) : WithinBounds (reexamine d) := by
  unfold reexamine
  split
  · split
    · exact substitute_within _ h
    · exact h
  · exact h

theorem fingerAngle_within (h : WithinBounds d) : WithinBounds (fingerAngle d) :=
  onWeft_within id (outputChoice_within (reexamine_within h))

theorem arrivalClose_within (h : WithinBounds d) : WithinBounds (arrivalClose d) :=
    ite_within (setArrival_within _ (weftIsMissing_within h)) (doIf_within _ (setArrival_within _) h)

theorem detectorPulse_within (h : WithinBounds d) : WithinBounds (detectorPulse d) := by
  unfold detectorPulse
  split
  · exact setFlag_within _ h
  · exact setArrival_within _ h
  · exact h

theorem feederInput_within (finger : Nat) (active : Bool) (h : WithinBounds d) : WithinBounds (feederInput finger active d) := by
  have hpins (f : Pins → Pins) : WithinBounds (onPins f d) := onPins_within f h
  exact ite_within (ite_within (setFlag_within _ (hpins _)) (onWeft_within id (ownHold_within (setFlag_within _ (hpins _)))))
    (hpins _)

/-! ## The measured runs (R74) -/

theorem judgeStopBit_within {l : Line} (h : LineWithin l) : LineWithin (judgeStopBit l) := by simpa [LineWithin] using h

theorem runBit_within {l : Line} (recessive : Bool) (h : LineWithin l) : LineWithin (runBit l recessive) := by
  obtain ⟨hqueue, -, -⟩ := h
  cases recessive <;> simp [runBit, LineWithin, hqueue]

theorem runBits_within (bits : List Bool) {l : Line} (h : LineWithin l) : LineWithin (runBits bits l) := by
  induction bits generalizing l with
  | nil => exact h
  | cons b bits ih => exact ih (runBit_within b h)

theorem measureRun_within (r : LineRun) {l : Line} (h : LineWithin l) : LineWithin (measureRun l r) := by
  have ⟨hqueue, _, _⟩ := h
  cases r with
  | dominant n =>
    simp only [measureRun]
    split
    · exact h
    · exact ⟨hqueue, Nat.zero_le _, Nat.min_le_right _ _⟩
  | recessive n =>
    simp only [measureRun]
    split
    · exact h
    · exact ⟨(judgeStopBit_within h).1, Nat.min_le_right _ _, Nat.zero_le _⟩

theorem measureRuns_within (rs : List LineRun) {l : Line} (h : LineWithin l) : LineWithin (measureRuns rs l) := by
  induction rs generalizing l with
  | nil => exact h
  | cons r rs ih => exact ih (measureRun_within r h)

theorem sendBits_within (bits : List Bool) (n : Nat) (others : List LineRun) {l : Line} (h : LineWithin l) :
    LineWithin (sendBits bits n others l) := by
  induction bits generalizing n others l with
  | nil =>
    cases n with
    | zero => exact h
    | succ n => exact measureRuns_within _ h
  | cons b bits ih =>
    cases n with
    | zero => exact h
    | succ n =>
      unfold sendBits
      split
      · exact measureRuns_within _ (l := { l with held := true }) h
      · exact ih _ _ (measureRun_within (if b then .recessive 1 else .dominant 1) h)

theorem elapseRuns_within (dt : Nat) (others : List LineRun) {l : Line} (h : LineWithin l) :
    LineWithin (elapseRuns dt others l) := by
  suffices hm : LineWithin (measureLine (bitTimes l.halfBit dt).1 (pulseBits dt l) others l) from hm
  unfold measureLine
  split
  · exact measureRuns_within _ h
  · exact measureRuns_within _ h
  · split
    · exact measureRuns_within _ h
    · exact sendBits_within _ _ _ h

theorem measuredRecessive_within (n : Nat) (h : WithinBounds d) : WithinBounds (measuredRecessive n d) :=
  ite_within h (onLine_within (fun hl => ⟨(judgeStopBit_within hl).1, Nat.min_le_right _ _, Nat.zero_le _⟩) h)

theorem recessiveReaches_within (n : Nat) (h : WithinBounds d) : WithinBounds (recessiveReaches n d) :=
  measuredRecessive_within _ h

theorem measuredDominant_within (n : Nat) (h : WithinBounds d) : WithinBounds (measuredDominant n d) :=
  onLine_within (fun hl => ⟨hl.1, Nat.zero_le _, Nat.min_le_right _ _⟩) h

theorem passedChars_within (chars : List LineChar) (h : WithinBounds d) : WithinBounds (passedChars chars d) := by
  unfold passedChars
  split
  · refine ite_within h (onLine_within (fun ⟨hqueue, hrecessive, _⟩ => ?_) h)
    exact runBits_within _ (l := { d.line with dominantRun := 0, ownPulse := false }) ⟨hqueue, hrecessive, Nat.zero_le _⟩
  · exact h

/-! ## The receiver (R76 to R79) -/

theorem setReceiver_within (r : Receiver) (h : WithinBounds d) : WithinBounds (setReceiver r d) := onLine_within id h

theorem dropForFraming_within (h : WithinBounds d) : WithinBounds (dropForFraming d) := count_within _ (setReceiver_within _ h)

theorem dropForCheck_within (h : WithinBounds d) : WithinBounds (dropForCheck d) := count_within _ (setReceiver_within _ h)

/-- A frame joins the receive queue only where the queue holds fewer than 4 (R79). -/
theorem enqueue_within (f : Frame) (h : WithinBounds d) : WithinBounds (enqueue f d) := by
  unfold enqueue
  split
  · next hroom =>
    refine onLine_within (fun ⟨_, hruns⟩ => ⟨?_, hruns⟩) h
    simp only [List.length_append, List.length_singleton]
    omega
  · exact count_within _ h

theorem goodFrame_within (a : Assembly) (h : WithinBounds d) : WithinBounds (goodFrame a d) := by
  have hd : WithinBounds (setReceiver .hunt d) := setReceiver_within _ h
  exact ite_within hd (ite_within (enqueue_within _ (count_within _ hd)) (count_within _ hd))

theorem takeChar_within (r : Receiver) (b : Byte) (h : WithinBounds d) : WithinBounds (takeChar r b d) := by
  have hset (r : Receiver) : WithinBounds (setReceiver r d) := setReceiver_within r h
  have hdrop : WithinBounds (dropForCheck d) := dropForCheck_within h
  cases r with
  | hunt | awaitingRun => exact h
  | header a => exact ite_within (hset _) (ite_within hdrop (ite_within (hset _) (hset _)))
  | payload a => exact ite_within (hset _) (hset _)
  | check a => exact ite_within (hset _) (ite_within (goodFrame_within _ h) hdrop)

theorem receiveChar_within (c : LineChar) (h : WithinBounds d) : WithinBounds (receiveChar d c) := by
  have hd : WithinBounds (onLine judgeStopBit d) := onLine_within judgeStopBit_within h
  unfold receiveChar
  dsimp only
  split
  · exact hd
  · exact ite_within (setReceiver_within _ hd) (ite_within (takeChar_within _ _ hd) (dropForFraming_within hd))

theorem receiveChars_within (chars : List LineChar) (h : WithinBounds d) : WithinBounds (receiveChars chars d) := by
  suffices hall : WithinBounds (chars.foldl receiveChar d) from passedChars_within chars hall
  induction chars generalizing d with
  | nil => exact h
  | cons c chars ih => exact ih (receiveChar_within c h)

theorem receiveMark_within (recessive : Nat) (first : LineChar) (second : Option LineChar) (h : WithinBounds d) :
    WithinBounds (receiveMark recessive first second d) := by
  unfold receiveMark
  dsimp only
  split
  · exact passedChars_within _ (passedChars_within _ (doIf_within _ (setReceiver_within _) (measuredRecessive_within _ h)))
  · exact recessiveReaches_within _ (passedChars_within _ (doIf_within _ (setReceiver_within _) (measuredRecessive_within _ h)))

theorem receiveGap_within (h : WithinBounds d) : WithinBounds (receiveGap d) :=
  doIf_within _ dropForFraming_within (recessiveReaches_within _ h)

/-! ## The stuck line and the transmitter (R81 to R89) -/

theorem lineSticks_within (h : WithinBounds d) : WithinBounds (lineSticks d) :=
  setFlag_within _ (onLine_within id (measuredDominant_within _ h))

theorem lineClears_within (h : WithinBounds d) : WithinBounds (lineClears d) :=
  ite_within (onLine_within id (recessiveReaches_within _ h)) h

theorem startFrame_within (recessive : Nat) (h : WithinBounds d) : WithinBounds (startFrame recessive d) := by
  have hd : WithinBounds (measuredRecessive recessive d) := measuredRecessive_within _ h
  unfold startFrame
  dsimp only
  split
  · exact ite_within (onLine_within (fun ⟨hqueue, _, hdominant⟩ => ⟨hqueue, Nat.zero_le _, hdominant⟩) hd) hd
  · exact hd

theorem clearSlot_within (slot : SlotName) (h : WithinBounds d) : WithinBounds (clearSlot slot d) := by
  unfold clearSlot
  split <;> exact onLine_within id h

theorem raiseAttempts_within (slot : SlotName) (h : WithinBounds d) : WithinBounds (raiseAttempts slot d) := by
  unfold raiseAttempts
  split <;> exact onLine_within id h

theorem endPulse_within (h : WithinBounds d) : WithinBounds (endPulse d) := ite_within (onLine_within id h) h

theorem completeWith_within (f : Frame) (h : WithinBounds d) : WithinBounds (completeWith f d) :=
  ite_within (placeReply_within f h) (onLine_within id h)

theorem admitCompletion_within (h : WithinBounds d) : WithinBounds (admitCompletion d) := by
  unfold admitCompletion
  split
  · exact onLine_within id h
  · exact h

/-! ## The beacon (R95 to R97) -/

theorem buildBeacon_within (h : WithinBounds d) : WithinBounds (buildBeacon d) := by
  unfold buildBeacon
  split
  · exact onLine_within id (onLine_within id (discardBeacon_within _ h))
  · exact h

theorem beaconFallsDue_within (h : WithinBounds d) : WithinBounds (beaconFallsDue d) := onLine_within id h

theorem beaconRowReady_within (h : WithinBounds d) : WithinBounds (beaconRowReady d) := by
  unfold beaconRowReady
  split
  · exact buildBeacon_within (onLine_within id h)
  · exact h

theorem beaconGuardPassed_within (h : WithinBounds d) : WithinBounds (beaconGuardPassed d) := by
  unfold beaconGuardPassed
  split
  · exact buildBeacon_within (onLine_within id h)
  · exact h

theorem beaconRetracted_within (h : WithinBounds d) : WithinBounds (beaconRetracted d) := by
  unfold beaconRetracted
  split
  · exact onLine_within id h
  · exact h

theorem beaconIdle_within (h : WithinBounds d) : WithinBounds (beaconIdle d) := onLine_within id h

/-! ## The strings (ch. 8) -/

theorem mapStrings_within (f : Nat → SelString → SelString) (h : WithinBounds d) : WithinBounds (mapStrings f d) :=
  onStrings_within (fun ⟨hfaults, hoverflow, hlen⟩ => ⟨hfaults, hoverflow, by simpa using hlen⟩) h

theorem mapAllStrings_within (f : SelString → SelString) (h : WithinBounds d) : WithinBounds (mapAllStrings f d) :=
  onStrings_within (fun ⟨hfaults, hoverflow, hlen⟩ => ⟨hfaults, hoverflow, by simpa using hlen⟩) h

theorem reportFired_within (p : Nat → SelString → Bool) (h : WithinBounds d) : WithinBounds (reportFired p d) :=
  onFire_within (fun hlen => by simpa using hlen) h

theorem fireWhere_within (p : Nat → SelString → Bool) (h : WithinBounds d) : WithinBounds (fireWhere p d) :=
  mapStrings_within _ (doIf_within _ (reportFired_within p) h)

theorem fallDue_within (p : Nat → SelString → Bool) (h : WithinBounds d) : WithinBounds (fallDue p d) :=
  mapStrings_within _ (fireWhere_within _ h)

theorem wakePower_within (h : WithinBounds d) : WithinBounds (wakePower d) := ite_within (onStrings_within id h) h

theorem powerOff_within (h : WithinBounds d) : WithinBounds (powerOff d) := mapAllStrings_within _ (onStrings_within id h)

theorem dwellTest_within (h : WithinBounds d) : WithinBounds (dwellTest d) := ite_within (powerOff_within h) h

/-- A fault joins the list only where the list holds fewer than 32; the overflow count stays at its end (R137). -/
theorem takeFault_within (f : FaultEntry) (h : WithinBounds d) : WithinBounds (takeFault d f) := by
  have hd : WithinBounds (setFlag .selectorFault d) := setFlag_within _ h
  unfold takeFault
  dsimp only
  split
  · exact onStrings_within (fun ⟨hfaults, hrest⟩ => ⟨by simpa using hfaults, hrest⟩) hd
  · split
    · next hroom =>
      refine onStrings_within (fun ⟨_, hrest⟩ => ⟨?_, hrest⟩) hd
      simp only [List.length_append, List.length_singleton]
      omega
    · exact setFlag_within _ (onStrings_within (fun ⟨hfaults, _, hlen⟩ => ⟨hfaults, Nat.min_le_right _ _, hlen⟩) hd)

theorem takeFaults_within (fs : List FaultEntry) (h : WithinBounds d) : WithinBounds (takeFaults fs d) := by
  suffices hall : WithinBounds (fs.foldl takeFault d) from doIf_within _ ownHold_within hall
  induction fs generalizing d with
  | nil => exact h
  | cons f fs ih => exact ih (takeFault_within f h)

theorem shiftAll_within (field : Nat → StringBits) (h : WithinBounds d) : WithinBounds (shiftAll field d) :=
  fireWhere_within _ (takeFaults_within _ (mapStrings_within _ h))

theorem missTest_within (h : WithinBounds d) : WithinBounds (missTest d) := by
  have hd : WithinBounds (onStrings (fun g => { g with missTested := true }) d) := onStrings_within id h
  exact ite_within hd (doIf_within _ (fun hm => ownHold_within (setFlag_within _ hm)) (mapStrings_within _ hd))

theorem outstandingMissTest_within (h : WithinBounds d) : WithinBounds (outstandingMissTest d) := doIf_within _ missTest_within h

theorem captureAll_within (h : WithinBounds d) : WithinBounds (captureAll d) := onStrings_within id (mapStrings_within _ h)

theorem stringsForwardK_within (h : WithinBounds d) : WithinBounds (stringsForwardK d) :=
  doIf_within _ (fun hd => doIf_within _ missTest_within (captureAll_within hd)) h

theorem stringsForwardD_within (h : WithinBounds d) : WithinBounds (stringsForwardD d) :=
  doIf_within _ (fun hd => onStrings_within id (mapAllStrings_within _ (outstandingMissTest_within hd))) h

theorem stringsForwardW_within (h : WithinBounds d) : WithinBounds (stringsForwardW d) := doIf_within _ (fallDue_within _) h

theorem stringsAtAngle_within (a : Nat) (h : WithinBounds d) : WithinBounds (stringsAtAngle a d) :=
  doIf_within _ (fallDue_within _) h

theorem freshStrings_within (h : WithinBounds d) : WithinBounds (freshStrings d) := mapAllStrings_within _ h

theorem openForwardPick_within (h : WithinBounds d) : WithinBounds (openForwardPick d) :=
  onStrings_within id (freshStrings_within (outstandingMissTest_within (mapAllStrings_within _ h)))

theorem openReversePick_within (h : WithinBounds d) : WithinBounds (openReversePick d) :=
  onStrings_within id (freshStrings_within (outstandingMissTest_within (mapAllStrings_within _ h)))

theorem stringsRetracted_within (h : WithinBounds d) : WithinBounds (stringsRetracted d) :=
  onStrings_within id (mapAllStrings_within _ h)

theorem stringsReverseD_within (h : WithinBounds d) : WithinBounds (stringsReverseD d) :=
  doIf_within _ (fun hd => mapStrings_within _ (fireWhere_within _ hd)) h

theorem stringsReverseK_within (h : WithinBounds d) : WithinBounds (stringsReverseK d) :=
  doIf_within _ (fun hd => doIf_within _ (setFlag_within _) (mapStrings_within _ (captureAll_within hd))) h

theorem stringsReverseW_within (h : WithinBounds d) : WithinBounds (stringsReverseW d) :=
  doIf_within _ (fun hd => onStrings_within id (mapAllStrings_within _ hd)) h

theorem stringsTurn_within (h : WithinBounds d) : WithinBounds (stringsTurn d) := by
  have hback (c : Chain) : WithinBounds (onStrings (fun g => { g with captureDone := false }) (mapAllStrings (takeBack c) d)) :=
    onStrings_within id (mapAllStrings_within _ h)
  unfold stringsTurn
  split
  · exact hback _
  · exact hback _
  · exact doIf_within _ (fun _ => hback _) h
  · exact h

theorem nextStep_within (h : WithinBounds d) : WithinBounds (nextStep d) := onStrings_within id h

theorem openTestPick_within (w : Nat) (h : WithinBounds d) : WithinBounds (openTestPick w d) := by
  unfold openTestPick
  dsimp only
  generalize hp : onStrings _ (mapStrings _ _) = p
  have hd : WithinBounds p := by
    subst hp
    exact onStrings_within id (mapStrings_within _ (freshStrings_within (mapAllStrings_within _ h)))
  split
  · exact nextStep_within (startTestFetch_within _ hd)
  · exact nextStep_within (shiftAll_within _ hd)
  · exact hd

theorem stringsLeave_within (h : WithinBounds d) : WithinBounds (stringsLeave d) :=
  onStrings_within id (mapAllStrings_within _ h)

theorem stepFires_within (h : WithinBounds d) : WithinBounds (stepFires d) :=
  ite_within (onStrings_within id (fireWhere_within _ h)) (onStrings_within id h)

theorem inrushEnds_within (i : Nat) (h : WithinBounds d) : WithinBounds (inrushEnds i d) :=
  onStrings_within (fun ⟨hfaults, hoverflow, hlen⟩ => ⟨hfaults, hoverflow, by simpa using hlen⟩) h

/-! ## The fire timer (ch. 7) -/

theorem computeStrings_within (c : Configuration) (held : Bool) (h : WithinBounds d) :
    WithinBounds (computeStrings c held d) :=
  doIf_within _ (setFlag_within _) (doIf_within _ (setFlag_within _)
    (mapStrings_within _ (onFire_within (fun hlen => by simpa using hlen) h)))

theorem recompute_within (c : Configuration) (h : WithinBounds d) : WithinBounds (recompute c d) :=
  fallDue_within _ (computeStrings_within c false h)

theorem clearFired_within (h : WithinBounds d) : WithinBounds (clearFired d) := onFire_within (fun hlen => by simpa using hlen) h

theorem takeWaves_within (c : Configuration) (s : Snapshot) (h : WithinBounds d) : WithinBounds (takeWaves c s d) := by
  unfold takeWaves
  exact onFire_within (fun hlen => by simpa using hlen) h

theorem fireClose_within (s : Snapshot) (h : WithinBounds d) : WithinBounds (fireClose s d) := by
  unfold fireClose
  split
  · exact ite_within (onFire_within id (computeStrings_within _ _ (takeWaves_within _ _ (doIf_within _ clearFired_within h)))) h
  · exact h

theorem enterHeld_within (h : WithinBounds d) : WithinBounds (enterHeld d) := by
  unfold enterHeld
  split
  · exact onFire_within id (computeStrings_within _ _ (clearFired_within h))
  · exact h

theorem fireTurn_within (h : WithinBounds d) : WithinBounds (fireTurn d) := by
  unfold fireTurn
  split
  · exact onFire_within id h
  · exact enterHeld_within h
  · exact enterHeld_within h
  · exact h

theorem fireSpan_within (s : Nat) (h : WithinBounds d) : WithinBounds (fireSpan s d) := by
  have hd : WithinBounds (onFire (fun t => { t with recip := recipOf s }) d) := onFire_within id h
  refine ite_within ?_ h
  dsimp only
  split
  · exact ite_within (ite_within (recompute_within _ hd) (onFire_within id hd)) hd
  · exact hd

theorem fireLeavesFast_within (h : WithinBounds d) : WithinBounds (fireLeavesFast d) := by
  unfold fireLeavesFast
  split
  · exact ite_within (recompute_within _ h) h
  · exact h

theorem fireForwardK_within (h : WithinBounds d) : WithinBounds (fireForwardK d) := ite_within (onFire_within id h) h

theorem fireIdle_within (h : WithinBounds d) : WithinBounds (fireIdle d) := onFire_within (fun hlen => by simpa using hlen) h

theorem fireLeaveWeave_within (h : WithinBounds d) : WithinBounds (fireLeaveWeave d) := ite_within h (fireIdle_within h)

theorem turnPick_within (h : WithinBounds d) : WithinBounds (turnPick d) := doIf_within _ fireTurn_within (stringsTurn_within h)

/-! ## The pick sequencer (ch. 3, 11) -/

theorem evaluateMatches_within (h : WithinBounds d) : WithinBounds (evaluateMatches d) :=
  doIf_within _ (setFlag_within _) (doIf_within _ ownHold_within
    (doIf_within _ (fun hd => setFlag_within _ (onSeq_within id hd)) h))

theorem closeGuard_within (h : WithinBounds d) : WithinBounds (closeGuard d) := onSeq_within id h

/-- A full history discards its oldest entry (R38). -/
theorem crossPosition_within (h : WithinBounds d) : WithinBounds (crossPosition d) := by
  unfold crossPosition
  exact onSeq_within (fun ⟨_, htables⟩ => ⟨pushHistory_length _ _, htables⟩) h

theorem openWindow_within (h : WithinBounds d) : WithinBounds (openWindow d) :=
  onRoster_within (fun hr => by simpa [Function.comp_def] using hr) h

theorem closeWindow_within (h : WithinBounds d) : WithinBounds (closeWindow d) := onRoster_within id h

theorem seqForwardB_within (h : WithinBounds d) : WithinBounds (seqForwardB d) := by
  have hcross : WithinBounds (doIf (decide (crossingKind d = .advance)) evaluateMatches (crossPosition d)) :=
    doIf_within _ evaluateMatches_within (crossPosition_within h)
  exact doIf_within _ (onSeq_within id) (weftForwardBoundary_within _ _ (openWindow_within (beaconFallsDue_within
    (startPickFetch_within _ (writeRetained_within hcross)))))

theorem history_rest_length {e : HistoryEntry} {rest : List HistoryEntry} (h : WithinBounds d)
    (hd : d.seq.history = e :: rest) : rest.length ≤ 24 := by
  have hlen := h.seq.1
  rw [hd, List.length_cons] at hlen
  omega

theorem reversePop_within {e : HistoryEntry} {rest : List HistoryEntry} (h : WithinBounds d)
    (hd : d.seq.history = e :: rest) : WithinBounds (reversePop e rest d) :=
  weftReversePop_within _ (bringBackWeft_within _ (startPickFetch_within _ (writeRetained_within
    (onSeq_within (fun ⟨_, htables⟩ => ⟨history_rest_length h hd, htables⟩) h))))

theorem reverseExhausted_within (h : WithinBounds d) : WithinBounds (reverseExhausted d) :=
  weftReverseEmpty_within (startPickFetch_within _ (writeRetained_within (ownHold_within (setFlag_within _
    (onSeq_within id h)))))

theorem seqReverseB_within (h : WithinBounds d) : WithinBounds (seqReverseB d) := by
  unfold seqReverseB
  dsimp only
  split
  · next hd => exact closeWindow_within (beaconIdle_within (discardBeacon_within _ (reversePop_within h hd)))
  · exact closeWindow_within (beaconIdle_within (discardBeacon_within _ (reverseExhausted_within h)))

theorem retract_within {e : HistoryEntry} {rest : List HistoryEntry} (h : WithinBounds d)
    (hd : d.seq.history = e :: rest) : WithinBounds (retract e rest d) := by
  have hpop : WithinBounds (setFlag .retracted
      (onSeq (fun q => { q with pos := e.pos, void := true, history := rest, guardOpen := false }) d)) :=
    setFlag_within _ (onSeq_within (fun ⟨_, htables⟩ => ⟨history_rest_length h hd, htables⟩) h)
  exact stringsRetracted_within (beaconRetracted_within (weftRetract_within _ (bringBackWeft_within _
    (startPickFetch_within _ (writeRetained_within
      (onSeq_within (fun ⟨_, htables⟩ => ⟨pushHistory_length _ _, htables⟩) hpop))))))

theorem lineHold_within (h : WithinBounds d) : WithinBounds (lineHold d) := by
  refine ite_within ?_ h
  split
  · next hd => exact retract_within h hd
  · exact onSeq_within id h

theorem adoptPosition_within (p : Position) (h : WithinBounds d) : WithinBounds (adoptPosition p d) :=
  writeRetained_within (onSeq_within (fun ⟨_, htables⟩ => ⟨Nat.zero_le _, htables⟩) h)

theorem setPosition_within (p : Position) (h : WithinBounds d) : WithinBounds (setPosition p d) :=
  onSeq_within (fun ⟨_, htables⟩ => ⟨Nat.zero_le _, htables⟩) h

/-! ## The peer roster (ch. 6) -/

/-- The station numbers after an entry is put: its own and those that stood. -/
theorem mem_putEntry_stations {heard : Bool} {e : RosterEntry} {l : List RosterEntry} {n : Nat}
    (h : n ∈ (putEntry heard e l).map (·.station)) : n = e.station ∨ n ∈ l.map (·.station) := by
  induction l with
  | nil => simpa [putEntry] using h
  | cons x xs ih =>
    simp only [putEntry] at h
    split at h
    · simpa using h
    · split at h
      · simp only [List.map_cons, List.mem_cons] at h ⊢
        exact h.imp_right .inr
      · simp only [List.map_cons, List.mem_cons] at h ⊢
        exact h.elim (fun hx => .inr (.inl hx)) fun hxs => (ih hxs).imp_right .inr

/-- The roster stays in rising order of station numbers (R99, R100). -/
theorem putEntry_rising (heard : Bool) {e : RosterEntry} {n : Nat} (he : e.station < n) {l : List RosterEntry}
    (h : RisingBelow n (l.map (·.station))) : RisingBelow n ((putEntry heard e l).map (·.station)) := by
  refine ⟨?_, fun x hx => (mem_putEntry_stations hx).elim (fun hx => hx ▸ he) (h.2 x)⟩
  have hrising := h.1
  clear h
  induction l with
  | nil => simp [putEntry]
  | cons x xs ih =>
    have hpair := List.pairwise_cons.mp hrising
    simp only [putEntry]
    split
    · next hlt =>
      refine List.pairwise_cons.mpr ⟨fun y hy => ?_, hrising⟩
      obtain rfl | hy := List.mem_cons.mp hy
      · exact hlt
      · exact hlt.trans (hpair.1 y hy)
    · split
      · next heq => exact List.pairwise_cons.mpr ⟨fun y hy => heq ▸ hpair.1 y hy, hpair.2⟩
      · next hnot hne =>
        refine List.pairwise_cons.mpr ⟨fun y hy => ?_, ih hpair.2⟩
        obtain rfl | hy := mem_putEntry_stations hy
        · dsimp only
          omega
        · exact hpair.1 y hy

theorem takeBeacon_within {e : RosterEntry} (he : e.station < 32) (h : WithinBounds d) : WithinBounds (takeBeacon e d) :=
  doIf_within _ (setFlag_within _) (onRoster_within (putEntry_rising _ he) h)

theorem countMisses_within (h : WithinBounds d) : WithinBounds (countMisses d) :=
  onRoster_within (fun hr => by simpa [Function.comp_def, countMiss] using hr) h

theorem setMinority_within (b : Bool) (h : WithinBounds d) : WithinBounds (setMinority b d) := onRoster_within id h

theorem realign_within (p : BeaconPos) (h : WithinBounds d) : WithinBounds (realign p d) :=
  ite_within (setMinority_within _ (ownHold_within (setFlag_within _ (adoptPosition_within _ h))))
    (ownHold_within (setFlag_within _ h))

theorem judgeAgreement_within (h : WithinBounds d) : WithinBounds (judgeAgreement d) := by
  unfold judgeAgreement
  split
  · exact setMinority_within _ h
  · exact ite_within (realign_within _ h) (setMinority_within _ (setFlag_within _ h))

theorem checkWeftCode_within (h : WithinBounds d) : WithinBounds (checkWeftCode d) := by
  unfold checkWeftCode
  split
  · exact h
  · exact ite_within (ownHold_within (setFlag_within _ h)) h

theorem closeSection_within (h : WithinBounds d) : WithinBounds (closeSection d) :=
  closeWindow_within (fireClose_within _ (checkWeftCode_within (judgeAgreement_within (countMisses_within
    (onRoster_within id (beaconIdle_within h))))))

theorem closeWeft_within (h : WithinBounds d) : WithinBounds (closeWeft d) :=
  closeWindow_within (judgeAgreement_within (countMisses_within (beaconIdle_within h)))

theorem rosterClose_within (h : WithinBounds d) : WithinBounds (rosterClose d) := by
  have hd : WithinBounds (discardBeacon true d) := discardBeacon_within _ h
  refine ite_within ?_ hd
  split
  · exact closeSection_within hd
  · exact closeWeft_within hd

/-! ## The design store (ch. 4) -/

theorem fillResult_within (r : PickResult) (h : WithinBounds d) : WithinBounds (fillResult r d) := onStore_within id h

theorem handRow_within (weft : Nat) (field : List Byte) (h : WithinBounds d) : WithinBounds (handRow weft field d) :=
  ite_within (shiftAll_within _ h) (weftCodeArrives_within _ h)

theorem tellLine_within (reverse : Bool) (h : WithinBounds d) : WithinBounds (tellLine reverse d) :=
  ite_within h (beaconRowReady_within h)

theorem handPick_within (weft lift : Nat) (h : WithinBounds d) : WithinBounds (handPick weft lift d) := onSeq_within id h

theorem soundPick_within (row : Nat) (reverse : Bool) (override : Option Nat) (r : RowRead) (h : WithinBounds d) :
    WithinBounds (soundPick row reverse override r d) :=
  tellLine_within _ (handRow_within _ _ (handPick_within _ _ (fillResult_within _ h)))

theorem markDamaged_within (row : Nat) (h : WithinBounds d) : WithinBounds (markDamaged row d) :=
  setFlag_within _ (onStore_within id h)

theorem damagedPick_within (row : Nat) (reverse : Bool) (override : Option Nat) (h : WithinBounds d) :
    WithinBounds (damagedPick row reverse override d) := by
  have hd : WithinBounds (ownHold (markDamaged row d)) := ownHold_within (markDamaged_within _ h)
  have hhand := handPick_within (override.getD 15) 0 (fillResult_within
    ⟨row, override.getD 15, 0, zeroField (ownHold (markDamaged row d)), false⟩ hd)
  exact tellLine_within _ (handRow_within _ _ (ite_within (onStrings_within id (mapAllStrings_within _ hhand)) hhand))

theorem stepFetched_within (h : WithinBounds d) : WithinBounds (stepFetched d) := by
  unfold stepFetched
  split
  · exact stepFires_within h
  · exact h

theorem testFetched_within (row : Nat) (sound : Bool) (r : RowRead) (h : WithinBounds d) :
    WithinBounds (testFetched row sound r d) :=
  ite_within (stepFetched_within (shiftAll_within _ (fillResult_within _ h)))
    (stepFetched_within (shiftAll_within _ (mapAllStrings_within _ (fillResult_within _ (ownHold_within (markDamaged_within _ h))))))

theorem fetchCompletes_within (upset : List Host.Cell) (h : WithinBounds d) : WithinBounds (fetchCompletes upset d) := by
  have hd : WithinBounds (onStore (fun s => { s with mem := Memory.writeCells s.mem upset }) d) := onStore_within id h
  unfold fetchCompletes
  dsimp only
  split
  · exact hd
  · split
    · exact ite_within (soundPick_within _ _ _ _ hd) (damagedPick_within _ _ _ hd)
    · exact testFetched_within _ _ _ hd

/-! ## Changes of the station state and latency training (R169, ch. 9) -/

theorem setState_within (st : StationState) (h : WithinBounds d) : WithinBounds (setState st d) := onControl_within id h

theorem enterReady_within (h : WithinBounds d) : WithinBounds (enterReady d) := dwellTest_within (setState_within _ h)

theorem weftLeave_within (h : WithinBounds d) : WithinBounds (weftLeave d) := onWeft_within id h

theorem leaveWeave_within (h : WithinBounds d) : WithinBounds (leaveWeave d) :=
  weftLeave_within (closeGuard_within (stringsLeave_within (fireLeaveWeave_within (endPickFetch_within
    (setMinority_within _ (closeWindow_within (beaconIdle_within (discardBeacon_within _ h))))))))

theorem leaveTest_within (h : WithinBounds d) : WithinBounds (leaveTest d) :=
  onStrings_within id (stringsLeave_within (endTestFetch_within h))

theorem trainerIdle_within (h : WithinBounds d) : WithinBounds (trainerIdle d) := onTrainer_within _ (mapAllStrings_within _ h)

theorem trainComplete_within (h : WithinBounds d) : WithinBounds (trainComplete d) :=
  enterReady_within (trainerIdle_within (setFlag_within _ h))

theorem abandonTraining_within (h : WithinBounds d) : WithinBounds (abandonTraining d) := setFlag_within _ (trainerIdle_within h)

theorem onCurrent_within (f : SelString → SelString) (h : WithinBounds d) : WithinBounds (onCurrent f d) := mapStrings_within _ h

theorem startTrial_within (h : WithinBounds d) : WithinBounds (startTrial d) := onTrainer_within _ (onCurrent_within _ h)

theorem preCheck_within (fuel : Nat) (h : WithinBounds d) : WithinBounds (preCheck fuel d) := by
  induction fuel generalizing d with
  | zero => exact trainComplete_within h
  | succ fuel ih =>
    have hchecked := onTrainer_within (fun t => { t with phase := .preCheck })
      (onCurrent_within (fun s => { s with shiftReg := 1#128, outReg := 1#128, drive := .off }) h)
    have hstuck := onCurrent_within (fun s => { s with result := .stuck }) hchecked
    exact ite_within (ite_within (ih (onTrainer_within _ hstuck)) (trainComplete_within hstuck))
      (startTrial_within (onTrainer_within _ hchecked))

theorem endString_within (f : SelString → SelString) (h : WithinBounds d) : WithinBounds (endString f d) := by
  have hd : WithinBounds (onCurrent f d) := onCurrent_within f h
  exact ite_within (preCheck_within _ (onTrainer_within _ hd)) (trainComplete_within hd)

theorem sampleTrial_within (held : Bool) (h : WithinBounds d) : WithinBounds (sampleTrial held d) :=
  ite_within (onTrainer_within _ (onCurrent_within _ h)) h

theorem endRest_within (armature : BitVec 8) (h : WithinBounds d) : WithinBounds (endRest armature d) := by
  have hd : WithinBounds (onPins (fun p => { p with armature := armature }) d) := onPins_within _ h
  refine ite_within (ite_within (endString_within _ hd) (ite_within (startTrial_within (onTrainer_within _ hd)) ?_)) h
  exact ite_within (endString_within _ hd) (ite_within (startTrial_within (onTrainer_within _ hd)) (endString_within _ hd))

theorem startTraining_within (armature : BitVec 8) (h : WithinBounds d) : WithinBounds (startTraining armature d) := by
  unfold startTraining
  dsimp only
  generalize hw : onTrainer _ (wakePower _) = w
  have hd : WithinBounds w := by
    subst hw
    exact onTrainer_within _ (wakePower_within (onStrings_within id (mapAllStrings_within _ (onPins_within _
      (setState_within _ h)))))
  exact ite_within (preCheck_within 8 hd) (onTrainer_within _ hd)

theorem powerComesOn_within (armature : BitVec 8) (h : WithinBounds d) : WithinBounds (powerComesOn armature d) := by
  unfold powerComesOn
  split
  · dsimp only
    generalize hw : fireWaiting _ = w
    have hd : WithinBounds w := by
      subst hw
      exact fireWhere_within _ (onPins_within _ (onStrings_within id h))
    refine dwellTest_within ?_
    split
    · exact ite_within (preCheck_within 8 (stepFires_within hd)) (stepFires_within hd)
    · exact ite_within (preCheck_within 8 hd) hd
  · exact h

theorem stepCaptured_within (sense : List StringBits) (h : WithinBounds d) : WithinBounds (stepCaptured sense d) := by
  unfold stepCaptured
  split
  · exact completeWith_within _ (nextStep_within (onStrings_within id (mapAllStrings_within _ (captureAll_within
      (onPins_within _ h)))))
  · exact h

/-! ## FAULT, resets and power (R91, R178 to R180) -/

theorem enterFault_within (h : WithinBounds d) : WithinBounds (enterFault d) := by
  unfold enterFault
  refine onLine_within id (powerOff_within (stringsLeave_within (discardBeacon_within _ (setState_within _ ?_))))
  split
  · exact leaveWeave_within h
  · exact leaveTest_within h
  · exact abandonTraining_within h
  · exact h

theorem duplicateFound_within (h : WithinBounds d) : WithinBounds (duplicateFound d) := by
  have hd : WithinBounds (setFlag .duplicateStation d) := setFlag_within _ h
  unfold duplicateFound
  dsimp only
  split
  · exact hd
  · exact hd
  · exact enterFault_within (requestPulse_within hd)

theorem beaconEntry_station {station : Nat} {p : List Byte} {e : RosterEntry} (h : beaconEntry station p = some e) :
    e.station = station := by
  unfold beaconEntry at h
  dsimp only at h
  split at h
  · cases h
  · split at h
    · split at h
      · obtain rfl := Option.some.inj h
        rfl
      · cases h
    · split at h
      · obtain rfl := Option.some.inj h
        rfl
      · cases h
    · cases h

theorem takeBeaconFrame_within (h : WithinBounds d) : WithinBounds (takeBeaconFrame d) := by
  unfold takeBeaconFrame
  split
  · exact h
  · next f rest hq =>
    have hrest : WithinBounds (onLine (fun l => { l with queue := rest }) d) := by
      refine onLine_within (fun ⟨hqueue, hruns⟩ => ⟨?_, hruns⟩) h
      rw [hq, List.length_cons] at hqueue
      exact Nat.le_of_succ_le hqueue
    split
    · dsimp only
      split
      · exact hrest
      · next hstation =>
        refine ite_within (duplicateFound_within hrest) ?_
        split
        · next e he =>
          have := beaconEntry_station he
          exact takeBeacon_within (by omega) hrest
        · exact hrest
    · exact h

theorem Sequencer.reset_within : SeqWithin Sequencer.reset := by simp [SeqWithin, Sequencer.reset]

theorem StringDriver.reset_within : DriverWithin StringDriver.reset := by
  simp [DriverWithin, StringDriver.reset]

/-- Every block in its reset condition is within its bounds (R180). -/
theorem resetTo_within (number : Nat) (role : Role) (phase : BitVec 2) (d : Device) :
    WithinBounds (resetTo number role phase d) where
  tracker := by simp [resetTo, Tracker.reset, TrackerWithin]
  seq := Sequencer.reset_within
  store := by simp [resetTo, Store.reset, RisingBelow]
  line := by simp [resetTo, Line.reset, LineWithin]
  roster := by simp [resetTo, Roster.reset, RisingBelow]
  fire := rfl
  strings := StringDriver.reset_within
  weft := rfl
  config := by simp [resetTo, Control.reset, ConfigWithin]

theorem replyLeaves_within (h : WithinBounds d) : WithinBounds (replyLeaves d) :=
  ite_within (resetTo_within _ _ _ d) (admitCompletion_within (clearSlot_within _ h))

theorem frameSent_within (h : WithinBounds d) : WithinBounds (frameSent d) := by
  unfold frameSent
  split
  · dsimp only
    split
    · exact clearSlot_within _ (passedChars_within _ (onLine_within id h))
    · exact replyLeaves_within (passedChars_within _ (onLine_within id h))
  · exact h

theorem attemptAbandoned_within (h : WithinBounds d) : WithinBounds (attemptAbandoned d) := by
  unfold attemptAbandoned
  split
  · next slot _ _ =>
    dsimp only
    generalize ha : count _ (raiseAttempts slot _) = a
    have hd : WithinBounds a := by
      subst ha
      exact count_within _ (raiseAttempts_within _ (onLine_within id (measuredDominant_within _ h)))
    refine ite_within ?_ hd
    split
    · exact clearSlot_within _ (count_within _ hd)
    · exact replyLeaves_within (count_within _ hd)
  · exact h

theorem resetTimesOut_within (h : WithinBounds d) : WithinBounds (resetTimesOut d) := ite_within (resetTo_within _ _ _ d) h

theorem powerOnReset_within (number : Nat) (role : Role) (a b backupHeld : Bool) (backup : Option RetainedRecord)
    (sram : List Host.Cell) (d : Device) : WithinBounds (powerOnReset number role a b backupHeld backup sram d) :=
  doIf_within _ (setFlag_within _) (onControl_within id (resetTo_within _ _ _ _))

theorem powerFails_within (h : WithinBounds d) : WithinBounds (powerFails d) := by
  refine onControl_within (fun hc => ?_) h
  unfold completeAllWrites
  split <;> exact hc

theorem retainedWritten_within (h : WithinBounds d) : WithinBounds (retainedWritten d) := by
  refine onControl_within (fun hc => ?_) h
  unfold completeWrite
  split <;> exact hc

/-! ## The shaft (ch. 1) -/

theorem elapseTracker_within (dt : Nat) {t : Tracker} (h : TrackerWithin t) : TrackerWithin (elapseTracker dt t) := by
  simpa [TrackerWithin] using h

theorem elapse_within (dt : Nat) (others : List LineRun) (h : WithinBounds d) : WithinBounds (elapse dt others d) :=
  onControl_within id (onTrainer_within _ (onStrings_within
    (fun ⟨hfaults, hoverflow, hlen⟩ => ⟨hfaults, hoverflow, by simpa using hlen⟩)
    (onLine_within (elapseRuns_within dt others) (onStore_within id (onTracker_within (elapseTracker_within dt) h)))))

theorem pass_within (p : Lapse) (h : WithinBounds d) : WithinBounds (pass p d) := by
  have hd : WithinBounds (elapse p.ticks p.line d) := elapse_within _ _ h
  unfold pass
  dsimp only
  split
  · exact onPins_within _ hd
  · exact hd

theorem tickDevice_within (h : WithinBounds d) : WithinBounds (tickDevice d) := onLine_within id (elapse_within _ _ h)

theorem unsettle_within {t : Tracker} (h : TrackerWithin t) : TrackerWithin (unsettle t) := ⟨h.1, le_rfl, h.2.2⟩

theorem anchored_within {t : Tracker} (h : TrackerWithin t) : TrackerWithin (anchored t) := h

theorem endStall_within {t : Tracker} (h : TrackerWithin t) : TrackerWithin (endStall t) := ⟨h.1, h.2.1, Nat.zero_le _⟩

theorem countSpan_within (cfg : Option Configuration) {t : Tracker} (h : TrackerWithin t) : TrackerWithin (countSpan cfg t) := by
  unfold countSpan
  split
  · exact h
  · split
    · exact h
    · exact ⟨h.1, (Nat.sub_le _ _).trans h.2.1, h.2.2⟩

theorem stepSpan_within (cfg : Option Configuration) (dir : Direction) {t : Tracker} (h : TrackerWithin t) :
    TrackerWithin (stepSpan cfg dir t) := by
  have hdir : TrackerWithin { t with dir := dir } := h
  unfold stepSpan
  dsimp only
  split
  · refine endStall_within ?_
    split
    · exact unsettle_within hdir
    · exact hdir
  · split
    · exact anchored_within (unsettle_within hdir)
    · exact countSpan_within cfg hdir

theorem stepAngle_lt (dir : Direction) (a : Nat) : stepAngle dir a < 4096 := by
  cases dir <;> exact Nat.mod_lt _ (by decide)

theorem stepTracker_within (cfg : Option Configuration) (dir : Direction) {t : Tracker} (h : TrackerWithin t) :
    TrackerWithin (stepTracker cfg dir t) := stepSpan_within cfg dir ⟨stepAngle_lt dir t.angle, h.2⟩

theorem forwardB_within (c : Configuration) (h : WithinBounds d) : WithinBounds (forwardB c d) := by
  unfold forwardB
  split
  · exact doIf_within _ (fun hd => fireIdle_within (openForwardPick_within hd)) (seqForwardB_within h)
  · exact doIf_within _ (openTestPick_within _) h
  · exact h

theorem reverseB_within (h : WithinBounds d) : WithinBounds (reverseB d) :=
  ite_within (doIf_within _ (fun hd => fireIdle_within (openReversePick_within hd)) (seqReverseB_within h)) h

theorem forwardGuardEnd_within (h : WithinBounds d) : WithinBounds (forwardGuardEnd d) :=
  beaconGuardPassed_within (closeGuard_within h)

theorem forwardK_within (h : WithinBounds d) : WithinBounds (forwardK d) := fireForwardK_within (stringsForwardK_within h)

theorem forwardFa_within (h : WithinBounds d) : WithinBounds (forwardFa d) :=
  rosterClose_within (doIf_within _ fingerAngle_within h)

theorem forwardCrossings_within (c : Configuration) (role : Role) (a : Nat) (h : WithinBounds d) :
    WithinBounds (forwardCrossings c role a d) := by
  have hB := doIf_within (decide (a = guardEnd c)) forwardGuardEnd_within
    (doIf_within (decide (a = c.b)) (forwardB_within c) h)
  unfold forwardCrossings
  cases role with
  | sectionRole =>
    exact doIf_within _ stringsForwardD_within (doIf_within _ forwardK_within (doIf_within _ stringsForwardW_within
      (doIf_within _ rosterClose_within hB)))
  | weftRole =>
    exact doIf_within _ arrivalClose_within (doIf_within _ (fun hd => doIf_within _ (setArrival_within _) hd)
      (doIf_within _ forwardFa_within hB))

theorem reverseCrossings_within (c : Configuration) (role : Role) (a : Nat) (h : WithinBounds d) :
    WithinBounds (reverseCrossings c role a d) := by
  have hB := doIf_within (decide (a = c.b)) reverseB_within h
  unfold reverseCrossings
  cases role with
  | sectionRole =>
    exact doIf_within _ stringsReverseW_within (doIf_within _ stringsReverseK_within (doIf_within _ stringsReverseD_within hB))
  | weftRole => exact doIf_within _ (fun hd => doIf_within _ outputChoice_within hd) hB

theorem crossings_within (dir : Direction) (h : WithinBounds d) : WithinBounds (crossings dir d) := by
  unfold crossings
  split
  · exact h
  · refine ite_within ?_ h
    cases dir
    · exact forwardCrossings_within _ _ _ h
    · exact reverseCrossings_within _ _ _ h

theorem unsettling_within {f : Tracker → Tracker} (hf : TrackerWithin d.tracker → TrackerWithin (f d.tracker))
    (h : WithinBounds d) : WithinBounds (unsettling f d) :=
  doIf_within _ fireLeavesFast_within (onTracker_within (fun ht => unsettle_within (hf ht)) h)

theorem checkIndex_within {i : Nat} (hi : i < 4096) (h : WithinBounds d) : WithinBounds (checkIndex i d) := by
  have hd : WithinBounds (onTracker (fun t => { t with indexDist := 0 }) d) := onTracker_within id h
  refine ite_within hd (ite_within (closeGuard_within (onTracker_within (fun ht => ⟨hi, ht.2⟩) hd)) ?_)
  exact ownHold_within (setFlag_within _ (closeGuard_within (unsettling_within (fun ht => ⟨hi, ht.2⟩) hd)))

theorem takeIndexEdge_within (h : WithinBounds d) : WithinBounds (takeIndexEdge d) := by
  unfold takeIndexEdge
  split
  · exact h
  · next c hc =>
    have hi : c.index < 4096 := h.config c hc
    exact ite_within (checkIndex_within hi h) (unsettling_within (fun ht => ⟨hi, ht.2⟩) h)

theorem checkDistance_within (h : WithinBounds d) : WithinBounds (checkDistance d) :=
  ite_within (ownHold_within (setFlag_within _ (closeGuard_within (onTracker_within id h)))) h

theorem handSpeed_within (before : Speed) (done : Bool) (h : WithinBounds d) : WithinBounds (handSpeed before done d) := by
  have hd := doIf_within (decide (before ≠ .fast) && decide (d.tracker.speed = .fast)) (setFlag_within .fast) h
  refine ite_within ?_ (doIf_within _ fireLeavesFast_within hd)
  split
  · exact fireSpan_within _ hd
  · exact hd

theorem handMotion_within (h : WithinBounds d) : WithinBounds (handMotion d) := by
  unfold handMotion
  split
  · exact wakePower_within h
  · exact wakePower_within h
  · exact wakePower_within h
  · exact enterReady_within (abandonTraining_within h)
  · exact h

theorem takeStep_within (dir : Direction) (index : Bool) (h : WithinBounds d) : WithinBounds (takeStep dir index d) :=
  doIf_within _ takeIndexEdge_within (checkDistance_within (crossings_within _ (doIf_within _ (stringsAtAngle_within _)
    (handMotion_within (handSpeed_within _ _ (doIf_within _ turnPick_within (onTracker_within (stepTracker_within _ _) h)))))))

theorem shaftStep_within (a b index : Bool) (dt : Lapse) (sense : List StringBits) (h : WithinBounds d) :
    WithinBounds (shaftStep a b index dt sense d) := by
  unfold shaftStep
  split
  · exact takeStep_within _ _ (onPins_within _ (pass_within _ h))
  · exact h

theorem glitch_within (dt : Lapse) (h : WithinBounds d) : WithinBounds (glitch dt d) :=
  setFlag_within _ (onTracker_within id (pass_within _ h))

theorem stalls_within (h : WithinBounds d) : WithinBounds (stalls d) :=
  ite_within h (doIf_within _ fireLeavesFast_within (onTracker_within (fun ht => ⟨ht.1, le_rfl, Nat.zero_le _⟩) h))

theorem stationaryRises_within (h : WithinBounds d) : WithinBounds (stationaryRises d) :=
  ite_within (dwellTest_within (onTracker_within (fun ht => ⟨ht.1, ht.2.1, Nat.min_le_right _ _⟩) h)) h

/-! ## Holds heard on the line and discarded frames (R80, R87) -/

theorem detectHold_within (h : WithinBounds d) : WithinBounds (detectHold d) :=
  doIf_within _ (fun hd => lineHold_within (setFlag_within _ (count_within _ hd)))
    (setReceiver_within _ (measuredDominant_within _ h))

theorem popQueue_within (h : WithinBounds d) : WithinBounds (popQueue d) := by
  refine onLine_within (fun ⟨hqueue, hruns⟩ => ⟨?_, hruns⟩) h
  simp only [List.length_drop]
  omega

theorem dropRequest_within (h : WithinBounds d) : WithinBounds (dropRequest d) := count_within _ h

theorem discardFrame_within (h : WithinBounds d) : WithinBounds (discardFrame d) := by
  refine ite_within h ?_
  split
  · exact h
  · exact ite_within h (ite_within (popQueue_within h) (ite_within (doIf_within _ popQueue_within h)
      (doIf_within _ (fun hd => dropRequest_within (popQueue_within hd)) h)))

/-! ## The terminal's requests (ch. 12) -/

theorem answer_within (r : Request) (res : Result) (h : WithinBounds d) : WithinBounds (answer r res d) := placeReply_within _ h

theorem answerData_within (r : Request) (res : Result) (data : List Byte) (h : WithinBounds d) :
    WithinBounds (answerData r res data d) := placeReply_within _ h

theorem answerInvalid_within (r : Request) (t : Detail) (h : WithinBounds d) : WithinBounds (answerInvalid r t d) :=
  placeReply_within _ h

theorem withLength_within (r : Request) (n : Nat) {f : Device → Device} (p : List Byte) (h : WithinBounds d)
    (hf : WithinBounds (f d)) : WithinBounds (withLength r n f p d) := ite_within hf (answer_within _ _ h)

/-- A request row stays within the bounds where its broadcast and its own effect do (R79, R80, R170). -/
theorem takeRequest_within {r : Request} {broadcast : Device → Device} {run : List Byte → Device → Device}
    (hb : ∀ {d}, WithinBounds d → WithinBounds (broadcast d)) (hr : ∀ {d} p, WithinBounds d → WithinBounds (run p d))
    (h : WithinBounds d) : WithinBounds (takeRequest r broadcast run d) := by
  have hd : WithinBounds (popQueue d) := popQueue_within h
  refine ite_within (ite_within (hb hd) (ite_within (dropRequest_within hd) ?_)) h
  split
  · exact answer_within _ _ hd
  · exact hr _ hd

/-- A configuration that CONFIGURE accepts has its index angle on the counter's circle (R171). -/
theorem index_lt_of_fieldsInRange {role : Role} {c : Configuration} (h : fieldsInRange role c = true) : c.index < 4096 := by
  simp only [fieldsInRange, Bool.and_eq_true, decide_eq_true_eq] at h
  omega

theorem clamped_index (role : Role) (c : Configuration) : (clamped role c).index = c.index := by
  cases role <;> rfl

theorem storeConfig_within {c : Configuration} (hc : c.index < 4096) (h : WithinBounds d) : WithinBounds (storeConfig c d) := by
  have hd : WithinBounds (setState .load (onControl (fun k => { k with config := some c }) d)) :=
    setState_within _ (onControl_within (fun _ c' hc' => Option.some.inj hc' ▸ hc) h)
  exact mapStrings_within _ (doIf_within _ powerOff_within hd)

theorem runConfigure_within (p : List Byte) (h : WithinBounds d) : WithinBounds (runConfigure p d) := by
  unfold runConfigure
  dsimp only
  refine ite_within (answer_within _ _ h) (ite_within (answer_within _ _ h) ?_)
  split
  · exact answer_within _ _ h
  · next hfields =>
    have hindex := index_lt_of_fieldsInRange (Bool.eq_true_of_not_eq_false hfields)
    exact ite_within (answer_within _ _ h) (answerData_within _ _ _ (storeConfig_within (by rwa [clamped_index]) h))

/-- The written rows stay in rising order (R60). -/
theorem setMark_rising {n r : Nat} (hr : r < n) {l : List Nat} (h : RisingBelow n l) : RisingBelow n (setMark r l) := by
  refine ⟨?_, fun x hx => ((mem_setMark r x l).mp hx).elim (fun hx => hx ▸ hr) (h.2 x)⟩
  have hrising := h.1
  clear h
  induction l with
  | nil => simp [setMark]
  | cons x xs ih =>
    have hpair := List.pairwise_cons.mp hrising
    simp only [setMark]
    split
    · next hlt =>
      refine List.pairwise_cons.mpr ⟨fun y hy => ?_, hrising⟩
      obtain rfl | hy := List.mem_cons.mp hy
      · exact hlt
      · exact hlt.trans (hpair.1 y hy)
    · split
      · exact hrising
      · refine List.pairwise_cons.mpr ⟨fun y hy => ?_, ih hpair.2⟩
        obtain rfl | hy := (mem_setMark r y xs).mp hy
        · omega
        · exact hpair.1 y hy

theorem runRowWrite_within (p : List Byte) (h : WithinBounds d) : WithinBounds (runRowWrite p d) := by
  unfold runRowWrite
  dsimp only
  split
  · exact answer_within _ _ h
  · next hgood =>
    have hrow : fieldAt p 0 2 < 16384 := by
      have := mt (Or.inr ∘ Or.inl) hgood
      omega
    exact ite_within (answerInvalid_within _ _ h) (answer_within _ _ (onStore_within (setMark_rising hrow) h))

theorem runRowRead_within (p : List Byte) (h : WithinBounds d) : WithinBounds (runRowRead p d) :=
  ite_within (answer_within _ _ h) (answerData_within _ _ _ h)

theorem runRunWrite_within (p : List Byte) (h : WithinBounds d) : WithinBounds (runRunWrite p d) :=
  ite_within (answer_within _ _ h) (answer_within _ _ (onSeq_within
    (fun ⟨hhistory, hruns, htable⟩ => ⟨hhistory, by simpa using hruns, htable⟩) h))

theorem runMatchWrite_within (p : List Byte) (h : WithinBounds d) : WithinBounds (runMatchWrite p d) := by
  unfold runMatchWrite
  split
  · exact answer_within _ _ h
  · exact ite_within (answer_within _ _ h) (answer_within _ _ (onSeq_within
      (fun ⟨hhistory, hruns, htable⟩ => ⟨hhistory, hruns, by simpa using htable⟩) h))

theorem runWeftMapWrite_within (p : List Byte) (h : WithinBounds d) : WithinBounds (runWeftMapWrite p d) :=
  ite_within (answer_within _ _ h) (ite_within (answer_within _ _ h) (answer_within _ _ (onWeft_within
    (fun hmap => by simpa using hmap) h)))

theorem runLoadDone_within (p : List Byte) (h : WithinBounds d) : WithinBounds (runLoadDone p d) := by
  refine withLength_within _ _ _ h ?_
  split
  · exact answerInvalid_within _ _ h
  · exact answer_within _ _ (enterReady_within (doIf_within _ (onWeft_within id) (setPosition_within _ h)))

theorem runPositionSet_within (p : List Byte) (h : WithinBounds d) : WithinBounds (runPositionSet p d) :=
  ite_within (answer_within _ _ h) (answer_within _ _ (writeRetained_within (setPosition_within _ h)))

theorem runPositionResume_within (p : List Byte) (h : WithinBounds d) : WithinBounds (runPositionResume p d) :=
  withLength_within _ _ _ h (ite_within (answer_within _ _ h) (ite_within (answer_within _ _ h)
    (ite_within (answer_within _ _ h) (answer_within _ _ (setPosition_within _ h)))))

theorem armStation_within (h : WithinBounds d) : WithinBounds (armStation d) :=
  dwellTest_within (setState_within _ (onSeq_within id h))

theorem runArm_within (p : List Byte) (h : WithinBounds d) : WithinBounds (runArm p d) :=
  withLength_within _ _ _ h (answer_within _ _ (armStation_within h))

theorem broadcastArm_within (h : WithinBounds d) : WithinBounds (broadcastArm d) := doIf_within _ armStation_within h

theorem disarmStation_within (h : WithinBounds d) : WithinBounds (disarmStation d) := enterReady_within (leaveWeave_within h)

theorem runDisarm_within (p : List Byte) (h : WithinBounds d) : WithinBounds (runDisarm p d) :=
  withLength_within _ _ _ h (ite_within (answer_within _ _ (disarmStation_within h)) (answer_within _ _ h))

theorem broadcastDisarm_within (h : WithinBounds d) : WithinBounds (broadcastDisarm d) := doIf_within _ disarmStation_within h

theorem runTestBegin_within (p : List Byte) (h : WithinBounds d) : WithinBounds (runTestBegin p d) := by
  refine ite_within (answer_within _ _ h) ?_
  split
  · exact answer_within _ _ h
  · exact ite_within (answer_within _ _ h) (answer_within _ _ (setState_within _ (onStrings_within id
      (freshStrings_within (mapAllStrings_within _ h)))))

theorem startStep_within (h : WithinBounds d) : WithinBounds (startStep d) := by
  unfold startStep
  dsimp only
  generalize hw : wakePower _ = w
  have hd : WithinBounds w := by
    subst hw
    exact wakePower_within (onStrings_within id (freshStrings_within (mapAllStrings_within _ h)))
  split
  · exact startTestFetch_within _ hd
  · exact stepFires_within (shiftAll_within _ hd)
  · exact hd

theorem runTestStep_within (p : List Byte) (h : WithinBounds d) : WithinBounds (runTestStep p d) :=
  withLength_within _ _ _ h (ite_within (answer_within _ _ h) (ite_within (answer_within _ _ h) (startStep_within h)))

theorem runTestEnd_within (p : List Byte) (h : WithinBounds d) : WithinBounds (runTestEnd p d) :=
  withLength_within _ _ _ h (answer_within _ _ (enterReady_within (leaveTest_within h)))

theorem runTrain_within (armature : BitVec 8) (p : List Byte) (h : WithinBounds d) : WithinBounds (runTrain armature p d) :=
  ite_within (answer_within _ _ h) (withLength_within _ _ _ h
    (ite_within (answer_within _ _ (startTraining_within _ h)) (answer_within _ _ h)))

theorem runStatus_within (p : List Byte) (h : WithinBounds d) : WithinBounds (runStatus p d) :=
  withLength_within _ _ _ h (answerData_within _ _ _ h)

theorem runFlagsTake_within (p : List Byte) (h : WithinBounds d) : WithinBounds (runFlagsTake p d) :=
  withLength_within _ _ _ h (answerData_within _ _ _ (onControl_within id h))

theorem runFaultListRead_within (p : List Byte) (h : WithinBounds d) : WithinBounds (runFaultListRead p d) :=
  ite_within (answer_within _ _ h) (ite_within (answer_within _ _ h) (answerData_within _ _ _ h))

theorem runFaultListClear_within (p : List Byte) (h : WithinBounds d) : WithinBounds (runFaultListClear p d) :=
  ite_within (answer_within _ _ h) (withLength_within _ _ _ h (answer_within _ _
    (onStrings_within (fun ⟨_, _, hlen⟩ => ⟨Nat.zero_le _, Nat.zero_le _, hlen⟩) h)))

theorem runHistoryRead_within (p : List Byte) (h : WithinBounds d) : WithinBounds (runHistoryRead p d) :=
  ite_within (answer_within _ _ h) (answerData_within _ _ _ h)

theorem runRosterRead_within (p : List Byte) (h : WithinBounds d) : WithinBounds (runRosterRead p d) :=
  ite_within (answer_within _ _ h) (answerData_within _ _ _ h)

theorem runNoticeMask_within (p : List Byte) (h : WithinBounds d) : WithinBounds (runNoticeMask p d) :=
  ite_within (answer_within _ _ h) (answer_within _ _ (onControl_within id h))

theorem runReset_within (p : List Byte) (h : WithinBounds d) : WithinBounds (runReset p d) :=
  withLength_within _ _ _ h (onControl_within id (answer_within _ _ h))

end

/-! ## Every command, every step -/

/-- What a command's effect keeps, the command keeps, with main power or without it. -/
theorem completed_within {f : Device → Device} (hf : ∀ {d}, WithinBounds d → WithinBounds (f d)) {s t : State}
    (h : WithinBounds s.dev) (hs : completed f s = .next t) : WithinBounds t.dev := by
  cases hp : s.dev.control.powered with
  | true =>
    obtain rfl := Host.Outcome.next.inj ((completed_powered hp).symm.trans hs)
    exact hf h
  | false =>
    obtain rfl := Host.Outcome.next.inj ((completed_unpowered hp).symm.trans hs)
    exact h

/-- A request that nothing does when addressed to all nodes. -/
theorem request_within {r : Request} {run : List Byte → Device → Device}
    (hr : ∀ {d} p, WithinBounds d → WithinBounds (run p d)) {s t : State} (h : WithinBounds s.dev)
    (hs : completed (takeRequest r discarded run) s = .next t) : WithinBounds t.dev :=
  completed_within (takeRequest_within (fun hd => hd) hr) h hs

theorem exec_within (i : Instr) {s t : State} (h : WithinBounds s.dev) (hs : exec i s = .next t) : WithinBounds t.dev := by
  cases i
  case countingStep => exact completed_within (shaftStep_within _ _ _ _ _) h hs
  case encoderGlitch => exact completed_within (glitch_within _) h hs
  case indexEdge => exact completed_within takeIndexEdge_within h hs
  case stallExpiry => exact completed_within stalls_within h hs
  case stationarySecond => exact completed_within stationaryRises_within h hs
  case pulseEnd => exact completed_within endPulse_within h hs
  case fetchComplete => exact completed_within (fetchCompletes_within _) h hs
  case frameMark => exact completed_within (receiveMark_within _ _ _) h hs
  case frameReceived => exact completed_within (receiveChars_within _) h hs
  case receiveGap => exact completed_within receiveGap_within h hs
  case holdDetected => exact completed_within detectHold_within h hs
  case lineStuck => exact completed_within lineSticks_within h hs
  case lineClear => exact completed_within lineClears_within h hs
  case frameStart => exact completed_within (startFrame_within _) h hs
  case attemptAbandoned => exact completed_within attemptAbandoned_within h hs
  case frameSent => exact completed_within frameSent_within h hs
  case resetReplyTimeout => exact completed_within resetTimesOut_within h hs
  case beaconTaken => exact completed_within takeBeaconFrame_within h hs
  case frameDiscarded => exact completed_within discardFrame_within h hs
  case configure => exact request_within runConfigure_within h hs
  case rowWrite => exact request_within runRowWrite_within h hs
  case rowRead => exact request_within runRowRead_within h hs
  case runWrite => exact request_within runRunWrite_within h hs
  case matchWrite => exact request_within runMatchWrite_within h hs
  case weftMapWrite => exact request_within runWeftMapWrite_within h hs
  case loadDone => exact request_within runLoadDone_within h hs
  case positionSet => exact request_within runPositionSet_within h hs
  case positionResume => exact request_within runPositionResume_within h hs
  case arm => exact completed_within (takeRequest_within broadcastArm_within runArm_within) h hs
  case disarm => exact completed_within (takeRequest_within broadcastDisarm_within runDisarm_within) h hs
  case testBegin => exact request_within runTestBegin_within h hs
  case testStep => exact request_within runTestStep_within h hs
  case testStepCapture => exact completed_within (stepCaptured_within _) h hs
  case testEnd => exact request_within runTestEnd_within h hs
  case train => exact request_within (runTrain_within _) h hs
  case trialSample => exact completed_within (sampleTrial_within _) h hs
  case restEnd => exact completed_within (endRest_within _) h hs
  case status => exact request_within runStatus_within h hs
  case flagsTake => exact request_within runFlagsTake_within h hs
  case faultListRead => exact request_within runFaultListRead_within h hs
  case faultListClear => exact request_within runFaultListClear_within h hs
  case historyRead => exact request_within runHistoryRead_within h hs
  case rosterRead => exact request_within runRosterRead_within h hs
  case noticeMask => exact request_within runNoticeMask_within h hs
  case reset => exact completed_within (takeRequest_within (fun _ => resetTo_within _ _ _ _) runReset_within) h hs
  case wakeTimeEnd => exact completed_within (powerComesOn_within _) h hs
  case inrushEnd => exact completed_within (inrushEnds_within _) h hs
  case weftDetectorPulse => exact completed_within detectorPulse_within h hs
  case feederStopInput => exact completed_within (feederInput_within _ _) h hs
  case powerOn =>
    obtain rfl := Host.Outcome.next.inj hs
    exact powerOnReset_within _ _ _ _ _ _ _ _
  case resetPin => exact completed_within (fun _ => resetTo_within _ _ _ _) h hs
  case powerFail => exact completed_within powerFails_within h hs
  case retainedWriteDone => exact completed_within retainedWritten_within h hs

theorem step_within {s t : State} (h : WithinBounds s.dev) (hs : step s = .next t) : WithinBounds t.dev := by
  unfold step at hs
  split at hs
  · obtain rfl := Host.Outcome.next.inj hs
    unfold idleTick
    split
    · exact tickDevice_within h
    · exact h
  · next i rest _ => exact exec_within i (s := { s with pending := rest }) h hs

end Sys2Proof.Machine
end

section
/-! SUPPORT. The own hold and the end of its pulse (R44, R86). -/

namespace Sys2Proof.Machine

/-- With main power the end of a pulse acts on the line alone (R86). -/
theorem exec_pulseEnd {s : State} (hp : s.dev.control.powered = true) :
    exec .pulseEnd s = .next { s with dev := endPulse s.dev } := completed_powered hp

theorem pulsing_iff (d : Device) : pulsing d = true ↔ ∃ n, d.line.tx = .pulse n := by
  unfold pulsing
  split <;> simp_all

theorem endPulse_of_pulse {d : Device} {n : Nat} (h : d.line.tx = .pulse n) :
    endPulse d = { d with line := { d.line with tx := .idle, accessWait := restWait d } } := by
  rw [endPulse, if_pos ((pulsing_iff d).mpr ⟨n, h⟩)]
  rfl

theorem endPulse_of_no_pulse {d : Device} (h : ∀ n, d.line.tx ≠ .pulse n) : endPulse d = d := by
  rw [endPulse, if_neg fun hp => ?_]
  obtain ⟨n, hn⟩ := (pulsing_iff d).mp hp
  exact h n hn

theorem ownHold_weave {d : Device} (h : d.control.state = .weave) :
    ownHold d = requestPulse { d with seq := { d.seq with void := true } } := by
  rw [ownHold, if_pos h]
  rfl

theorem ownHold_outside {d : Device} (h : d.control.state ≠ .weave) : ownHold d = d := by
  rw [ownHold, if_neg h]

theorem requestPulse_stuck {d : Device} (h : d.line.stuck = true) : requestPulse d = d := by
  rw [requestPulse, if_pos h]

/-- The line after a pulse request on a CLEAR line: merged with a pulse under way, or a new pulse from 0 (R86). -/
theorem requestPulse_clear {d : Device} (h : d.line.stuck = false) :
    (∃ n, (requestPulse d).line.tx = .pulse n) ∧
    (requestPulse d).control.flags = d.control.flags ||| BitVec.twoPow 30 0 ∧
    (requestPulse d).line.beaconSlot = d.line.beaconSlot ∧ (requestPulse d).line.replySlot = d.line.replySlot ∧
    ((∀ n, d.line.tx ≠ .pulse n) → (requestPulse d).line.tx = .pulse 0 ∧ (requestPulse d).line.recessiveRun = 0 ∧
      (requestPulse d).line.dominantRun = d.line.dominantRun ∧
      (requestPulse d).line.ownPulse = (d.line.ownPulse || decide (d.line.dominantRun < 22))) := by
  obtain ⟨hstuck, -⟩ | ⟨-, ⟨n, hn⟩, e⟩ | ⟨-, -, e⟩ := requestPulse_cases d
  · simp [h] at hstuck
  · rw [e]
    exact ⟨⟨n, by simpa using hn⟩, rfl, rfl, rfl, fun hno => absurd hn (hno n)⟩
  · rw [e]
    exact ⟨⟨0, rfl⟩, rfl, rfl, rfl, fun _ => ⟨rfl, rfl, rfl, rfl⟩⟩

end Sys2Proof.Machine
end

section
/-! SUPPORT. What a hold can change: the void flag, the pulse on the line and flags; and the operations that do no more than that to the
sequencer, the line and station control (R42, R44, R86, R155, R159). -/

namespace Sys2Proof.Machine

/-! ## Flags set, and nothing else of station control changed -/

/-- Flags are set, those of the match table left as they are (R176). -/
structure RaisesFlags (a b : Control) : Prop where
  rest : b = { a with flags := b.flags }
  stays : ∀ f, flagOf f a = true → flagOf f b = true
  notice : flagOf .matchNotice b = flagOf .matchNotice a
  restart : flagOf .pieceRestart b = flagOf .pieceRestart a

theorem RaisesFlags.refl (a : Control) : RaisesFlags a a := ⟨rfl, fun _ => id, rfl, rfl⟩

theorem RaisesFlags.trans {a b c : Control} (h₁ : RaisesFlags a b) (h₂ : RaisesFlags b c) : RaisesFlags a c :=
  ⟨h₂.rest.trans (by rw [h₁.rest]), fun f hf => h₂.stays f (h₁.stays f hf), h₂.notice.trans h₁.notice,
    h₂.restart.trans h₁.restart⟩

theorem setFlag_raises {f : Flag} (hn : f ≠ .matchNotice) (hr : f ≠ .pieceRestart) (d : Device) :
    RaisesFlags d.control (setFlag f d).control :=
  ⟨rfl, fun g hg => by simp [hg], by simp [hn.symm], by simp [hr.symm]⟩

/-! ## What a hold can change -/

/-- From `d` to `t` no more of the sequencer, the line and station control changes than a hold can change: the void flag may be set, a
pulse begun, flags set. -/
structure OnlyHolds (d t : Device) : Prop where
  seq : t.seq = { d.seq with void := t.seq.void }
  voids : d.seq.void = true → t.seq.void = true
  line : t.line = { d.line with
    tx := t.line.tx, rx := t.line.rx, recessiveRun := t.line.recessiveRun, halfBit := t.line.halfBit, ownPulse := t.line.ownPulse }
  pulses : (∃ n, d.line.tx = .pulse n) → ∃ n, t.line.tx = .pulse n
  control : RaisesFlags d.control t.control

theorem OnlyHolds.of_frame {d t : Device} (hseq : t.seq = d.seq) (hline : t.line = d.line)
    (hcontrol : RaisesFlags d.control t.control) : OnlyHolds d t :=
  ⟨by rw [hseq], by rw [hseq]; exact id, by rw [hline], by rw [hline]; exact id, hcontrol⟩

theorem OnlyHolds.of_eq {d t : Device} (hseq : t.seq = d.seq) (hline : t.line = d.line) (hcontrol : t.control = d.control) :
    OnlyHolds d t := .of_frame hseq hline (hcontrol ▸ .refl _)

theorem OnlyHolds.trans {d e t : Device} (h₁ : OnlyHolds d e) (h₂ : OnlyHolds e t) : OnlyHolds d t :=
  ⟨h₂.seq.trans (by rw [h₁.seq]), h₂.voids ∘ h₁.voids, h₂.line.trans (by rw [h₁.line]), h₂.pulses ∘ h₁.pulses,
    h₁.control.trans h₂.control⟩

theorem doIf_onlyHolds (c : Bool) {f : Device → Device} {d : Device} (h : OnlyHolds d (f d)) : OnlyHolds d (doIf c f d) := by
  cases c
  · exact .of_eq rfl rfl rfl
  · exact h

theorem setFlag_onlyHolds {f : Flag} (hn : f ≠ .matchNotice) (hr : f ≠ .pieceRestart) (d : Device) : OnlyHolds d (setFlag f d) :=
  .of_frame rfl rfl (setFlag_raises hn hr d)

theorem requestPulse_onlyHolds (d : Device) : OnlyHolds d (requestPulse d) := by
  have hflag := setFlag_onlyHolds (f := .holdSent) (by decide) (by decide)
  obtain ⟨-, e⟩ | ⟨-, -, e⟩ | ⟨-, -, e⟩ := requestPulse_cases d <;> rw [e]
  · exact .of_eq rfl rfl rfl
  · exact hflag d
  · exact ⟨rfl, id, rfl, fun _ => ⟨0, rfl⟩, (hflag d).control⟩

theorem ownHold_onlyHolds (d : Device) : OnlyHolds d (ownHold d) := by
  obtain ⟨-, e⟩ | ⟨-, e⟩ := ownHold_cases d <;> rw [e]
  · exact .of_eq rfl rfl rfl
  · refine .trans ?_ (requestPulse_onlyHolds _)
    exact ⟨rfl, fun _ => rfl, rfl, id, .refl _⟩

/-- A flag that is none of the match table's, with its own hold. -/
theorem ownHold_setFlag_onlyHolds {f : Flag} (hn : f ≠ .matchNotice) (hr : f ≠ .pieceRestart) (d : Device) :
    OnlyHolds d (ownHold (setFlag f d)) := (setFlag_onlyHolds hn hr d).trans (ownHold_onlyHolds _)

/-! ## The weft selector (R153 to R159) -/

theorem setChoice_onlyHolds (c : Choice) (d : Device) : OnlyHolds d (setChoice c d) := .of_eq rfl rfl rfl

theorem putToggle_onlyHolds (k : Nat) (v : Bool) (d : Device) : OnlyHolds d (putToggle k v d) :=
  .of_eq (by simp) (by simp) (by simp)

theorem noFinger_onlyHolds (d : Device) : OnlyHolds d (noFinger d) :=
  (setChoice_onlyHolds _ d).trans (ownHold_setFlag_onlyHolds (by decide) (by decide) _)

theorem substitute_onlyHolds (other : Option Nat) (d : Device) : OnlyHolds d (substitute other d) := by
  unfold substitute
  split
  · split
    · exact noFinger_onlyHolds d
    · exact (setChoice_onlyHolds _ d).trans (setFlag_onlyHolds (by decide) (by decide) _)
  · exact noFinger_onlyHolds d

theorem chooseFinger_onlyHolds (k : Nat) (d : Device) : OnlyHolds d (chooseFinger k d) := by
  unfold chooseFinger
  split
  · exact setChoice_onlyHolds _ d
  · dsimp only
    split
    · exact substitute_onlyHolds _ d
    · exact setChoice_onlyHolds _ d

theorem startChoice_onlyHolds (d : Device) : OnlyHolds d (startChoice d) := by
  unfold startChoice
  split
  · exact chooseFinger_onlyHolds _ d
  · exact setChoice_onlyHolds _ d

theorem arrivalAtForwardB_onlyHolds (d : Device) : OnlyHolds d (arrivalAtForwardB d) :=
  (doIf_onlyHolds _ (ownHold_setFlag_onlyHolds (by decide) (by decide) d)).trans (.of_eq rfl rfl rfl)

theorem weftForwardBoundary_onlyHolds (kind : CrossKind) (left : Nat) (d : Device) :
    OnlyHolds d (weftForwardBoundary kind left d) := by
  unfold weftForwardBoundary
  split
  · have hflip : OnlyHolds d (doIf (decide (kind = .advance)) (flipToggle left) d) :=
      doIf_onlyHolds _ (.of_eq (by simp) (by simp) (by simp))
    exact (hflip.trans (startChoice_onlyHolds _)).trans (arrivalAtForwardB_onlyHolds _)
  · exact .of_eq rfl rfl rfl

theorem weftRetract_onlyHolds (e : HistoryEntry) (d : Device) : OnlyHolds d (weftRetract e d) := by
  unfold weftRetract
  split
  · refine .trans (.trans (putToggle_onlyHolds e.weft e.toggle d) ?_) (startChoice_onlyHolds _)
    exact .of_eq rfl rfl rfl
  · exact .of_eq rfl rfl rfl

/-! ## The string driver (R129, R132, R136) -/

theorem missTest_onlyHolds (d : Device) : OnlyHolds d (missTest d) := by
  unfold missTest
  dsimp only
  split
  · exact .of_eq rfl rfl rfl
  · exact .trans (.of_eq (by simp) (by simp) (by simp)) (doIf_onlyHolds _ (ownHold_setFlag_onlyHolds (by decide) (by decide) _))

theorem outstandingMissTest_onlyHolds (d : Device) : OnlyHolds d (outstandingMissTest d) :=
  doIf_onlyHolds _ (missTest_onlyHolds d)

theorem openForwardPick_onlyHolds (d : Device) : OnlyHolds d (openForwardPick d) := by
  have hdropped : OnlyHolds d (dropAll d) := .of_eq rfl rfl rfl
  exact (hdropped.trans (outstandingMissTest_onlyHolds _)).trans (.of_eq rfl rfl rfl)

theorem openReversePick_onlyHolds (d : Device) : OnlyHolds d (openReversePick d) := by
  have hdropped : OnlyHolds d (dropAll d) := .of_eq rfl rfl rfl
  exact (hdropped.trans (outstandingMissTest_onlyHolds _)).trans (.of_eq rfl rfl rfl)

end Sys2Proof.Machine
end

section
/-! SUPPORT. The choice of a finger, case by case (R154, R155). -/

namespace Sys2Proof.Machine

/-! ## What a choice leaves of the weft selector -/

/-- Toggles, finger output, arrival check and stop mark as they were: at most another choice. -/
def RestOfWeft (v w : WeftSel) : Prop := w = { v with choice := w.choice }

theorem setChoice_weft (c : Choice) (d : Device) : (setChoice c d).weft = { d.weft with choice := c } := rfl

theorem noFinger_weft (d : Device) : (noFinger d).weft = { d.weft with choice := .chosen none } := by
  simp [noFinger, setChoice_weft]

theorem substitute_weft (other : Option Nat) (d : Device) : RestOfWeft d.weft (substitute other d).weft := by
  unfold substitute
  split
  · split
    · rw [noFinger_weft]
      rfl
    · simp [setChoice_weft, RestOfWeft]
  · rw [noFinger_weft]
    rfl

theorem chooseFinger_weft (k : Nat) (d : Device) : RestOfWeft d.weft (chooseFinger k d).weft := by
  unfold chooseFinger
  split
  · rfl
  · dsimp only
    split
    · exact substitute_weft _ d
    · rfl

theorem startChoice_weft (d : Device) : RestOfWeft d.weft (startChoice d).weft := by
  unfold startChoice
  split
  · exact chooseFinger_weft _ d
  · rfl

theorem putToggle_reads {k : Nat} (hk : k < 8) (v : Bool) (d : Device) :
    (putToggle k v d).weft.toggles.getLsbD k = v := by
  rw [putToggle, if_pos hk]
  cases v <;> simp [hk]

/-! ## The choice for a code (R155) -/

theorem mapEntry_of_lt {d : Device} {k : Nat} (hk : k < 8) : mapEntry d k = (d.weft.map[k]?).join := by
  rw [mapEntry, if_pos hk]

/-- A mixing code whose toggle is set has its alternate as the nominal finger (R155 step 2). -/
theorem nominalFinger_eq {d : Device} {k : Nat} (hk : k < 8) (m : MapEntry) :
    nominalFinger d k m =
      if m.mixing = true ∧ m.alternate.isSome ∧ d.weft.toggles.getLsbD k = true then m.alternate.getD m.primary
      else m.primary := by
  simp [nominalFinger, mixes, toggleOf, hk, and_assoc]

theorem chooseFinger_unmapped {d : Device} {k : Nat} (h : mapEntry d k = none) :
    chooseFinger k d = setChoice (.chosen none) d := by
  simp [chooseFinger, h]

section
variable {d : Device} {k : Nat} {m : MapEntry} (hm : mapEntry d k = some m)
include hm

theorem chooseFinger_running (h : stopped d (nominalFinger d k m) = false) :
    chooseFinger k d = setChoice (.chosen (some (nominalFinger d k m))) d := by
  simp [chooseFinger, hm, h]

theorem chooseFinger_substituted {o : Nat} (h : stopped d (nominalFinger d k m) = true)
    (ho : otherFinger m (nominalFinger d k m) = some o) (hrun : stopped d o = false) :
    chooseFinger k d = setFlag .substituted (setChoice (.chosen (some o)) d) := by
  simp [chooseFinger, hm, h, ho, substitute, hrun]

theorem chooseFinger_stopped (h : stopped d (nominalFinger d k m) = true)
    (ho : (otherFinger m (nominalFinger d k m)).all (stopped d) = true) : chooseFinger k d = noFinger d := by
  simp only [chooseFinger, hm, h, if_true]
  cases hother : otherFinger m (nominalFinger d k m) with
  | none => rfl
  | some o =>
    have hstop : stopped d o = true := by simpa [hother] using ho
    simp [substitute, hstop]

end

theorem startChoice_override {d : Device} {k : Nat} (h : overrideOf d = some k) : startChoice d = chooseFinger k d := by
  simp [startChoice, h]

theorem startChoice_pending {d : Device} (h : overrideOf d = none) : startChoice d = setChoice .pending d := by
  simp [startChoice, h]

/-- With no finger left the pick is void in WEAVE and FEEDER STOP is set (R155 step 5). -/
theorem noFinger_voids {d : Device} (h : d.control.state = .weave) : (noFinger d).seq.void = true := by
  simp [noFinger, ownHold_seq, h]

theorem noFinger_feederStop (d : Device) : flagOf .feederStop (noFinger d).control = true := by
  simp [noFinger]

end Sys2Proof.Machine
end

section
/-! SUPPORT. A hold heard inside the open guard band: the crossing is taken back (R45, R49, R87). -/

namespace Sys2Proof.Machine

/-- With main power a detected hold acts on the station alone (R87). -/
theorem exec_holdDetected {s : State} (hp : s.dev.control.powered = true) :
    exec .holdDetected s = .next { s with dev := detectHold s.dev } := completed_powered hp

/-- The station with another node's hold measured, counted and flagged (R45, R87). -/
def heardHold (d : Device) : Device :=
  setFlag .holdSeen (count (fun c => { c with holdsSeen := inc16 c.holdsSeen }) (setReceiver .hunt (measuredDominant 22 d)))

theorem heardHold_writes (d : Device) : (heardHold d).control.writes = d.control.writes := rfl

/-- The position of the crossing that pushed `e` taken back, and its row fetched: the retract before the weft selector, the beacon and the
strings take their part (R49). -/
def takenBack (e : HistoryEntry) (rest : List HistoryEntry) (d : Device) : Device :=
  bringBackWeft e (startPickFetch false (writeRetained (onSeq (fun q => { q with
      history := pushHistory { e with void := true, kind := .again } q.history, void := false })
    (setFlag .retracted
      (onSeq (fun q => { q with pos := e.pos, void := true, history := rest, guardOpen := false }) d)))))

theorem retract_eq (e : HistoryEntry) (rest : List HistoryEntry) (d : Device) :
    retract e rest d = stringsRetracted (beaconRetracted (weftRetract e (takenBack e rest d))) := rfl

theorem takenBack_seq (e : HistoryEntry) (rest : List HistoryEntry) (d : Device) :
    (takenBack e rest d).seq = { d.seq with
      pos := e.pos
      void := false
      history := { e with void := true, kind := .again } :: rest.take 23
      guardOpen := false
      pickWeft := some ((overrideOf (takenBack e rest d)).getD e.weft)
      pickLift := none } := rfl

theorem takenBack_store (e : HistoryEntry) (rest : List HistoryEntry) (d : Device) :
    (takenBack e rest d).store = { d.store with
      fetch := .fetching e.pos.row (.pick false (overrideOf (takenBack e rest d))) 0, result := none } := rfl

theorem takenBack_writes (e : HistoryEntry) (rest : List HistoryEntry) (d : Device) :
    (takenBack e rest d).control.writes =
      d.control.writes ++ [recordOf e.pos ((d.control.config.map (·.identity)).getD 0#32)] := rfl

@[simp] theorem takenBack_frame (e : HistoryEntry) (rest : List HistoryEntry) (d : Device) :
    (takenBack e rest d).weft = d.weft ∧ (takenBack e rest d).pins = d.pins ∧
    (takenBack e rest d).control.role = d.control.role ∧ (takenBack e rest d).control.state = d.control.state := by
  simp [takenBack]

theorem takenBack_retracted (e : HistoryEntry) (rest : List HistoryEntry) (d : Device) :
    flagOf .retracted (takenBack e rest d).control = true := by
  simp [takenBack, bringBackWeft, startPickFetch]

/-- The beacon and the strings leave sequencer, store, station control and weft selector as they are. -/
theorem retract_rest (e : HistoryEntry) (rest : List HistoryEntry) (d : Device) :
    (retract e rest d).seq = (weftRetract e (takenBack e rest d)).seq ∧
    (retract e rest d).store = (takenBack e rest d).store ∧
    (retract e rest d).control = (weftRetract e (takenBack e rest d)).control ∧
    (retract e rest d).weft = (weftRetract e (takenBack e rest d)).weft := by
  simp [retract_eq]

theorem retract_overrideOf (e : HistoryEntry) (rest : List HistoryEntry) (d : Device) :
    overrideOf (retract e rest d) = overrideOf (takenBack e rest d) := by
  simp [overrideOf, retract_rest]

theorem retract_patterns (e : HistoryEntry) (rest : List HistoryEntry) (d : Device) :
    ((retract e rest d).strings.strings.all fun x => !x.pattern) = true := by
  simp [retract_eq, stringsRetracted, mapAllStrings_strings]

theorem beaconRetracted_due (d : Device) (g : Bool) : (beaconRetracted d).line.beaconDue ≠ .due true g := by
  unfold beaconRetracted
  split
  · simp
  · next h => exact h true g

theorem retract_beaconDue (e : HistoryEntry) (rest : List HistoryEntry) (d : Device) (g : Bool) :
    (retract e rest d).line.beaconDue ≠ .due true g := by
  obtain ⟨-, -, -, hline, -⟩ := stringsRetracted_frame (beaconRetracted (weftRetract e (takenBack e rest d)))
  rw [retract_eq, hline]
  exact beaconRetracted_due _ g

/-- What a hold does to the sequencer after the position is taken back: at most the void flag. -/
theorem retract_seq (e : HistoryEntry) (rest : List HistoryEntry) (d : Device) :
    (retract e rest d).seq = { (takenBack e rest d).seq with void := (retract e rest d).seq.void } := by
  rw [(retract_rest e rest d).1]
  exact (weftRetract_onlyHolds e _).seq

/-! ## The weft selector at a retract (R49, R154, R155) -/

/-- The weft selector of a retract with the toggle restored and the check ended, before it chooses anew. -/
def toggledBack (e : HistoryEntry) (d : Device) : Device := setArrival .idle (putToggle e.weft e.toggle d)

theorem weftRetract_weft {e : HistoryEntry} {d : Device} (h : isWeft d = true) :
    weftRetract e d = startChoice (toggledBack e d) := by
  rw [weftRetract, if_pos h]
  rfl

theorem weftRetract_section {e : HistoryEntry} {d : Device} (h : isWeft d = false) : weftRetract e d = d := by
  simp [weftRetract, h]

@[simp] theorem toggledBack_frame (e : HistoryEntry) (d : Device) :
    (toggledBack e d).seq = d.seq ∧ (toggledBack e d).control = d.control ∧ (toggledBack e d).pins = d.pins ∧
    (toggledBack e d).weft.map = d.weft.map ∧ (toggledBack e d).weft.arrival = .idle := by
  simp [toggledBack, setArrival]

theorem toggledBack_toggle {e : HistoryEntry} (hk : e.weft < 8) (d : Device) :
    (toggledBack e d).weft.toggles.getLsbD e.weft = e.toggle := putToggle_reads hk e.toggle d

end Sys2Proof.Machine
end

section
/-! SUPPORT. What a detected hold leaves where it retracts the crossing, the choice of the finger by the feeders that run (R49, R155). -/

namespace Sys2Proof.Machine

@[simp] theorem heardHold_frame (d : Device) :
    (heardHold d).tracker = d.tracker ∧ (heardHold d).seq = d.seq ∧ (heardHold d).store = d.store ∧
    (heardHold d).roster = d.roster ∧ (heardHold d).fire = d.fire ∧ (heardHold d).trainer = d.trainer ∧
    (heardHold d).weft = d.weft ∧ (heardHold d).pins = d.pins ∧ (heardHold d).control.state = d.control.state ∧
    (heardHold d).control.role = d.control.role ∧ (heardHold d).control.config = d.control.config := by
  simp [heardHold]

theorem weave_of_retracts {d : Device} (h : retracts d = true) : d.control.state = .weave := by
  simp only [retracts, inWeave, Bool.and_eq_true, decide_eq_true_eq] at h
  obtain ⟨⟨⟨⟨⟨hweave, -⟩, -⟩, -⟩, -⟩, -⟩ := h
  exact hweave

/-- Another node's hold inside the open guard band takes the crossing back (R49). -/
theorem detectHold_retracts {e : HistoryEntry} {rest : List HistoryEntry} {d : Device} (hown : d.line.ownPulse = false)
    (hret : retracts d = true) (hhist : d.seq.history = e :: rest) : detectHold d = retract e rest (heardHold d) := by
  have hweave : inWeave (heardHold d) = true := by simp [inWeave, weave_of_retracts hret]
  have hret' : retracts (heardHold d) = true := by simpa [retracts, inWeave] using hret
  have hhist' : (heardHold d).seq.history = e :: rest := by simpa using hhist
  calc detectHold d = lineHold (heardHold d) := by
        rw [detectHold, hown]
        rfl
    _ = retract e rest (heardHold d) := by
        rw [lineHold, if_pos hweave, hret', hhist']

/-! ## The blocks after a retract -/

theorem retract_seq_eq (e : HistoryEntry) (rest : List HistoryEntry) (d : Device) :
    (retract e rest d).seq = { d.seq with
      pos := e.pos
      void := (retract e rest d).seq.void
      history := { e with void := true, kind := .again } :: rest.take 23
      guardOpen := false
      pickWeft := some ((overrideOf (retract e rest d)).getD e.weft)
      pickLift := none } := by
  rw [retract_overrideOf]
  exact retract_seq e rest d

theorem retract_store_eq (e : HistoryEntry) (rest : List HistoryEntry) (d : Device) :
    (retract e rest d).store = { d.store with
      fetch := .fetching e.pos.row (.pick false (overrideOf (retract e rest d))) 0, result := none } := by
  rw [retract_overrideOf, (retract_rest e rest d).2.1, takenBack_store]

theorem retract_raises (e : HistoryEntry) (rest : List HistoryEntry) (d : Device) :
    RaisesFlags (takenBack e rest d).control (retract e rest d).control := by
  rw [(retract_rest e rest d).2.2.1]
  exact (weftRetract_onlyHolds e _).control

theorem retract_writes (e : HistoryEntry) (rest : List HistoryEntry) (d : Device) :
    (retract e rest d).control.writes =
      d.control.writes ++ [recordOf e.pos ((d.control.config.map (·.identity)).getD 0#32)] := by
  rw [(retract_raises e rest d).rest]
  exact takenBack_writes e rest d

/-- In the section role a retract leaves the pick not void (R49). -/
theorem retract_not_void_section {e : HistoryEntry} {rest : List HistoryEntry} {d : Device} (h : d.control.role = .sectionRole) :
    (retract e rest d).seq.void = false := by
  rw [(retract_rest e rest d).1, weftRetract_section (by simp [isWeft, h])]
  rfl

/-! ## The choice at a retract (R154, R155) -/

section
variable {e : HistoryEntry} {rest : List HistoryEntry} {d : Device}

/-- In the weft role the choice is made anew over the restored toggle. -/
theorem retract_weft (h : d.control.role = .weftRole) :
    (retract e rest d).seq = (startChoice (toggledBack e (takenBack e rest d))).seq ∧
    (retract e rest d).control = (startChoice (toggledBack e (takenBack e rest d))).control ∧
    (retract e rest d).weft = (startChoice (toggledBack e (takenBack e rest d))).weft := by
  have hw : weftRetract e (takenBack e rest d) = startChoice (toggledBack e (takenBack e rest d)) :=
    weftRetract_weft (by simp [isWeft, h])
  simp only [retract_rest, hw, and_self]

theorem toggledBack_overrideOf : overrideOf (toggledBack e (takenBack e rest d)) = overrideOf (retract e rest d) := by
  rw [retract_overrideOf]
  simp [overrideOf]

theorem retract_arrival_toggle (h : d.control.role = .weftRole) :
    (retract e rest d).weft.arrival = .idle ∧
    (retract e rest d).weft.toggles = (toggledBack e (takenBack e rest d)).weft.toggles := by
  have hweft : (retract e rest d).weft =
      { (toggledBack e (takenBack e rest d)).weft with choice := (retract e rest d).weft.choice } := by
    rw [(retract_weft h).2.2]
    exact startChoice_weft _
  constructor <;> rw [hweft]
  simp

/-- With no override the choice waits for the row, and the pick is not void (R154). -/
theorem retract_pending (h : d.control.role = .weftRole) (ho : overrideOf (retract e rest d) = none) :
    (retract e rest d).weft.choice = .pending ∧ (retract e rest d).seq.void = false := by
  obtain ⟨hseq, -, hweft⟩ := retract_weft (e := e) (rest := rest) h
  rw [hseq, hweft, startChoice_pending (toggledBack_overrideOf.trans ho)]
  exact ⟨rfl, by simp [setChoice, takenBack_seq]⟩

theorem retract_override (h : d.control.role = .weftRole) {k : Nat} (ho : overrideOf (retract e rest d) = some k) :
    (retract e rest d).seq = (chooseFinger k (toggledBack e (takenBack e rest d))).seq ∧
    (retract e rest d).control = (chooseFinger k (toggledBack e (takenBack e rest d))).control ∧
    (retract e rest d).weft = (chooseFinger k (toggledBack e (takenBack e rest d))).weft := by
  rw [← startChoice_override (toggledBack_overrideOf.trans ho)]
  exact retract_weft h

/-- Code 15 has no finger. -/
theorem retract_override_none (h : d.control.role = .weftRole) {k : Nat} (ho : overrideOf (retract e rest d) = some k) (hk : 8 ≤ k) :
    (retract e rest d).weft.choice = .chosen none ∧ (retract e rest d).seq.void = false := by
  obtain ⟨hseq, -, hweft⟩ := retract_override h ho
  rw [hseq, hweft, chooseFinger_unmapped (by simp [mapEntry, Nat.not_lt.mpr hk])]
  exact ⟨rfl, by simp [setChoice, takenBack_seq]⟩

end

/-- The finger chosen at a retract over an override, `q` being the station with the toggle restored: the nominal finger, the other of
the pair where its feeder is stopped, none where both are (R155). -/
theorem override_choice {q : Device} {k : Nat} {m : MapEntry} {f : Nat} (hk : k < 8) (hm : (q.weft.map[k]?).join = some m)
    (hweave : q.control.state = .weave) (hvoid : q.seq.void = false)
    (hf : f = (if m.mixing = true ∧ m.alternate.isSome ∧ q.weft.toggles.getLsbD k = true then m.alternate.getD m.primary
      else m.primary)) :
    (q.pins.feederStop.getLsbD f = false →
      (chooseFinger k q).weft.choice = .chosen (some f) ∧ (chooseFinger k q).seq.void = false) ∧
    (∀ o, (if f = m.primary then m.alternate else some m.primary) = some o →
      q.pins.feederStop.getLsbD f = true → q.pins.feederStop.getLsbD o = false →
      (chooseFinger k q).weft.choice = .chosen (some o) ∧ (chooseFinger k q).seq.void = false ∧
        (chooseFinger k q).control.flags.getLsbD 25 = true) ∧
    (q.pins.feederStop.getLsbD f = true →
      ((if f = m.primary then m.alternate else some m.primary).all fun o => q.pins.feederStop.getLsbD o) = true →
      (chooseFinger k q).weft.choice = .chosen none ∧ (chooseFinger k q).seq.void = true ∧
        (chooseFinger k q).control.flags.getLsbD 26 = true) := by
  have hentry : mapEntry q k = some m := (mapEntry_of_lt hk).trans hm
  obtain rfl : f = nominalFinger q k m := hf.trans (nominalFinger_eq hk m).symm
  refine ⟨fun hrun => ?_, fun o ho hstop hrun => ?_, fun hstop hall => ?_⟩
  · rw [chooseFinger_running hentry hrun]
    exact ⟨rfl, hvoid⟩
  · rw [chooseFinger_substituted hentry hstop ho hrun]
    exact ⟨rfl, hvoid, setFlag_hasFlag .substituted _⟩
  · rw [chooseFinger_stopped hentry hstop hall]
    exact ⟨by simp [noFinger_weft], noFinger_voids hweave, noFinger_feederStop q⟩

end Sys2Proof.Machine
end

section
/-! SUPPORT. A counting step onto B: the station as the crossings find it, and the crossings that B alone raises (R1, R6, R7). -/

namespace Sys2Proof.Machine

/-! ## The override of a run -/

theorem overrideOf_congr {d t : Device} (hruns : t.seq.runs = d.seq.runs) (hpos : t.seq.pos = d.seq.pos) :
    overrideOf t = overrideOf d := by
  unfold overrideOf
  rw [hruns, hpos]

theorem OnlyHolds.overrideOf {d t : Device} (h : OnlyHolds d t) : overrideOf t = overrideOf d :=
  overrideOf_congr (congrArg Sequencer.runs h.seq :) (congrArg Sequencer.pos h.seq :)

/-! ## What a step does before its crossings sets flags alone of station control -/

theorem RaisesFlags.of_eq {a b : Control} (h : b = a) : RaisesFlags a b := h ▸ .refl _

theorem RaisesFlags.writes {a b : Control} (h : RaisesFlags a b) : b.writes = a.writes := (congrArg Control.writes h.rest :)

theorem doIf_raises (c : Bool) {f : Device → Device} {d : Device} (h : RaisesFlags d.control (f d).control) :
    RaisesFlags d.control (doIf c f d).control := by
  cases c
  · exact .refl _
  · exact h

theorem computeStrings_raises (c : Configuration) (held : Bool) (d : Device) :
    RaisesFlags d.control (computeStrings c held d).control := by
  unfold computeStrings
  dsimp only
  generalize hx : mapStrings _ _ = x
  have hcontrol : d.control = x.control := by subst hx; rfl
  rw [hcontrol]
  exact (doIf_raises _ (setFlag_raises (by decide) (by decide) _)).trans
    (doIf_raises _ (setFlag_raises (by decide) (by decide) _))

theorem recompute_raises (c : Configuration) (d : Device) : RaisesFlags d.control (recompute c d).control := by
  exact (computeStrings_raises c false d).trans (.of_eq (by simp [recompute]))

theorem fireLeavesFast_raises (d : Device) : RaisesFlags d.control (fireLeavesFast d).control := by
  unfold fireLeavesFast
  split
  · split
    · exact recompute_raises _ d
    · exact .refl _
  · exact .refl _

theorem fireSpan_raises (s : Nat) (d : Device) : RaisesFlags d.control (fireSpan s d).control := by
  unfold fireSpan
  dsimp only
  split
  · split
    · split
      · split
        · exact recompute_raises _ (onFire (fun t => { t with recip := recipOf s }) d)
        · exact .refl _
      · exact .refl _
    · exact .refl _
  · exact .refl _

theorem enterHeld_raises (d : Device) : RaisesFlags d.control (enterHeld d).control := by
  unfold enterHeld
  split
  · exact computeStrings_raises _ true (clearFired d)
  · exact .refl _

theorem turnPick_raises (d : Device) : RaisesFlags d.control (turnPick d).control := by
  have hturn (x : Device) : RaisesFlags x.control (fireTurn x).control := by
    unfold fireTurn
    split
    · exact .refl _
    · exact enterHeld_raises x
    · exact enterHeld_raises x
    · exact .refl _
  exact (RaisesFlags.of_eq (by simp)).trans (doIf_raises _ (hturn (stringsTurn d)))

theorem handSpeed_raises (before : Speed) (done : Bool) (d : Device) :
    RaisesFlags d.control (handSpeed before done d).control := by
  have hfast := doIf_raises (decide (before ≠ .fast) && decide (d.tracker.speed = .fast))
    (setFlag_raises (f := .fast) (by decide) (by decide) d)
  unfold handSpeed
  dsimp only
  split
  · split
    · exact hfast.trans (fireSpan_raises _ _)
    · exact hfast
  · exact hfast.trans (doIf_raises _ (fireLeavesFast_raises _))

/-! ## Nothing before the crossings makes the test for missed selections -/

@[simp] theorem doIf_strings_missTested (c : Bool) (f : Device → Device) (d : Device) :
    (doIf c f d).strings.missTested = if c then (f d).strings.missTested else d.strings.missTested := by cases c <;> rfl

@[simp] theorem fireWhere_missTested (p : Nat → SelString → Bool) (d : Device) :
    (fireWhere p d).strings.missTested = d.strings.missTested := by
  simp [fireWhere, mapStrings]

@[simp] theorem fallDue_missTested (p : Nat → SelString → Bool) (d : Device) :
    (fallDue p d).strings.missTested = d.strings.missTested := by
  simp [fallDue, mapStrings]

@[simp] theorem computeStrings_missTested (c : Configuration) (held : Bool) (d : Device) :
    (computeStrings c held d).strings.missTested = d.strings.missTested := by
  simp [computeStrings, mapStrings]

@[simp] theorem recompute_missTested (c : Configuration) (d : Device) :
    (recompute c d).strings.missTested = d.strings.missTested := by
  simp [recompute, firePassed]

@[simp] theorem fireLeavesFast_missTested (d : Device) : (fireLeavesFast d).strings.missTested = d.strings.missTested := by
  unfold fireLeavesFast
  (repeat' split) <;> simp

@[simp] theorem fireSpan_missTested (s : Nat) (d : Device) : (fireSpan s d).strings.missTested = d.strings.missTested := by
  unfold fireSpan
  dsimp only
  (repeat' split) <;> simp

@[simp] theorem turnPick_missTested (d : Device) : (turnPick d).strings.missTested = d.strings.missTested := by
  have hturn (x : Device) : (fireTurn x).strings.missTested = x.strings.missTested := by
    unfold fireTurn enterHeld
    (repeat' split) <;> simp
  have hstrings : (stringsTurn d).strings.missTested = d.strings.missTested := by
    unfold stringsTurn
    split <;> simp [mapAllStrings_strings]
  simp [turnPick, hturn, hstrings]

@[simp] theorem handSpeed_missTested (before : Speed) (done : Bool) (d : Device) :
    (handSpeed before done d).strings.missTested = d.strings.missTested := by
  unfold handSpeed
  dsimp only
  (repeat' split) <;> simp

/-! ## The station as the crossings of a step find it -/

/-- A step handed on to the strings and to string power, before the fires at its angle (R1 steps 3 and 4). -/
def stepHanded (dir : Direction) (d : Device) : Device :=
  handMotion (handSpeed d.tracker.speed (completes dir d.tracker)
    (doIf (turns dir d.tracker) turnPick (onTracker (stepTracker d.control.config dir) d)))

/-- The station as the crossings of a step find it. -/
def atCrossing (dir : Direction) (d : Device) : Device :=
  doIf (decide (dir = .forward)) (stringsAtAngle (stepHanded dir d).tracker.angle) (stepHanded dir d)

theorem takeStep_eq (dir : Direction) (d : Device) :
    takeStep dir false d = checkDistance (crossings dir (atCrossing dir d)) := rfl

theorem handMotion_weave {d : Device} (h : d.control.state = .weave) : handMotion d = wakePower d := by
  simp [handMotion, h]

@[simp] theorem atCrossing_frame (dir : Direction) (d : Device) :
    (atCrossing dir d).tracker = stepTracker d.control.config dir d.tracker ∧ (atCrossing dir d).seq = d.seq ∧
    (atCrossing dir d).store = d.store ∧ (atCrossing dir d).line = d.line ∧ (atCrossing dir d).roster = d.roster ∧
    (atCrossing dir d).weft = d.weft ∧ (atCrossing dir d).pins = d.pins ∧
    (atCrossing dir d).strings.mode = d.strings.mode ∧ (atCrossing dir d).control.role = d.control.role ∧
    (atCrossing dir d).control.config = d.control.config := by
  have hturn : ∀ x, (doIf (turns dir d.tracker) turnPick x).tracker = x.tracker := fun x => by simp
  simp [atCrossing, stepHanded, hturn]

section
variable {dir : Direction} {d : Device} (h : d.control.state = .weave)
include h

theorem stepHanded_weave : stepHanded dir d = wakePower (handSpeed d.tracker.speed (completes dir d.tracker)
    (doIf (turns dir d.tracker) turnPick (onTracker (stepTracker d.control.config dir) d))) :=
  handMotion_weave (by simpa using h)

theorem atCrossing_state : (atCrossing dir d).control.state = .weave := by
  simp [atCrossing, stepHanded_weave h, h]

theorem atCrossing_missTested : (atCrossing dir d).strings.missTested = d.strings.missTested := by
  have hwake (x : Device) : (wakePower x).strings.missTested = x.strings.missTested := by
    unfold wakePower
    split <;> rfl
  simp [atCrossing, stringsAtAngle, stepHanded_weave h, hwake]

theorem atCrossing_raises : RaisesFlags d.control (atCrossing dir d).control := by
  have hcontrol : (atCrossing dir d).control = (handSpeed d.tracker.speed (completes dir d.tracker)
      (doIf (turns dir d.tracker) turnPick (onTracker (stepTracker d.control.config dir) d))).control := by
    simp [atCrossing, stepHanded_weave h]
  rw [hcontrol]
  exact (doIf_raises (turns dir d.tracker) (turnPick_raises (onTracker (stepTracker d.control.config dir) d))).trans
    (handSpeed_raises _ _ _)

end

/-! ## The configured angles (R171) -/

theorem arc_eq (x y : Nat) : arc x y = (y % 4096 + 4096 - x % 4096) % 4096 := rfl

/-- In the section role no other configured angle lies at B (R171 step 4). -/
theorem section_angles_ne {c : Configuration} (h : soundConfig .sectionRole c = true) :
    c.b < 4096 ∧ c.g ≤ 256 ∧ c.b ≠ c.c ∧ c.b ≠ c.w ∧ c.b ≠ c.k ∧ c.b ≠ c.d := by
  simp only [soundConfig, fieldsInRange, anglesInOrder, neighbourArcs, roleAngles, Bool.and_eq_true, decide_eq_true_eq,
    List.all_cons, List.drop, List.take, List.zipWith, List.sum_cons, List.cons_append, List.nil_append, arc_eq] at h
  omega

theorem weft_angles_ne {c : Configuration} (h : soundConfig .weftRole c = true) :
    c.b < 4096 ∧ c.g ≤ 256 ∧ c.b ≠ c.fa ∧ c.b ≠ c.ao ∧ c.b ≠ c.ac := by
  simp only [soundConfig, fieldsInRange, anglesInOrder, neighbourArcs, roleAngles, Bool.and_eq_true, decide_eq_true_eq,
    List.all_cons, List.drop, List.take, List.zipWith, List.sum_cons, List.cons_append, List.nil_append, arc_eq] at h
  omega

theorem sound_b_g {role : Role} {c : Configuration} (h : soundConfig role c = true) : c.b < 4096 ∧ c.g ≤ 256 := by
  cases role
  · have := section_angles_ne h
    omega
  · have := weft_angles_ne h
    omega

/-- G-end lies at B exactly where G = 0. -/
theorem guardEnd_at_b {role : Role} {c : Configuration} (h : soundConfig role c = true) :
    decide (c.b = guardEnd c) = decide (c.g = 0) := by
  have := sound_b_g h
  refine decide_eq_decide.mpr ?_
  unfold guardEnd
  omega

/-- A forward step onto B raises the B crossing, and where G = 0 the G-end crossing after it (R7; log 31). -/
theorem forwardCrossings_at_b {role : Role} {c : Configuration} (h : soundConfig role c = true) (d : Device) :
    forwardCrossings c role c.b d = doIf (decide (c.g = 0)) forwardGuardEnd (forwardB c d) := by
  unfold forwardCrossings
  rw [guardEnd_at_b h]
  cases role with
  | sectionRole =>
    obtain ⟨-, -, hc, hw, hk, hd⟩ := section_angles_ne h
    simp [hc, hw, hk, hd, doIf_true, doIf_false]
  | weftRole =>
    obtain ⟨-, -, hfa, hao, hac⟩ := weft_angles_ne h
    simp [hfa, hao, hac, doIf_true, doIf_false]

/-- A reverse step onto B raises the B crossing alone. -/
theorem reverseCrossings_at_b {role : Role} {c : Configuration} (h : soundConfig role c = true) (d : Device) :
    reverseCrossings c role c.b d = reverseB d := by
  unfold reverseCrossings
  cases role with
  | sectionRole =>
    obtain ⟨-, -, hc, hw, hk, hd⟩ := section_angles_ne h
    simp [hw, hk, hd, doIf_true, doIf_false]
  | weftRole =>
    obtain ⟨-, -, hfa, hao, hac⟩ := weft_angles_ne h
    simp [hfa, doIf_true, doIf_false]

/-- The crossings of one configured angle, by direction (R6). -/
def crossingsOf (dir : Direction) (c : Configuration) (role : Role) (angle : Nat) (d : Device) : Device :=
  match dir with
  | .forward => forwardCrossings c role angle d
  | .reverse => reverseCrossings c role angle d

/-- A step onto a configured angle short of the distance limit ends with its crossings (R5, R6). -/
theorem takeStep_crossings {dir : Direction} {d : Device} {c : Configuration} (hc : d.control.config = some c)
    (hr : d.tracker.referenced = true) (hdist : (stepDistance dir d.tracker).natAbs < 8256) :
    takeStep dir false d = crossingsOf dir c d.control.role (stepAngle dir d.tracker.angle) (atCrossing dir d) := by
  have hcross : crossings dir (atCrossing dir d) =
      crossingsOf dir c d.control.role (stepAngle dir d.tracker.angle) (atCrossing dir d) := by
    unfold crossings crossingsOf
    cases dir <;> simp [hc, hr]
  rw [takeStep_eq, checkDistance, if_neg, hcross]
  simp [hr, hdist]

end Sys2Proof.Machine
end

section
/-! SUPPORT. The forward boundary crossing in WEAVE (R38 to R42, R48, R55, R64, R95, R98, R129, R165, R166). -/

namespace Sys2Proof.Machine

/-! ## The match table at an ADVANCE (R165, R166) -/

/-- Evaluation restarts the piece count where an entry says so, and voids the pick where one holds. -/
theorem evaluateMatches_seq {d : Device} (h : d.control.state = .weave) :
    (evaluateMatches d).seq = { d.seq with
      pos := { d.seq.pos with piece := if actionMatched d .pieceRestart then 0 else d.seq.pos.piece }
      void := d.seq.void || actionMatched d .hold } := by
  have hrestart : (doIf (actionMatched d .pieceRestart) restartPiece d).seq = { d.seq with
      pos := { d.seq.pos with piece := if actionMatched d .pieceRestart then 0 else d.seq.pos.piece } } := by
    cases actionMatched d .pieceRestart <;> simp [doIf, restartPiece]
  have hnotice (x : Device) (b : Bool) : (doIf b (setFlag .matchNotice) x).seq = x.seq := by simp
  rw [evaluateMatches, hnotice]
  cases hhold : actionMatched d .hold
  · simp [doIf_false, hrestart]
  · simp [doIf_true, ownHold_seq, hrestart, h]

/-- No more of station control than flags, and none of them cleared. -/
theorem evaluateMatches_control (d : Device) :
    (evaluateMatches d).control.writes = d.control.writes ∧
    (actionMatched d .notice = true → flagOf .matchNotice (evaluateMatches d).control = true) ∧
    (actionMatched d .pieceRestart = true → flagOf .pieceRestart (evaluateMatches d).control = true) := by
  unfold evaluateMatches
  generalize hr : doIf (actionMatched d .pieceRestart) restartPiece d = r
  have hrestart : r.control.writes = d.control.writes ∧
      (actionMatched d .pieceRestart = true → flagOf .pieceRestart r.control = true) := by
    subst hr
    cases actionMatched d .pieceRestart
    · exact ⟨rfl, by simp⟩
    · exact ⟨rfl, fun _ => by simp [doIf_true, restartPiece]⟩
  have hhold := (doIf_onlyHolds (actionMatched d .hold) (ownHold_onlyHolds r)).control
  refine ⟨?_, fun hnotice => by simp [hnotice, doIf_true], fun hmatched => ?_⟩
  · rw [← hrestart.1]
    cases actionMatched d .notice <;> exact hhold.writes
  · have hkept := hhold.stays _ (hrestart.2 hmatched)
    cases actionMatched d .notice
    · exact hkept
    · simp [doIf_true, hkept]

/-! ## The position after the crossing (R40) -/

/-- The position moved and the match table evaluated at an ADVANCE: R40 steps 1 to 4. -/
def forwardCrossed (d : Device) : Device := doIf (decide (crossingKind d = .advance)) evaluateMatches (crossPosition d)

/-- The record written, the fetch started, the beacon due and the window open: R40 steps 5 and 6. -/
def forwardFetched (d : Device) : Device :=
  openWindow (beaconFallsDue (startPickFetch false (writeRetained (forwardCrossed d))))

theorem seqForwardB_eq (d : Device) :
    seqForwardB d = stuckVoid (weftForwardBoundary (crossingKind d) (recordedWeft d) (forwardFetched d)) := rfl

@[simp] theorem forwardCrossed_frame (d : Device) :
    (forwardCrossed d).store = d.store ∧ (forwardCrossed d).roster = d.roster ∧ (forwardCrossed d).weft = d.weft ∧
    (forwardCrossed d).strings = d.strings ∧ (forwardCrossed d).control.state = d.control.state ∧
    (forwardCrossed d).control.role = d.control.role ∧ (forwardCrossed d).control.config = d.control.config ∧
    (forwardCrossed d).seq.runs = d.seq.runs ∧ (forwardCrossed d).line.stuck = d.line.stuck := by
  simp [forwardCrossed]

/-- A REPEAT keeps the position and evaluates nothing. -/
theorem forwardCrossed_repeat {d : Device} (h : d.seq.void = true) : forwardCrossed d = crossPosition d := by
  simp [forwardCrossed, crossingKind, h, doIf_false]

theorem forwardCrossed_advance {d : Device} (h : d.seq.void = false) : forwardCrossed d = evaluateMatches (crossPosition d) := by
  simp [forwardCrossed, crossingKind, h, doIf_true]

/-- The position of an ADVANCE is what the match table is compared with. -/
theorem actionMatched_crossPosition {d crossed : Device} (h : d.seq.void = false)
    (hcrossed : crossed.seq = { d.seq with pos := advance d.seq.runs d.seq.pos }) (a : MatchAction) :
    actionMatched (crossPosition d) a = actionMatched crossed a := by
  simp [actionMatched, crossPosition_seq, crossingKind, h, hcrossed]

theorem forwardCrossed_seq {d : Device} (hweave : d.control.state = .weave) :
    (forwardCrossed d).seq.history = entryFor (crossingKind d) d :: d.seq.history.take 23 ∧
    (forwardCrossed d).seq.guardOpen = true ∧
    (d.seq.void = true → (forwardCrossed d).seq.pos = d.seq.pos ∧ (forwardCrossed d).seq.void = false) := by
  cases h : d.seq.void with
  | true => simp [forwardCrossed_repeat h, crossPosition_seq, crossingKind, h, pushHistory]
  | false =>
    rw [forwardCrossed_advance h, evaluateMatches_seq (by simpa using hweave)]
    simp [crossPosition_seq, pushHistory]

/-- An ADVANCE takes the forward advance; the match table restarts the piece count, voids the pick and sets its flags (R165, R166). -/
theorem forwardCrossed_matches {d crossed : Device} (hweave : d.control.state = .weave) (h : d.seq.void = false)
    (hcrossed : crossed.seq = { d.seq with pos := advance d.seq.runs d.seq.pos }) :
    (forwardCrossed d).seq.pos =
      { crossed.seq.pos with piece := if actionMatched crossed .pieceRestart then 0 else crossed.seq.pos.piece } ∧
    (forwardCrossed d).seq.void = actionMatched crossed .hold ∧
    (actionMatched crossed .notice = true → flagOf .matchNotice (forwardCrossed d).control = true) ∧
    (actionMatched crossed .pieceRestart = true → flagOf .pieceRestart (forwardCrossed d).control = true) := by
  obtain ⟨-, hnotice, hrestart⟩ := evaluateMatches_control (crossPosition d)
  simp only [← actionMatched_crossPosition h hcrossed, forwardCrossed_advance h]
  refine ⟨?_, ?_, hnotice, hrestart⟩
  · rw [evaluateMatches_seq (by simpa using hweave)]
    simp [crossPosition_seq, crossingKind, h, hcrossed]
  · rw [evaluateMatches_seq (by simpa using hweave)]
    simp [crossPosition_seq]

theorem forwardCrossed_writes (d : Device) : (forwardCrossed d).control.writes = d.control.writes := by
  unfold forwardCrossed
  cases decide (crossingKind d = .advance)
  · rfl
  · exact (evaluateMatches_control _).1

/-! ## What follows the position: at most holds -/

/-- The retained record is written with the new position, its fetch started, the window open and the beacon due. -/
theorem forwardFetched_eq (d : Device) :
    (forwardFetched d).seq = { (forwardCrossed d).seq with pickWeft := overrideOf (forwardCrossed d), pickLift := none } ∧
    (forwardFetched d).store = { d.store with
      fetch := .fetching (forwardCrossed d).seq.pos.row (.pick false (overrideOf (forwardCrossed d))) 0, result := none } ∧
    (forwardFetched d).roster = { d.roster with
      windowOpen := true, entries := d.roster.entries.map fun e => { e with heard := false } } ∧
    (forwardFetched d).line.beaconDue = .due false (d.control.config.all fun c => decide (c.g = 0)) ∧
    (forwardFetched d).control = { (forwardCrossed d).control with
      writes := d.control.writes ++
        [recordOf (forwardCrossed d).seq.pos ((d.control.config.map (·.identity)).getD 0#32)] } := by
  have hframe := forwardCrossed_frame d
  refine ⟨by simp [forwardFetched, startPickFetch_seq, overrideOf], ?_, ?_, ?_, ?_⟩
  · simp [forwardFetched, startPickFetch_store, overrideOf]
  · simp [forwardFetched, openWindow]
  · simp [forwardFetched, beaconFallsDue]
  · simp [forwardFetched, writeRetained_control, forwardCrossed_writes]

theorem stuckVoid_onlyHolds (d : Device) : OnlyHolds d (stuckVoid d) := by
  refine doIf_onlyHolds _ ?_
  exact ⟨rfl, fun _ => rfl, rfl, id, .refl _⟩

theorem seqForwardB_onlyHolds (d : Device) : OnlyHolds (forwardFetched d) (seqForwardB d) :=
  (weftForwardBoundary_onlyHolds _ _ _).trans (stuckVoid_onlyHolds _)

theorem forwardB_weave (c : Configuration) {d : Device} (h : d.control.state = .weave) :
    forwardB c d = doIf (isSection (seqForwardB d)) (fun d => fireIdle (openForwardPick d)) (seqForwardB d) := by
  simp [forwardB, h]

theorem fireIdle_openForwardPick_onlyHolds (d : Device) : OnlyHolds d (fireIdle (openForwardPick d)) :=
  (openForwardPick_onlyHolds d).trans (.of_eq rfl rfl rfl)

/-- After the position of a forward boundary crossing no more than holds changes sequencer, line and station control. -/
theorem forwardB_onlyHolds (c : Configuration) {d : Device} (h : d.control.state = .weave) :
    OnlyHolds (forwardFetched d) (forwardB c d) := by
  rw [forwardB_weave c h]
  exact (seqForwardB_onlyHolds d).trans (doIf_onlyHolds _ (fireIdle_openForwardPick_onlyHolds _))

theorem forwardB_store_roster (c : Configuration) {d : Device} (h : d.control.state = .weave) :
    (forwardB c d).store = (forwardFetched d).store ∧ (forwardB c d).roster = (forwardFetched d).roster := by
  rw [forwardB_weave c h]
  simp [seqForwardB_eq]

theorem onLine_unchanged {f : Line → Line} {d : Device} (h : f d.line = d.line) : onLine f d = d := by
  rw [onLine, h]

theorem onSeq_unchanged {f : Sequencer → Sequencer} {d : Device} (h : f d.seq = d.seq) : onSeq f d = d := by
  rw [onSeq, h]

/-- A beacon that waits for its row alone goes on waiting (R95). -/
theorem beaconGuardPassed_waiting {d : Device} (h : d.line.beaconDue = .due false true) : beaconGuardPassed d = d := by
  have hsame : onLine (fun l => { l with beaconDue := .due false true }) d = d := onLine_unchanged (by rw [← h])
  simp [beaconGuardPassed, h, hsame, buildBeacon]

/-- A G-end crossing that comes with the B crossing closes the guard; the beacon keeps waiting for its row (R48, R95; log 31). -/
theorem forwardGuardEnd_at_b {d : Device} (h : d.line.beaconDue = .due false true) : forwardGuardEnd d = closeGuard d :=
  beaconGuardPassed_waiting (d := closeGuard d) h

/-- The station after a forward step onto B: the B crossing, the guard OPEN where G is above 0 (R40, R48). -/
theorem forwardCrossings_at_b_weave {role : Role} {c : Configuration} {d : Device} (hsound : soundConfig role c = true)
    (hweave : d.control.state = .weave) (hc : d.control.config = some c) :
    forwardCrossings c role c.b d = onSeq (fun q => { q with guardOpen := decide (c.g ≠ 0) }) (forwardB c d) := by
  have hholds := forwardB_onlyHolds c hweave
  obtain ⟨hseq, -, -, hdue, -⟩ := forwardFetched_eq d
  rw [forwardCrossings_at_b hsound]
  by_cases hg : c.g = 0
  · have hwaits : (forwardB c d).line.beaconDue = .due false true := by
      rw [hholds.line]
      simp [hdue, hc, hg]
    simp only [hg, decide_true, doIf_true]
    exact forwardGuardEnd_at_b hwaits
  · have hguard : (forwardB c d).seq.guardOpen = true := by
      rw [hholds.seq, hseq]
      exact (forwardCrossed_seq hweave).2.1
    simp only [hg, decide_false, doIf_false, ne_eq, not_false_eq_true, decide_true]
    exact (onSeq_unchanged (by rw [← hguard])).symm

/-! ## The strings of the section role (R129) -/

theorem outstandingMissTest_made {d : Device} (h : d.strings.mode ≠ .forward ∨ d.strings.missTested = true) :
    outstandingMissTest d = d := by
  obtain h | h := h <;> simp [outstandingMissTest, h, doIf_false]

/-- The test for missed selections energises nothing. -/
theorem missTest_off {d : Device} (h : ∀ x ∈ d.strings.strings, x.drive = .off) :
    ∀ x ∈ (missTest d).strings.strings, x.drive = .off := by
  unfold missTest
  dsimp only
  split
  · exact h
  · rw [doIf_strings _ _ _ (by simp)]
    simp only [mapStrings, onStrings_strings, List.mem_mapIdx]
    rintro x ⟨i, hi, rfl⟩
    have hoff := h _ (List.getElem_mem hi)
    split
    · split <;> exact hoff
    · exact hoff

/-- A pick is opened with every string dropped and RESTING, whether or not a test was outstanding. -/
theorem freshStrings_opened (d : Device) :
    ((freshStrings (outstandingMissTest (dropAll d))).strings.strings.all fun x =>
      decide (x.drive = .off) && decide (x.chain = .resting)) = true := by
  have hoff : ∀ x ∈ (outstandingMissTest (dropAll d)).strings.strings, x.drive = .off := by
    unfold outstandingMissTest
    cases decide ((dropAll d).strings.mode = .forward) && !(dropAll d).strings.missTested
    · exact dropAll_off d
    · exact missTest_off (dropAll_off d)
  simpa [freshStrings, mapAllStrings_strings] using hoff

theorem openForwardPick_strings (d : Device) :
    (openForwardPick d).strings.mode = .forward ∧ (openForwardPick d).strings.captureDone = false ∧
    ((openForwardPick d).strings.strings.all fun x => decide (x.drive = .off) && decide (x.chain = .resting)) = true :=
  ⟨rfl, rfl, freshStrings_opened d⟩

/-- With no test outstanding the opening of a pick requests no hold. -/
theorem openForwardPick_seq {d : Device} (h : d.strings.mode ≠ .forward ∨ d.strings.missTested = true) :
    (openForwardPick d).seq = d.seq := by
  have hmade : outstandingMissTest (dropAll d) = dropAll d := outstandingMissTest_made h
  calc (openForwardPick d).seq = (outstandingMissTest (dropAll d)).seq := rfl
    _ = d.seq := by rw [hmade]; rfl

/-- In the section role the strings open a forward pick and the fire timer is IDLE. -/
theorem forwardB_section (c : Configuration) {d : Device} (hweave : d.control.state = .weave)
    (hrole : d.control.role = .sectionRole) : forwardB c d = fireIdle (openForwardPick (seqForwardB d)) := by
  have hsection : isSection (seqForwardB d) = true := by simp [isSection, hrole]
  rw [forwardB_weave c hweave, hsection, doIf_true]

theorem weftForwardBoundary_section (kind : CrossKind) (left : Nat) {d : Device} (h : d.control.role = .sectionRole) :
    weftForwardBoundary kind left d = d := by
  simp [weftForwardBoundary, isWeft, h]

theorem stuckVoid_void (d : Device) : (stuckVoid d).seq.void = (d.line.stuck || d.seq.void) := by
  cases h : d.line.stuck <;> simp [stuckVoid, h, doIf]

/-- On a STUCK line the new pick is void (R42). -/
theorem forwardB_stuck (c : Configuration) {d : Device} (hweave : d.control.state = .weave) (h : d.line.stuck = true) :
    (forwardB c d).seq.void = true := by
  have hstuck : (seqForwardB d).seq.void = true := by
    rw [seqForwardB_eq, stuckVoid_void]
    simp [forwardFetched, h]
  rw [forwardB_weave c hweave]
  exact (doIf_onlyHolds _ (fireIdle_openForwardPick_onlyHolds _)).voids hstuck

/-- In the section role, with no test outstanding, the new pick is void on a STUCK line or by the match table alone. -/
theorem forwardB_void_section (c : Configuration) {d : Device} (hweave : d.control.state = .weave)
    (hrole : d.control.role = .sectionRole) (htest : d.strings.mode ≠ .forward ∨ d.strings.missTested = true) :
    (forwardB c d).seq.void = (d.line.stuck || (forwardCrossed d).seq.void) := by
  have hopened : (openForwardPick (seqForwardB d)).seq = (seqForwardB d).seq := openForwardPick_seq (by simpa using htest)
  rw [forwardB_section c hweave hrole, (fireIdle_frame _).2.1, hopened, seqForwardB_eq,
    weftForwardBoundary_section _ _ (by simpa [forwardFetched] using hrole), stuckVoid_void]
  simp [forwardFetched, startPickFetch_seq]

/-! ## The blocks after the crossing -/

/-- What a forward boundary crossing leaves of the sequencer, the store, the roster and the beacon. -/
theorem forwardB_blocks {c : Configuration} {d : Device} (hweave : d.control.state = .weave) (hc : d.control.config = some c) :
    (forwardB c d).seq = { (forwardCrossed d).seq with
      void := (forwardB c d).seq.void, pickWeft := overrideOf (forwardB c d), pickLift := none } ∧
    (forwardB c d).store.fetch = .fetching (forwardB c d).seq.pos.row (.pick false (overrideOf (forwardB c d))) 0 ∧
    (forwardB c d).store.result = none ∧
    (forwardB c d).roster = { d.roster with
      windowOpen := true, entries := d.roster.entries.map fun e => { e with heard := false } } ∧
    (forwardB c d).line.beaconDue = .due false (decide (c.g = 0)) ∧
    (forwardB c d).control.writes = d.control.writes ++ [recordOf (forwardB c d).seq.pos c.identity] := by
  obtain ⟨hseq, hstore, hroster, hdue, hcontrol⟩ := forwardFetched_eq d
  obtain ⟨hstore', hroster'⟩ := forwardB_store_roster c hweave
  have hholds := forwardB_onlyHolds c hweave
  have hseq' : (forwardB c d).seq = { (forwardCrossed d).seq with
      void := (forwardB c d).seq.void, pickWeft := overrideOf (forwardCrossed d), pickLift := none } := by
    have h := hholds.seq
    rwa [hseq] at h
  have hpos : (forwardB c d).seq.pos = (forwardCrossed d).seq.pos := (congrArg Sequencer.pos hseq' :)
  have hruns : (forwardB c d).seq.runs = (forwardCrossed d).seq.runs := (congrArg Sequencer.runs hseq' :)
  have hover : overrideOf (forwardB c d) = overrideOf (forwardCrossed d) := overrideOf_congr hruns hpos
  rw [hover, hpos]
  refine ⟨hseq', ?_, ?_, hroster'.trans hroster, ?_, ?_⟩
  · rw [hstore', hstore]
  · rw [hstore', hstore]
  · rw [hholds.line]
    simp [hdue, hc]
  · rw [hholds.control.rest]
    simp [hcontrol, hc]

/-- From the position on, a forward boundary crossing sets no flag of the match table, and clears none. -/
theorem forwardB_raises (c : Configuration) {d : Device} (hweave : d.control.state = .weave) :
    RaisesFlags { (forwardCrossed d).control with writes := (forwardB c d).control.writes } (forwardB c d).control := by
  have hraises := (forwardB_onlyHolds c hweave).control
  have hwrites : (forwardB c d).control.writes = (forwardFetched d).control.writes := hraises.writes
  obtain ⟨-, -, -, -, hcontrol⟩ := forwardFetched_eq d
  have hsame : (forwardFetched d).control = { (forwardCrossed d).control with writes := (forwardB c d).control.writes } := by
    rw [hwrites, hcontrol]
  rwa [hsame] at hraises

/-- The position, the history and the guard are those of the crossing; the rest of the pick opens anew. -/
theorem forwardB_pos_history {c : Configuration} {d : Device} (hweave : d.control.state = .weave)
    (hc : d.control.config = some c) :
    (forwardB c d).seq.pos = (forwardCrossed d).seq.pos ∧
    (forwardB c d).seq.history = entryFor (crossingKind d) d :: d.seq.history.take 23 ∧
    (forwardB c d).seq.pickWeft = overrideOf (forwardB c d) ∧ (forwardB c d).seq.pickLift = none := by
  obtain ⟨hseq, -⟩ := forwardB_blocks hweave hc
  refine ⟨(congrArg Sequencer.pos hseq :), ?_, (congrArg Sequencer.pickWeft hseq :), (congrArg Sequencer.pickLift hseq :)⟩
  exact (congrArg Sequencer.history hseq :).trans (forwardCrossed_seq hweave).1

/-- A REPEAT keeps the position and sets no flag of the match table. -/
theorem forwardB_repeat {c : Configuration} {d : Device} (hweave : d.control.state = .weave)
    (hc : d.control.config = some c) (h : d.seq.void = true) :
    (forwardB c d).seq.pos = d.seq.pos ∧
    flagOf .matchNotice (forwardB c d).control = flagOf .matchNotice d.control ∧
    flagOf .pieceRestart (forwardB c d).control = flagOf .pieceRestart d.control := by
  have hraises := forwardB_raises c hweave
  have hcontrol : (forwardCrossed d).control = d.control := by simp [forwardCrossed_repeat h]
  rw [hcontrol] at hraises
  exact ⟨(forwardB_pos_history hweave hc).1.trans ((forwardCrossed_seq hweave).2.2 h).1, hraises.notice, hraises.restart⟩

/-- An ADVANCE takes the position that the match table leaves, with its flags, and is void where an entry holds. -/
theorem forwardB_advance {c : Configuration} {d crossed : Device} (hweave : d.control.state = .weave)
    (hc : d.control.config = some c) (h : d.seq.void = false)
    (hcrossed : crossed.seq = { d.seq with pos := advance d.seq.runs d.seq.pos }) :
    (forwardB c d).seq.pos =
      { crossed.seq.pos with piece := if actionMatched crossed .pieceRestart then 0 else crossed.seq.pos.piece } ∧
    (actionMatched crossed .notice = true → flagOf .matchNotice (forwardB c d).control = true) ∧
    (actionMatched crossed .pieceRestart = true → flagOf .pieceRestart (forwardB c d).control = true) ∧
    (actionMatched crossed .hold = true → (forwardB c d).seq.void = true) := by
  obtain ⟨hpos, hvoid, hnotice, hrestart⟩ := forwardCrossed_matches hweave h hcrossed
  have hraises := forwardB_raises c hweave
  refine ⟨(forwardB_pos_history hweave hc).1.trans hpos, fun hm => hraises.stays _ (hnotice hm),
    fun hm => hraises.stays _ (hrestart hm), fun hm => (forwardB_onlyHolds c hweave).voids ?_⟩
  rw [(forwardFetched_eq d).1]
  exact hvoid.trans hm

/-- In the section role the new pick is void on a STUCK line, or where it follows an ADVANCE and an entry holds. -/
theorem forwardB_void_cause {c : Configuration} {d crossed : Device} (hweave : d.control.state = .weave)
    (hcrossed : crossed.seq = { d.seq with pos := advance d.seq.runs d.seq.pos })
    (hrole : d.control.role = .sectionRole) (htest : d.strings.mode ≠ .forward ∨ d.strings.missTested = true) :
    (forwardB c d).seq.void = (d.line.stuck || (!d.seq.void && actionMatched crossed .hold)) := by
  rw [forwardB_void_section c hweave hrole htest]
  cases h : d.seq.void with
  | true => simp [((forwardCrossed_seq hweave).2.2 h).2]
  | false => simp [(forwardCrossed_matches hweave h hcrossed).2.1]

/-- In the section role the strings open a FORWARD pick, and no step of the strings is timed. -/
theorem forwardB_strings {c : Configuration} {d : Device} (hweave : d.control.state = .weave)
    (hrole : d.control.role = .sectionRole) :
    (forwardB c d).strings.mode = .forward ∧ (forwardB c d).strings.captureDone = false ∧
    (forwardB c d).fire.phase = .idle ∧ (forwardB c d).fire.angleHold = false ∧
    ((forwardB c d).strings.strings.all fun x => decide (x.drive = .off) && decide (x.chain = .resting)) = true := by
  obtain ⟨hmode, hdone, hresting⟩ := openForwardPick_strings (seqForwardB d)
  rw [forwardB_section c hweave hrole]
  exact ⟨hmode, hdone, rfl, rfl, hresting⟩

end Sys2Proof.Machine
end

section
/-! SUPPORT. The station that a step onto B finds, after the lapse and what the step hands on before its crossings (R1). -/

namespace Sys2Proof.Machine

/-- The station as the crossings of a counting step find it, a lapse having passed. -/
def steppedOnto (dir : Direction) (dt : Lapse) (sense : List StringBits) (d : Device) : Device :=
  atCrossing dir (beforeStep dt sense d)

@[simp] theorem beforeStep_strings (dt : Lapse) (sense : List StringBits) (d : Device) :
    (beforeStep dt sense d).strings.mode = d.strings.mode ∧
    (beforeStep dt sense d).strings.missTested = d.strings.missTested ∧
    (beforeStep dt sense d).roster = d.roster ∧ (beforeStep dt sense d).line.stuck = d.line.stuck ∧
    (beforeStep dt sense d).store.fetch = elapseFetch dt.ticks d.store.fetch ∧
    (beforeStep dt sense d).control.writes = d.control.writes := by
  simp [beforeStep, elapse_strings, elapse_store]
  simp [elapse]

@[simp] theorem steppedOnto_frame (dir : Direction) (dt : Lapse) (sense : List StringBits) (d : Device) :
    (steppedOnto dir dt sense d).seq = d.seq ∧ (steppedOnto dir dt sense d).weft = d.weft ∧
    (steppedOnto dir dt sense d).roster = d.roster ∧ (steppedOnto dir dt sense d).line.stuck = d.line.stuck ∧
    (steppedOnto dir dt sense d).strings.mode = d.strings.mode ∧
    (steppedOnto dir dt sense d).control.role = d.control.role ∧
    (steppedOnto dir dt sense d).control.config = d.control.config ∧
    (steppedOnto dir dt sense d).store.fetch = elapseFetch dt.ticks d.store.fetch := by
  simp [steppedOnto]

theorem steppedOnto_weave {dir : Direction} {dt : Lapse} {sense : List StringBits} {d : Device} (h : d.control.state = .weave) :
    (steppedOnto dir dt sense d).control.state = .weave ∧
    (steppedOnto dir dt sense d).strings.missTested = d.strings.missTested ∧
    (steppedOnto dir dt sense d).control.writes = d.control.writes ∧
    flagOf .matchNotice (steppedOnto dir dt sense d).control = flagOf .matchNotice d.control ∧
    flagOf .pieceRestart (steppedOnto dir dt sense d).control = flagOf .pieceRestart d.control := by
  have hweave : (beforeStep dt sense d).control.state = .weave := by simpa using h
  have hraises := atCrossing_raises (dir := dir) hweave
  have hflags (f : Flag) : flagOf f (beforeStep dt sense d).control = flagOf f d.control := by simp [flagOf]
  refine ⟨atCrossing_state hweave, ?_, ?_, hraises.notice.trans (hflags _), hraises.restart.trans (hflags _)⟩
  · simp [steppedOnto, atCrossing_missTested hweave]
  · exact hraises.writes.trans (by simp)

/-- The weft code recorded for a pick does not change while its row is fetched (R39, R64). -/
theorem recordedWeft_steppedOnto (dir : Direction) (dt : Lapse) (sense : List StringBits) (d : Device) :
    recordedWeft (steppedOnto dir dt sense d) = recordedWeft d := by
  have hover : pickOverride (steppedOnto dir dt sense d) = pickOverride d := by
    unfold pickOverride overrideOf
    obtain ⟨-, -, -, -, -, -, -, hfetch⟩ := steppedOnto_frame dir dt sense d
    rw [hfetch]
    cases d.store.fetch with
    | idle => simp [elapseFetch]
    | fetching row purpose t => cases purpose <;> simp [elapseFetch]
  simp [recordedWeft, hover]

/-- The entry pushed for the pick left (R39). -/
theorem entryFor_eq (d : Device) :
    entryFor (crossingKind d) d =
      ⟨d.seq.pos, d.seq.void, if d.seq.void then .again else .advance, recordedWeft d,
        if d.control.role = .sectionRole then d.seq.pickLift.getD 0 else 0,
        if d.control.role = .weftRole ∧ recordedWeft d ≠ 15 then chosenFinger d.weft.choice else none,
        decide (d.control.role = .weftRole) && decide (recordedWeft d < 8) && d.weft.toggles.getLsbD (recordedWeft d)⟩ := by
  simp [entryFor, crossingKind, isSection, isWeft, toggleOf, Bool.and_assoc]

/-- A step short of the distance limit onto B raises the crossings of B (R5, R6). -/
theorem exec_step_onto {a b : Bool} {dt : Lapse} {sense : List StringBits} {s : State} {c : Configuration} {dir : Direction}
    (hp : s.dev.control.powered = true) (hc : s.dev.control.config = some c) (hr : s.dev.tracker.referenced = true)
    (hdist : (stepDistance dir s.dev.tracker).natAbs < 8256) (hd : phaseOf a b = stepPhase dir s.dev.tracker.phase)
    (hb : stepAngle dir s.dev.tracker.angle = c.b) :
    exec (.countingStep a b false dt sense) s =
      .next { s with dev := crossingsOf dir c s.dev.control.role c.b (steppedOnto dir dt sense s.dev) } := by
  have hsame : stepDistance dir (beforeStep dt sense s.dev).tracker = stepDistance dir s.dev.tracker := by
    cases dir <;> simp [stepDistance]
  have hdist' : (stepDistance dir (beforeStep dt sense s.dev).tracker).natAbs < 8256 := hsame ▸ hdist
  rw [exec_countingStep hp hd, takeStep_crossings (c := c) (by simpa using hc) (by simpa using hr) hdist']
  simp [hb, steppedOnto]

end Sys2Proof.Machine
end

section
/-! SUPPORT. The reverse boundary crossing in WEAVE (R27, R52, R53, R82, R97, R98, R112, R136, R153, R156). -/

namespace Sys2Proof.Machine

/-! ## A lapse counts no late beacon -/

theorem judgeStopBit_beaconsLate (l : Line) : (judgeStopBit l).counters.beaconsLate = l.counters.beaconsLate := by
  obtain ⟨-, e⟩ | ⟨-, -, e⟩ | ⟨-, -, e⟩ := judgeStopBit_cases l <;> rw [e]

theorem measureRun_beaconsLate (l : Line) (r : LineRun) : (measureRun l r).counters.beaconsLate = l.counters.beaconsLate := by
  unfold measureRun
  (repeat' split) <;> simp [judgeStopBit_beaconsLate]

theorem measureRuns_beaconsLate (rs : List LineRun) (l : Line) :
    (measureRuns rs l).counters.beaconsLate = l.counters.beaconsLate := by
  induction rs generalizing l with
  | nil => rfl
  | cons r rs ih => exact (ih (measureRun l r)).trans (measureRun_beaconsLate l r)

theorem sendBits_beaconsLate (bits : List Bool) (n : Nat) (others : List LineRun) (l : Line) :
    (sendBits bits n others l).counters.beaconsLate = l.counters.beaconsLate := by
  induction bits generalizing n others l with
  | nil => cases n <;> simp [sendBits, measureRuns_beaconsLate]
  | cons b bits ih =>
    cases n with
    | zero => simp [sendBits]
    | succ n =>
      simp only [sendBits]
      split
      · exact measureRuns_beaconsLate _ _
      · exact (ih _ _ _).trans (measureRun_beaconsLate _ _)

theorem elapseRuns_beaconsLate (dt : Nat) (others : List LineRun) (l : Line) :
    (elapseRuns dt others l).counters.beaconsLate = l.counters.beaconsLate := by
  unfold elapseRuns measureLine
  (repeat' split) <;> simp [measureRuns_beaconsLate, sendBits_beaconsLate]

theorem steppedOnto_beaconsLate (dir : Direction) (dt : Lapse) (sense : List StringBits) (d : Device) :
    (steppedOnto dir dt sense d).line.counters.beaconsLate = d.line.counters.beaconsLate := by
  have hline : (elapse dt.ticks dt.line d).line.counters.beaconsLate = d.line.counters.beaconsLate :=
    elapseRuns_beaconsLate dt.ticks dt.line d.line
  have hpass : (pass dt d).line = (elapse dt.ticks dt.line d).line := by
    unfold pass
    dsimp only
    split <;> rfl
  have hbefore : (beforeStep dt sense d).line = (elapse dt.ticks dt.line d).line := hpass
  simp [steppedOnto, hbefore, hline]

/-! ## The beacon and the window at a reverse boundary crossing (R82, R97, R98) -/

/-- No beacon waits or is due, and the window is CLOSED with no close. -/
def beaconGone (d : Device) : Device := closeWindow (beaconIdle (discardBeacon false d))

@[simp] theorem beaconGone_frame (d : Device) :
    (beaconGone d).seq = d.seq ∧ (beaconGone d).store = d.store ∧ (beaconGone d).weft = d.weft ∧
    (beaconGone d).control = d.control ∧ (beaconGone d).strings = d.strings := by
  simp [beaconGone]

theorem beaconGone_line (d : Device) :
    (beaconGone d).roster.windowOpen = false ∧ (beaconGone d).line.beaconSlot = none ∧
    (beaconGone d).line.beaconDue = .idle ∧ (beaconGone d).line.counters = d.line.counters := by
  refine ⟨rfl, discardBeacon_slot false d, rfl, ?_⟩
  have hdiscarded : (discardBeacon false d).line.counters = d.line.counters := by
    unfold discardBeacon
    split
    · rfl
    · cases h : isSending .beacon d <;> simp [doIf, stopSending]
  exact hdiscarded

/-- A pulse is no transmission of the beacon: its discard does not stop it. -/
theorem beaconGone_pulse {d : Device} {n : Nat} (h : d.line.tx = .pulse n) : (beaconGone d).line.tx = .pulse n := by
  have hdiscarded : (discardBeacon false d).line.tx = .pulse n := by
    unfold discardBeacon
    split
    · exact h
    · simp [isSending, h, doIf]
  exact hdiscarded

theorem seqReverseB_pop {e : HistoryEntry} {rest : List HistoryEntry} {d : Device} (h : d.seq.history = e :: rest) :
    seqReverseB d = beaconGone (reversePop e rest d) := by
  unfold seqReverseB
  rw [h]
  rfl

theorem seqReverseB_empty {d : Device} (h : d.seq.history = []) : seqReverseB d = beaconGone (reverseExhausted d) := by
  unfold seqReverseB
  rw [h]
  rfl

/-! ## The restored pick (R27, R52, R153) -/

/-- The position of a popped entry, its pick not void and the guard CLOSED. -/
def restored (e : HistoryEntry) (rest : List HistoryEntry) (d : Device) : Device :=
  onSeq (fun q => { q with pos := e.pos, void := false, history := rest, guardOpen := false }) d

theorem reversePop_eq (e : HistoryEntry) (rest : List HistoryEntry) (d : Device) :
    reversePop e rest d = weftReversePop e (bringBackWeft e (startPickFetch true (writeRetained (restored e rest d)))) := rfl

theorem reversePop_blocks (e : HistoryEntry) (rest : List HistoryEntry) (d : Device) :
    (reversePop e rest d).seq = { (restored e rest d).seq with
      pickWeft := some ((overrideOf (restored e rest d)).getD e.weft), pickLift := none } ∧
    (reversePop e rest d).store = { d.store with
      fetch := .fetching e.pos.row (.pick true (overrideOf (restored e rest d))) 0, result := none } ∧
    (reversePop e rest d).control = { d.control with
      writes := d.control.writes ++ [recordOf e.pos ((d.control.config.map (·.identity)).getD 0#32)] } := by
  rw [reversePop_eq]
  simp only [weftReversePop_frame, bringBackWeft_seq, bringBackWeft_frame]
  exact ⟨rfl, rfl, rfl⟩

/-- The weft role takes the entry's finger and toggle; the arrival check and the stop mark end (R153). -/
theorem reversePop_weft (e : HistoryEntry) (rest : List HistoryEntry) {d : Device} (h : d.control.role = .weftRole) :
    (reversePop e rest d).weft.choice = .chosen e.finger ∧ (reversePop e rest d).weft.arrival = .idle ∧
    (reversePop e rest d).weft.stopMark = false ∧
    (e.weft < 8 → (reversePop e rest d).weft.toggles.getLsbD e.weft = e.toggle) := by
  have hweft : isWeft (bringBackWeft e (startPickFetch true (writeRetained (restored e rest d)))) = true := by
    simp [isWeft, restored, h]
  rw [reversePop_eq, weftReversePop, if_pos hweft]
  exact ⟨rfl, rfl, rfl, fun hk => putToggle_reads hk e.toggle _⟩

/-! ## An exhausted history (R53, R156) -/

/-- HISTORY EXHAUSTED reported, the pick void and the guard CLOSED. -/
def exhausted (d : Device) : Device :=
  setFlag .historyExhausted (onSeq (fun q => { q with void := true, guardOpen := false }) d)

@[simp] theorem exhausted_frame (d : Device) :
    (exhausted d).store = d.store ∧ (exhausted d).line = d.line ∧ (exhausted d).weft = d.weft ∧
    (exhausted d).control.state = d.control.state ∧ (exhausted d).control.role = d.control.role ∧
    (exhausted d).control.config = d.control.config ∧ (exhausted d).control.writes = d.control.writes ∧
    (exhausted d).seq = { d.seq with void := true, guardOpen := false } :=
  ⟨rfl, rfl, rfl, rfl, rfl, rfl, rfl, rfl⟩

@[simp] theorem exhausted_flagOf (d : Device) : flagOf .historyExhausted (exhausted d).control = true := by
  simp [exhausted]

theorem reverseExhausted_eq (d : Device) :
    reverseExhausted d = weftReverseEmpty (startPickFetch true (writeRetained (ownHold (exhausted d)))) := rfl

/-- Choice and toggles stay; the arrival check and the stop mark end (R156). -/
theorem weftReverseEmpty_weft {d : Device} (h : d.control.role = .weftRole) :
    (weftReverseEmpty d).weft = { d.weft with arrival := .idle, stopMark := false } := by
  simp [weftReverseEmpty, isWeft, h]

theorem reverseExhausted_blocks (d : Device) :
    (reverseExhausted d).seq = { d.seq with
      void := true, guardOpen := false, pickWeft := overrideOf d, pickLift := none } ∧
    (reverseExhausted d).store = { d.store with
      fetch := .fetching d.seq.pos.row (.pick true (overrideOf d)) 0, result := none } ∧
    (reverseExhausted d).control.writes =
      d.control.writes ++ [recordOf d.seq.pos ((d.control.config.map (·.identity)).getD 0#32)] ∧
    flagOf .historyExhausted (reverseExhausted d).control = true := by
  have hraises := (ownHold_onlyHolds (exhausted d)).control
  have hseq : (ownHold (exhausted d)).seq = { d.seq with void := true, guardOpen := false } := by
    simp [ownHold_seq]
  have hover : overrideOf (writeRetained (ownHold (exhausted d))) = overrideOf d :=
    overrideOf_congr (by simp [hseq]) (by simp [hseq])
  rw [reverseExhausted_eq]
  refine ⟨?_, ?_, ?_, ?_⟩
  · simp [startPickFetch_seq, hover, hseq]
  · simp [startPickFetch_store, hover]
  · simp [writeRetained_control, hraises.writes]
  · simp [hraises.stays _ (exhausted_flagOf d)]

/-- Off a STUCK line the hold for an exhausted history sends a pulse (R44, R53). -/
theorem reverseExhausted_pulse {d : Device} (hweave : d.control.state = .weave) (h : d.line.stuck = false) :
    ∃ n, (reverseExhausted d).line.tx = .pulse n := by
  have hline : (reverseExhausted d).line = (ownHold (exhausted d)).line := by simp [reverseExhausted_eq]
  rw [hline, ownHold_weave (by simpa using hweave)]
  exact (requestPulse_clear (by simpa using h)).1

/-! ## The crossing at the strings (R112, R136) -/

theorem reverseB_weave {d : Device} (h : d.control.state = .weave) :
    reverseB d = doIf (isSection (seqReverseB d)) (fun d => fireIdle (openReversePick d)) (seqReverseB d) := by
  simp [reverseB, inWeave, h]

/-- After the sequencer's crossing no more than holds changes sequencer, line and station control. -/
theorem reverseB_onlyHolds {d : Device} (h : d.control.state = .weave) : OnlyHolds (seqReverseB d) (reverseB d) := by
  rw [reverseB_weave h]
  exact doIf_onlyHolds _ ((openReversePick_onlyHolds _).trans (.of_eq rfl rfl rfl))

theorem reverseB_kept {d : Device} (h : d.control.state = .weave) :
    (reverseB d).store = (seqReverseB d).store ∧ (reverseB d).roster = (seqReverseB d).roster ∧
    (reverseB d).weft = (seqReverseB d).weft := by
  rw [reverseB_weave h]
  simp

/-- With no test outstanding, and in the weft role, the opening of the reverse pick requests no hold. -/
theorem reverseB_seq {d : Device} (hweave : d.control.state = .weave)
    (h : d.strings.mode ≠ .forward ∨ d.strings.missTested = true ∨ d.control.role = .weftRole) :
    (reverseB d).seq = (seqReverseB d).seq := by
  rw [reverseB_weave hweave]
  cases hrole : d.control.role with
  | weftRole => simp [isSection, hrole, doIf]
  | sectionRole =>
    have htest : (seqReverseB d).strings.mode ≠ .forward ∨ (seqReverseB d).strings.missTested = true := by
      simpa [hrole] using h
    have hmade : outstandingMissTest (dropAll (seqReverseB d)) = dropAll (seqReverseB d) := outstandingMissTest_made htest
    have hopened : (openReversePick (seqReverseB d)).seq = (seqReverseB d).seq := (congrArg Device.seq hmade :)
    simp [hopened]

/-- In the section role the strings open a REVERSE pick, and no step of the strings is timed. -/
theorem reverseB_strings {d : Device} (hweave : d.control.state = .weave) (hrole : d.control.role = .sectionRole) :
    (reverseB d).strings.mode = .reverse ∧ (reverseB d).fire.phase = .idle ∧
    ((reverseB d).strings.strings.all fun x => decide (x.drive = .off) && decide (x.chain = .resting)) = true := by
  have hsection : isSection (seqReverseB d) = true := by simp [isSection, hrole]
  rw [reverseB_weave hweave, hsection, doIf_true]
  exact ⟨rfl, rfl, freshStrings_opened _⟩

/-! ## The station after the crossing -/

/-- A reverse boundary crossing leaves no beacon waiting or due, and the window CLOSED. -/
theorem reverseB_beacon {d : Device} (hweave : d.control.state = .weave) :
    (reverseB d).roster.windowOpen = false ∧ (reverseB d).line.beaconSlot = none ∧ (reverseB d).line.beaconDue = .idle := by
  obtain ⟨x, hx⟩ : ∃ x, seqReverseB d = beaconGone x := ⟨_, rfl⟩
  obtain ⟨hwindow, hslot, hdue, -⟩ := beaconGone_line x
  obtain ⟨-, hroster, -⟩ := reverseB_kept hweave
  have hline := (reverseB_onlyHolds hweave).line
  rw [hx] at hroster hline
  exact ⟨(congrArg Roster.windowOpen hroster).trans hwindow, (congrArg Line.beaconSlot hline :).trans hslot,
    (congrArg Line.beaconDue hline :).trans hdue⟩

section
variable {e : HistoryEntry} {rest : List HistoryEntry} {d : Device} {c : Configuration}
variable (hweave : d.control.state = .weave) (hc : d.control.config = some c)
include hweave hc

/-- With a history the crossing restores the entry on top: its position, its row, and its weft code where its run has none. -/
theorem reverseB_pop (h : d.seq.history = e :: rest) :
    (reverseB d).seq.pos = e.pos ∧ (reverseB d).seq.history = rest ∧ (reverseB d).seq.guardOpen = false ∧
    (reverseB d).control.writes = d.control.writes ++ [recordOf e.pos c.identity] ∧
    (reverseB d).store.fetch = .fetching e.pos.row (.pick true (overrideOf (reverseB d))) 0 ∧
    (reverseB d).store.result = none ∧
    (reverseB d).seq.pickWeft = some ((overrideOf (reverseB d)).getD e.weft) ∧ (reverseB d).seq.pickLift = none := by
  obtain ⟨hseq, hstore, hcontrol⟩ := reversePop_blocks e rest d
  have hholds := reverseB_onlyHolds hweave
  have hkept := (reverseB_kept hweave).1
  rw [seqReverseB_pop h] at hholds hkept
  have hgone : (reverseB d).seq = { (reversePop e rest d).seq with void := (reverseB d).seq.void } := by
    simpa using hholds.seq
  have hover : overrideOf (reverseB d) = overrideOf (restored e rest d) :=
    hholds.overrideOf.trans (overrideOf_congr (by simp [hseq]) (by simp [hseq]))
  have hfetched : (reverseB d).store = (reversePop e rest d).store := by simpa using hkept
  rw [hover, hfetched, hstore, hholds.control.writes]
  rw [hseq] at hgone
  refine ⟨(congrArg Sequencer.pos hgone :), (congrArg Sequencer.history hgone :), (congrArg Sequencer.guardOpen hgone :),
    ?_, rfl, rfl, (congrArg Sequencer.pickWeft hgone :), (congrArg Sequencer.pickLift hgone :)⟩
  simp [hcontrol, hc]

omit hc in
/-- The beacon that goes unsent with the crossing is not counted late (R82). -/
theorem reverseB_pop_beaconsLate (h : d.seq.history = e :: rest) :
    (reverseB d).line.counters.beaconsLate = d.line.counters.beaconsLate := by
  have hline := (reverseB_onlyHolds hweave).line
  rw [seqReverseB_pop h] at hline
  have hcounters : (reverseB d).line.counters = (beaconGone (reversePop e rest d)).line.counters :=
    (congrArg Line.counters hline :)
  obtain ⟨-, -, -, hgone⟩ := beaconGone_line (reversePop e rest d)
  rw [hcounters, hgone, (reversePop_frame e rest d).2.1]

omit hc in
theorem reverseB_pop_void (h : d.seq.history = e :: rest)
    (htest : d.strings.mode ≠ .forward ∨ d.strings.missTested = true ∨ d.control.role = .weftRole) :
    (reverseB d).seq.void = false := by
  rw [reverseB_seq hweave htest, seqReverseB_pop h]
  simp [reversePop_blocks, restored]

omit hc in
theorem reverseB_pop_weft (h : d.seq.history = e :: rest) (hrole : d.control.role = .weftRole) :
    (reverseB d).weft.choice = .chosen e.finger ∧ (reverseB d).weft.arrival = .idle ∧ (reverseB d).weft.stopMark = false ∧
    (e.weft < 8 → (reverseB d).weft.toggles.getLsbD e.weft = e.toggle) := by
  have hweft : (reverseB d).weft = (reversePop e rest d).weft := by
    simp [(reverseB_kept hweave).2.2, seqReverseB_pop h]
  rw [hweft]
  exact reversePop_weft e rest hrole

/-- With an empty history the position stays, and the pick is void with HISTORY EXHAUSTED. -/
theorem reverseB_empty (h : d.seq.history = []) :
    (reverseB d).seq.pos = d.seq.pos ∧ (reverseB d).seq.history = [] ∧ (reverseB d).seq.void = true ∧
    (reverseB d).seq.guardOpen = false ∧ flagOf .historyExhausted (reverseB d).control = true ∧
    (reverseB d).control.writes = d.control.writes ++ [recordOf d.seq.pos c.identity] ∧
    (reverseB d).store.fetch = .fetching d.seq.pos.row (.pick true (overrideOf (reverseB d))) 0 ∧
    (reverseB d).store.result = none ∧
    (reverseB d).seq.pickWeft = overrideOf (reverseB d) ∧ (reverseB d).seq.pickLift = none := by
  obtain ⟨hseq, hstore, hwrites, hflag⟩ := reverseExhausted_blocks d
  have hholds := reverseB_onlyHolds hweave
  have hkept := (reverseB_kept hweave).1
  rw [seqReverseB_empty h] at hholds hkept
  have hgone : (reverseB d).seq = { (reverseExhausted d).seq with void := (reverseB d).seq.void } := by
    simpa using hholds.seq
  have hover : overrideOf (reverseB d) = overrideOf d :=
    hholds.overrideOf.trans (overrideOf_congr (by simp) (by simp))
  have hfetched : (reverseB d).store = (reverseExhausted d).store := by simpa using hkept
  rw [hover, hfetched, hstore, hholds.control.writes]
  rw [hseq] at hgone
  refine ⟨(congrArg Sequencer.pos hgone :), (congrArg Sequencer.history hgone :).trans h, hholds.voids (by simp [hseq]),
    (congrArg Sequencer.guardOpen hgone :), hholds.control.stays _ (by simpa using hflag), ?_, rfl, rfl,
    (congrArg Sequencer.pickWeft hgone :), (congrArg Sequencer.pickLift hgone :)⟩
  simp [hwrites, hc]

omit hc in
theorem reverseB_empty_pulse (h : d.seq.history = []) (hstuck : d.line.stuck = false) :
    ∃ n, (reverseB d).line.tx = .pulse n := by
  obtain ⟨n, hn⟩ := reverseExhausted_pulse hweave hstuck
  have hholds := reverseB_onlyHolds hweave
  rw [seqReverseB_empty h] at hholds
  exact hholds.pulses ⟨n, beaconGone_pulse hn⟩

omit hc in
theorem reverseB_empty_weft (h : d.seq.history = []) (hrole : d.control.role = .weftRole) :
    (reverseB d).weft = { d.weft with arrival := .idle, stopMark := false } := by
  have hempty : (reverseB d).weft = (reverseExhausted d).weft := by
    simp [(reverseB_kept hweave).2.2, seqReverseB_empty h]
  rw [hempty, reverseExhausted_eq, weftReverseEmpty_weft (by simpa using hrole)]
  simp

end

/-- A reverse step onto B ends with the reverse B crossing of the station that the step finds (R5, R6). -/
theorem exec_reverse_onto {a b : Bool} (dt : Lapse) (sense : List StringBits) {s : State} {c : Configuration}
    (hp : s.dev.control.powered = true) (hc : s.dev.control.config = some c)
    (hsound : soundConfig s.dev.control.role c = true) (hstate : s.dev.control.state = .weave)
    (href : s.dev.tracker.referenced = true) (hlow : -8255 < s.dev.tracker.indexDist) (hhigh : s.dev.tracker.indexDist < 8257)
    (hphase : phaseOf a b = s.dev.tracker.phase - 1#2) (hangle : (s.dev.tracker.angle + 4095) % 4096 = c.b) :
    ∃ p, exec (.countingStep a b false dt sense) s = .next { s with dev := reverseB p } ∧
      steppedOnto .reverse dt sense s.dev = p ∧ p.control.state = .weave ∧
      p.strings.missTested = s.dev.strings.missTested ∧ p.control.writes = s.dev.control.writes ∧
      p.line.counters.beaconsLate = s.dev.line.counters.beaconsLate := by
  have hdist : (stepDistance .reverse s.dev.tracker).natAbs < 8256 := by
    simp only [stepDistance, href, if_true]
    omega
  obtain ⟨hweave, htested, hwrites, -⟩ := steppedOnto_weave (dir := .reverse) (dt := dt) (sense := sense) hstate
  refine ⟨_, ?_, rfl, hweave, htested, hwrites, steppedOnto_beaconsLate .reverse dt sense s.dev⟩
  rw [exec_step_onto (dir := .reverse) hp hc href hdist hphase hangle, crossingsOf, reverseCrossings_at_b hsound]

end Sys2Proof.Machine
end

section
/-! The statements about the pick history, holds and reversal, settled. -/

namespace Sys2Proof.Machine

/-- Settles O58: every step keeps `WithinBounds`. -/
theorem withinBoundsStays : Obligations.WithinBoundsStays := by
  unfold Obligations.WithinBoundsStays
  intro s t h hs
  rw [withinBounds_iff] at *
  exact step_within h hs

/-- Settles O10: a forward step onto B ends with the B crossing of the station that its lapse and its strings leave, with the
guard OPEN where G is above 0; what the crossing does is said block by block of that station. -/
theorem forwardBoundaryCrossing : Obligations.ForwardBoundaryCrossing := by
  unfold Obligations.ForwardBoundaryCrossing
  intro a b dt sense s c crossed hp hc hsound hstate href hlow hhigh hphase hangle hcrossed
  have hdist : (stepDistance .forward s.dev.tracker).natAbs < 8256 := by
    simp only [stepDistance, href, if_true]
    omega
  have hexec := exec_step_onto (dir := .forward) (dt := dt) (sense := sense) hp hc href hdist hphase hangle
  generalize hfound : steppedOnto .forward dt sense s.dev = p at hexec
  obtain ⟨hseq, hweft, hroster, hstuck, hmode, hrole, hconfig, -⟩ := hfound ▸ steppedOnto_frame .forward dt sense s.dev
  obtain ⟨hweave, htested, hwrites, hnotice, hrestart⟩ :=
    hfound ▸ steppedOnto_weave (dir := .forward) (dt := dt) (sense := sense) hstate
  have hrecorded : recordedWeft p = recordedWeft s.dev := hfound ▸ recordedWeft_steppedOnto .forward dt sense s.dev
  have hpc : p.control.config = some c := hconfig.trans hc
  have hpcrossed : crossed.seq = { p.seq with pos := advance p.seq.runs p.seq.pos } := by rw [hcrossed, hseq]
  rw [crossingsOf, forwardCrossings_at_b_weave hsound hweave hpc] at hexec
  obtain ⟨hpos, hhistory, hpick, hlift⟩ := forwardB_pos_history hweave hpc
  obtain ⟨-, hfetch, hresult, hwindow, hdue, hrecord⟩ := forwardB_blocks hweave hpc
  refine ⟨_, hexec, rfl, ?_, fun hvoid => ?_, fun hvoid => ?_, fun h => forwardB_stuck c hweave (hstuck.trans h),
    fun hsection htest => ?_, rfl, ?_, hfetch, hresult, hpick, hlift, ?_, ?_, hdue, ?_,
    fun hsection => forwardB_strings hweave (hrole.trans hsection)⟩
  · rw [← hrecorded, ← hseq, ← hweft, ← hrole, ← entryFor_eq]
    exact hhistory
  · obtain ⟨hkept, hnoticeKept, hrestartKept⟩ := forwardB_repeat hweave hpc ((congrArg Sequencer.void hseq).trans hvoid)
    exact ⟨hkept.trans (congrArg Sequencer.pos hseq), hnoticeKept.trans hnotice, hrestartKept.trans hrestart⟩
  · exact forwardB_advance hweave hpc ((congrArg Sequencer.void hseq).trans hvoid) hpcrossed
  · rw [← hstuck, ← hseq]
    exact forwardB_void_cause hweave hpcrossed (hrole.trans hsection) (by rwa [hmode, htested])
  · rw [← hwrites]
    exact hrecord
  · exact congrArg Roster.windowOpen hwindow
  · rw [← hroster]
    exact congrArg Roster.entries hwindow
  · simpa using hweave

/-- Settles O11: a reverse step onto B ends with the reverse B crossing of the station that its lapse and its strings leave,
with the history and without. -/
theorem reverseBoundaryPops : Obligations.ReverseBoundaryPops := by
  unfold Obligations.ReverseBoundaryPops
  refine ⟨?_, ?_⟩
  · intro a b dt sense s c e rest hp hc hsound hstate href hlow hhigh hphase hangle hhistory
    obtain ⟨p, hexec, hfound, hweave, htested, hwrites, hlate⟩ :=
      exec_reverse_onto dt sense hp hc hsound hstate href hlow hhigh hphase hangle
    obtain ⟨hseq, -, -, -, hmode, hrole, hconfig, -⟩ := hfound ▸ steppedOnto_frame .reverse dt sense s.dev
    have htop : p.seq.history = e :: rest := (congrArg Sequencer.history hseq).trans hhistory
    obtain ⟨hpos, hleft, hguard, hrecord, hfetch, hresult, hpick, hlift⟩ := reverseB_pop hweave (hconfig.trans hc) htop
    obtain ⟨hwindow, hslot, hdue⟩ := reverseB_beacon hweave
    refine ⟨_, hexec, rfl, hpos, hleft, hguard, hwrites ▸ hrecord, hfetch, hresult, hpick, hlift, hwindow, hslot, hdue,
      (reverseB_pop_beaconsLate hweave htop).trans hlate, fun htest => ?_, fun hweft => ?_, fun hsection => ?_⟩
    · exact reverseB_pop_void hweave htop (by rwa [hmode, htested, hrole])
    · exact reverseB_pop_weft hweave htop (hrole.trans hweft)
    · exact reverseB_strings hweave (hrole.trans hsection)
  · intro a b dt sense s c hp hc hsound hstate href hlow hhigh hphase hangle hhistory
    obtain ⟨p, hexec, hfound, hweave, -, hwrites, -⟩ :=
      exec_reverse_onto dt sense hp hc hsound hstate href hlow hhigh hphase hangle
    obtain ⟨hseq, hweft, -, hstuck, -, hrole, hconfig, -⟩ := hfound ▸ steppedOnto_frame .reverse dt sense s.dev
    have hempty : p.seq.history = [] := (congrArg Sequencer.history hseq).trans hhistory
    obtain ⟨hpos, hleft, hvoid, hguard, hflag, hrecord, hfetch, hresult, hpick, hlift⟩ :=
      reverseB_empty hweave (hconfig.trans hc) hempty
    obtain ⟨hwindow, hslot, hdue⟩ := reverseB_beacon hweave
    rw [hseq] at hpos hrecord hfetch
    rw [hwrites] at hrecord
    refine ⟨_, hexec, rfl, hpos, hleft, hvoid, hguard, hflag, hrecord, hfetch, hresult, hpick, hlift, fun hclear => ?_,
      hwindow, hslot, hdue, fun hrole' => ?_⟩
    · exact reverseB_empty_pulse hweave hempty (hstuck.trans hclear)
    · exact hweft ▸ reverseB_empty_weft hweave hempty (hrole.trans hrole')

/-- Settles O16: the position by `takenBack`, the weft selector by its choice over the restored toggle (`override_choice`). -/
theorem retractRestoresThePickLeft : Obligations.RetractRestoresThePickLeft := by
  unfold Obligations.RetractRestoresThePickLeft
  intro s e rest hp hown hret hhist
  have hdetect := detectHold_retracts hown hret hhist
  refine ⟨{ s with dev := retract e rest (heardHold s.dev) }, by rw [exec_holdDetected hp, hdetect], rfl, ?_⟩
  have hweave : s.dev.control.state = .weave := weave_of_retracts hret
  dsimp only
  refine ⟨?_, ?_, ?_, ?_, ?_, ?_, ?_, fun h => ?_, fun hrole => ⟨?_, fun hk => ?_, fun ho => ?_, fun k ho => ⟨fun hk => ?_,
    fun m hk hm f hf => ?_⟩⟩, ?_, ?_, ?_, ?_, retract_patterns _ _ _, retract_beaconDue _ _ _, ?_⟩
  · rw [retract_seq_eq]
  · rw [retract_seq_eq]
  · rw [retract_seq_eq]
  · have hconfig : (heardHold s.dev).control.config = s.dev.control.config := by simp
    rw [retract_writes, heardHold_writes, hconfig]
  · rw [retract_store_eq]
  · rw [retract_seq_eq]
  · rw [retract_seq_eq]
  · cases hrole : s.dev.control.role with
    | sectionRole => exact retract_not_void_section (by simpa using hrole)
    | weftRole => exact (retract_pending (by simpa using hrole) (h.resolve_left (by simp [hrole]))).2
  · exact (retract_arrival_toggle (by simpa using hrole)).1
  · rw [(retract_arrival_toggle (by simpa using hrole)).2]
    exact toggledBack_toggle hk _
  · exact (retract_pending (by simpa using hrole) ho).1
  · exact retract_override_none (by simpa using hrole) ho hk
  · obtain ⟨hseq, hcontrol, hweft⟩ := retract_override (d := heardHold s.dev) (by simpa using hrole) ho
    have hchoice := override_choice (q := toggledBack e (takenBack e rest (heardHold s.dev))) (f := f) hk (by simpa using hm)
      (by simpa using hweave) (by simp [takenBack_seq])
      (by rwa [(retract_arrival_toggle (by simpa using hrole)).2] at hf)
    rw [hseq, hcontrol, show (retract e rest (heardHold s.dev)).weft.choice = _ from congrArg WeftSel.choice hweft]
    simpa using hchoice
  · rw [retract_store_eq]
  · simp
  · simp
  · exact (retract_raises _ _ _).stays .retracted (takenBack_retracted _ _ _)
  · simp

/-- Settles O14: the own hold as a pulse request (`ownHold_weave`, `requestPulse_clear`), its end by `endPulse_of_pulse`. -/
theorem ownHoldAndPulseEnd : Obligations.OwnHoldAndPulseEnd := by
  unfold Obligations.OwnHoldAndPulseEnd
  refine ⟨fun d hweave hclear => ?_, fun d hweave hstuck => ?_, fun d => ownHold_outside, fun s n hp hn => ?_,
    fun s hp hno => ?_⟩
  · refine ⟨by simp [ownHold_seq, hweave], ?_⟩
    rw [ownHold_weave hweave]
    exact requestPulse_clear hclear
  · rw [ownHold_weave hweave]
    exact requestPulse_stuck hstuck
  · rw [exec_pulseEnd hp, endPulse_of_pulse hn]
    rfl
  · rw [exec_pulseEnd hp, endPulse_of_no_pulse hno]

end Sys2Proof.Machine
end

section
/-! SUPPORT. The pattern memory under every command and every step: three commands write it, a reset keeps it, and no other
operation touches it, so that it stays in its canonical form (R57, R61, R66, R72; log 17). -/

namespace Sys2Proof.Machine

/-- The canonical form is one of the contents of the pattern memory alone. -/
theorem memoryCanonical_congr {d t : Device} (h : memoryCanonical d = true) (hmem : t.store.mem = d.store.mem) :
    memoryCanonical t = true := by
  rwa [memoryCanonical, hmem]

/-- A reply changes the line alone. -/
theorem answer_canonical (r : Request) (res : Result) {d : Device} (h : memoryCanonical d = true) :
    memoryCanonical (answer r res d) = true := memoryCanonical_congr h (by simp)

/-! ## The commands that write it: FETCH_COMPLETE, ROW_WRITE, POWER_ON -/

/-- A fetch writes what faults of the memory have overwritten, and nothing else (R57, R66; log 19). -/
@[simp] theorem fetchCompletes_mem (upset : List Host.Cell) (d : Device) :
    (fetchCompletes upset d).store.mem = Memory.writeCells d.store.mem upset := by
  unfold fetchCompletes
  dsimp only
  split
  · rfl
  · split
    · split <;> simp
    · simp

theorem fetchCompletes_canonical (upset : List Host.Cell) {d : Device} (h : memoryCanonical d = true) :
    memoryCanonical (fetchCompletes upset d) = true := by
  rw [memoryCanonical, fetchCompletes_mem]
  exact writeCells_wf _ _ h

theorem storeRow_canonical (row : Nat) (weft : Byte) (field : List Byte) {d : Device} (h : memoryCanonical d = true) :
    memoryCanonical (storeRow row weft field d) = true := writeBytes_wf _ _ _ h

/-- ROW WRITE refuses the row or stores its record (R61). -/
theorem runRowWrite_canonical (p : List Byte) {d : Device} (h : memoryCanonical d = true) :
    memoryCanonical (runRowWrite p d) = true := by
  unfold runRowWrite
  dsimp only
  split
  · exact answer_canonical _ _ h
  · split
    · exact memoryCanonical_congr h (by simp)
    · exact answer_canonical _ _ (storeRow_canonical _ _ _ h)

/-- After power-on the memory holds what POWER_ON brings, written into an empty one (log 16). -/
theorem powerOnReset_canonical (number : Nat) (role : Role) (a b backupHeld : Bool) (backup : Option RetainedRecord)
    (sram : List Host.Cell) (d : Device) : memoryCanonical (powerOnReset number role a b backupHeld backup sram d) = true := by
  have hmem : (powerOnReset number role a b backupHeld backup sram d).store.mem = Memory.writeCells [] sram := by
    simp [powerOnReset, resetTo, Store.reset]
  rw [memoryCanonical, hmem]
  exact writeCells_wf [] sram rfl

/-! ## Resets keep it (R72, R179, R180) -/

@[simp] theorem resetTo_mem (number : Nat) (role : Role) (phase : BitVec 2) (d : Device) :
    (resetTo number role phase d).store.mem = d.store.mem := rfl

@[simp] theorem commandedReset_mem (d : Device) : (commandedReset d).store.mem = d.store.mem := rfl

@[simp] theorem resetTimesOut_mem (d : Device) : (resetTimesOut d).store.mem = d.store.mem := by
  unfold resetTimesOut
  split <;> simp

@[simp] theorem pinReset_mem (number : Nat) (role : Role) (a b : Bool) (d : Device) :
    (pinReset number role a b d).store.mem = d.store.mem := rfl

@[simp] theorem replyLeaves_mem (d : Device) : (replyLeaves d).store.mem = d.store.mem := by
  unfold replyLeaves
  split <;> simp

/-- The frame that leaves may be the reply that a reset waits for (R179). -/
@[simp] theorem frameSent_mem (d : Device) : (frameSent d).store.mem = d.store.mem := by
  unfold frameSent
  split
  · dsimp only
    split <;> simp
  · rfl

@[simp] theorem attemptAbandoned_mem (d : Device) : (attemptAbandoned d).store.mem = d.store.mem := by
  unfold attemptAbandoned
  split
  · dsimp only
    split
    · split <;> simp
    · simp
  · rfl

/-! ## Every command, every step -/

/-- What a command's effect keeps, the command keeps, with main power or without it. -/
theorem completed_canonical {f : Device → Device} {s t : State}
    (hf : memoryCanonical s.dev = true → memoryCanonical (f s.dev) = true) (h : memoryCanonical s.dev = true)
    (hs : completed f s = .next t) : memoryCanonical t.dev = true := by
  cases hp : s.dev.control.powered with
  | true =>
    obtain rfl := Host.Outcome.next.inj ((completed_powered hp).symm.trans hs)
    exact hf h
  | false =>
    obtain rfl := Host.Outcome.next.inj ((completed_unpowered hp).symm.trans hs)
    exact h

/-- A request row keeps the canonical form where its broadcast and its own effect do (R79, R80, R170). -/
theorem takeRequest_canonical {r : Request} {broadcast : Device → Device} {run : List Byte → Device → Device}
    (hb : ∀ {d}, memoryCanonical d = true → memoryCanonical (broadcast d) = true)
    (hr : ∀ {p d}, memoryCanonical d = true → memoryCanonical (run p d) = true) {d : Device} (h : memoryCanonical d = true) :
    memoryCanonical (takeRequest r broadcast run d) = true := by
  have hpop : memoryCanonical (popQueue d) = true := memoryCanonical_congr h (by simp)
  unfold takeRequest takeAddressed
  split
  · split
    · exact hb hpop
    · split
      · exact memoryCanonical_congr hpop (by simp)
      · split
        · exact memoryCanonical_congr hpop (by simp)
        · exact hr hpop
  · exact h

/-- A request that nothing does when addressed to all nodes. -/
theorem request_canonical {r : Request} {run : List Byte → Device → Device} {s t : State}
    (hr : ∀ {p d}, memoryCanonical d = true → memoryCanonical (run p d) = true) (h : memoryCanonical s.dev = true)
    (hs : completed (takeRequest r discarded run) s = .next t) : memoryCanonical t.dev = true :=
  completed_canonical (takeRequest_canonical id hr) h hs

theorem exec_canonical (i : Instr) {s t : State} (h : memoryCanonical s.dev = true) (hs : exec i s = .next t) :
    memoryCanonical t.dev = true := by
  cases i
  case fetchComplete => exact completed_canonical (fetchCompletes_canonical _) h hs
  case rowWrite => exact request_canonical (runRowWrite_canonical _) h hs
  case powerOn =>
    obtain rfl := Host.Outcome.next.inj hs
    exact powerOnReset_canonical _ _ _ _ _ _ _ _
  case countingStep | encoderGlitch | indexEdge | stallExpiry | stationarySecond | pulseEnd | frameMark | frameReceived
      | receiveGap | holdDetected | lineStuck | lineClear | frameStart | attemptAbandoned | frameSent | resetReplyTimeout
      | beaconTaken | frameDiscarded | testStepCapture | trialSample | restEnd | wakeTimeEnd | inrushEnd | weftDetectorPulse
      | feederStopInput | resetPin | powerFail | retainedWriteDone =>
    exact completed_canonical (fun hd => memoryCanonical_congr hd (by simp)) h hs
  case configure | rowRead | runWrite | matchWrite | weftMapWrite | loadDone | positionSet | positionResume | testBegin | testStep
      | testEnd | train | status | flagsTake | faultListRead | faultListClear | historyRead | rosterRead | noticeMask =>
    exact request_canonical (fun hd => memoryCanonical_congr hd (by simp)) h hs
  case arm | disarm | reset =>
    exact completed_canonical (takeRequest_canonical (fun hd => memoryCanonical_congr hd (by simp))
      fun hd => memoryCanonical_congr hd (by simp)) h hs

theorem step_canonical {s t : State} (h : memoryCanonical s.dev = true) (hs : step s = .next t) :
    memoryCanonical t.dev = true := by
  unfold step at hs
  split at hs
  · obtain rfl := Host.Outcome.next.inj hs
    unfold idleTick
    split
    · exact memoryCanonical_congr h (by simp [tickDevice])
    · exact h
  · next i rest _ => exact exec_canonical i (s := { s with pending := rest }) h hs

end Sys2Proof.Machine
end

section
/-! SUPPORT. A row's slot: the record that ROW WRITE leaves in it, and what a read of it gives (R57, R58, R59, R61, R63). -/

namespace Sys2Proof.Machine

/-! ## The record of a row (R57 to R59) -/

theorem recordImage_length (weft : Byte) (field : List Byte) : (recordImage weft field).length = 3 + field.length := by
  simp [recordImage, be16]
  omega

/-- The two bytes of a check, high byte first, spell it (5.9; log 18). -/
theorem ofBytes_be16 (c : CheckWord) : ofBytes (be16 c.toNat) = c.toNat := by
  simp only [ofBytes, be16, byte, List.foldl_cons, List.foldl_nil, BitVec.toNat_ofNat]
  omega

/-- The slot of a row below 16,384 holds the record of up to 1,024 hooks inside the memory (R57). -/
theorem slot_inside {row n : Nat} (hrow : row ≤ 16383) (hn : n ≤ 128) : slotAddress row + (3 + n) ≤ memSize := by
  simp only [slotAddress, memSize]
  omega

theorem liftBytes_le {d : Device} (h : capacityOf d ≤ 1024) : liftBytes d ≤ 128 := by
  simp only [liftBytes]
  omega

section
variable {row : Nat} {weft : Byte} {field : List Byte} {d : Device}

/-- A byte of the memory after a row's record has been stored (R61). -/
theorem read_storeRow (hm : memoryCanonical d = true) (hrow : row ≤ 16383) (hfield : field.length ≤ 128) (x : Nat) :
    Memory.read (storeRow row weft field d).store.mem x =
      if slotAddress row ≤ x ∧ x < slotAddress row + (3 + field.length)
      then (recordImage weft field).getD (x - slotAddress row) 0#8 else Memory.read d.store.mem x := by
  have hread := read_writeBytes d.store.mem (slotAddress row) (recordImage weft field) x hm
    (by simpa [recordImage_length] using slot_inside hrow hfield)
  rwa [recordImage_length] at hread

/-- Bytes of a record read where it has been stored. -/
theorem readBytes_storeRow (hm : memoryCanonical d = true) (hrow : row ≤ 16383) (hfield : field.length ≤ 128) {i n : Nat}
    (hn : i + n ≤ 3 + field.length) :
    Memory.readBytes (storeRow row weft field d).store.mem (slotAddress row + i) n =
      ((recordImage weft field).drop i).take n :=
  readBytes_writeBytes d.store.mem (slotAddress row) (recordImage weft field) i n hm
    (by simpa [recordImage_length] using slot_inside hrow hfield) (by simpa [recordImage_length] using hn)

/-- A row just stored reads back as it was sent, its check sound (R61, R63). -/
theorem readRow_storeRow (hm : memoryCanonical d = true) (hrow : row ≤ 16383) (hfield : field.length = liftBytes d)
    (hlift : liftBytes d ≤ 128) : readRow (storeRow row weft field d) row = ⟨weft, field, true⟩ := by
  have hle : field.length ≤ 128 := hfield.le.trans hlift
  have hbytes : liftBytes (storeRow row weft field d) = field.length := by rw [hfield]; rfl
  have hweft : Memory.read (storeRow row weft field d).store.mem (slotAddress row) = weft := by
    rw [read_storeRow hm hrow hle, if_pos (by omega), Nat.sub_self]
    rfl
  have hlifted : Memory.readBytes (storeRow row weft field d).store.mem (slotAddress row + 1) field.length = field := by
    rw [readBytes_storeRow hm hrow hle (by omega)]
    simp [recordImage]
  have hcheck : Memory.readBytes (storeRow row weft field d).store.mem (slotAddress row + (1 + field.length)) 2 =
      be16 (rowCheck weft field).toNat := by
    rw [readBytes_storeRow hm hrow hle (by omega), Nat.add_comm 1]
    simp [recordImage, be16]
  simp only [readRow, hbytes, hweft, hlifted, Nat.add_assoc, hcheck, ofBytes_be16, decide_true]

end

/-! ## ROW WRITE (R28, R61) -/

/-- The weft code byte of a ROW WRITE as its field (5.9). -/
theorem fieldAt_weft (p : List Byte) : fieldAt p 2 1 = (p.getD 2 0#8).toNat := by
  match p with
  | [] | [_] | [_, _] => rfl
  | a :: b :: c :: q => simp [fieldAt, ofBytes]

theorem weftCodeGood_eq_false {k : Nat} (h : 7 < k) (h15 : k ≠ 15) : weftCodeGood k = false := by
  simp [weftCodeGood, h, h15]

/-- The bytes of a lift field by the role: none in the weft role (R58). -/
theorem liftBytes_eq (d : Device) : liftBytes d = if d.control.role = .weftRole then 0 else capacityOf d / 8 := by
  split
  · next h => simp [liftBytes, capacityOf, h]
  · rfl

theorem runRowWrite_refused {p : List Byte} {d : Device}
    (h : p.length ≠ 3 + liftBytes d ∨ 16383 < fieldAt p 0 2 ∨ weftCodeGood (p.getD 2 0#8).toNat = false) :
    runRowWrite p d = answer .rowWrite .range d := if_pos h

section
variable {p : List Byte} {d : Device} (hlen : p.length = 3 + liftBytes d) (hrow : fieldAt p 0 2 ≤ 16383)
  (hgood : weftCodeGood (p.getD 2 0#8).toNat = true)
include hlen hrow hgood

/-- A ROW WRITE with its length right and its fields in range is not refused with RANGE (R61, R170). -/
theorem runRowWrite_inRange : runRowWrite p d =
    if d.control.state = .ready ∧ isWeft d = true ∧ unmapped d (p.getD 2 0#8).toNat = true then
      answerInvalid .rowWrite ⟨.weftUnmapped, 0xFF, 0xFFFF, (p.getD 2 0#8).toNat⟩ d
    else answer .rowWrite .done (storeRow (fieldAt p 0 2) (p.getD 2 0#8) (p.drop 3) d) := by
  refine if_neg ?_
  rintro (hbad | hbad | hbad)
  · exact hbad hlen
  · omega
  · exact absurd (hgood.symm.trans hbad) (by decide)

theorem runRowWrite_unmapped
    (hun : d.control.state = .ready ∧ isWeft d = true ∧ unmapped d (p.getD 2 0#8).toNat = true) :
    runRowWrite p d = answerInvalid .rowWrite ⟨.weftUnmapped, 0xFF, 0xFFFF, (p.getD 2 0#8).toNat⟩ d :=
  (runRowWrite_inRange hlen hrow hgood).trans (if_pos hun)

theorem runRowWrite_stored
    (hmapped : ¬(d.control.state = .ready ∧ isWeft d = true ∧ unmapped d (p.getD 2 0#8).toNat = true)) :
    runRowWrite p d = answer .rowWrite .done (storeRow (fieldAt p 0 2) (p.getD 2 0#8) (p.drop 3) d) :=
  (runRowWrite_inRange hlen hrow hgood).trans (if_neg hmapped)

end

/-- An accepted ROW WRITE stores the record, sets the mark and answers DONE (R61). -/
theorem exec_rowWrite_stored {s : State} {p : List Byte} (h : asked .rowWrite p s.dev = true)
    (hs : s.dev.control.state = .load ∨ s.dev.control.state = .ready) (hlen : p.length = 3 + liftBytes s.dev)
    (hrow : fieldAt p 0 2 ≤ 16383) (hgood : weftCodeGood (p.getD 2 0#8).toNat = true)
    (hmapped : ¬(s.dev.control.state = .ready ∧ isWeft s.dev = true ∧ unmapped s.dev (p.getD 2 0#8).toNat = true)) :
    exec .rowWrite s = .next { s with dev := { s.dev with
      store := (storeRow (fieldAt p 0 2) (p.getD 2 0#8) (p.drop 3) s.dev).store
      line := answered .rowWrite .done noDetail [] s.dev } } := by
  refine (exec_request h (by simpa [takenIn] using hs)).trans ?_
  rw [runRowWrite_stored (d := popQueue s.dev) hlen hrow hgood hmapped]
  exact congrArg (fun d => Host.Outcome.next { s with dev := d }) (answer_popQueue .rowWrite .done (storeRow _ _ _ s.dev))

end Sys2Proof.Machine
end

section
/-! SUPPORT. The shift of a pattern into the strings, and the completion of a PICK fetch in the section role, sound or damaged
(R66 to R68, R130, R134, R137). -/

namespace Sys2Proof.Machine

/-! ## Faults taken (R137) -/

/-- A fault is taken into the list; the strings stay as they are. -/
@[simp] theorem takeFault_strings (d : Device) (f : FaultEntry) : (takeFault d f).strings.strings = d.strings.strings := by
  unfold takeFault
  dsimp only
  (repeat' split) <;> simp

@[simp] theorem takeFaults_strings (fs : List FaultEntry) (d : Device) :
    (takeFaults fs d).strings.strings = d.strings.strings := by
  unfold takeFaults
  dsimp only
  exact (doIf_keeps (·.strings.strings) _ _ _ (by simp)).trans
    (foldl_keeps (·.strings.strings) takeFault takeFault_strings fs d)

/-- The hold of a comparison event may void the pick, and leaves the rest of the sequencer (R44, R137). -/
theorem takeFaults_seq (fs : List FaultEntry) (d : Device) :
    (takeFaults fs d).seq = { d.seq with void := (takeFaults fs d).seq.void } := by
  have hseq : (fs.foldl takeFault d).seq = d.seq := foldl_keeps (·.seq) takeFault (by simp) fs d
  unfold takeFaults
  dsimp only
  rw [(doIf_onlyHolds _ (ownHold_onlyHolds _)).seq, hseq]

theorem takeFaults_nil (d : Device) : takeFaults [] d = d := by
  simp [takeFaults, doIf_false]

theorem compareString_of_no_echo (i : Nat) {x : SelString} (h : x.echo = false) : compareString i x = [] := by
  simp [compareString, h]

/-- Where no echo is expected the comparison finds nothing (R130). -/
theorem compareAll_of_no_echo {d : Device} (h : ∀ x ∈ d.strings.strings, x.echo = false) : compareAll d = [] := by
  simp only [compareAll, List.flatten_eq_nil_iff, List.mem_mapIdx]
  rintro l ⟨i, hi, rfl⟩
  exact compareString_of_no_echo i (h _ (List.mem_of_mem_take (List.getElem_mem hi)))

/-! ## The shift (R130) -/

theorem shiftAll_seq (field : Nat → StringBits) (d : Device) :
    (shiftAll field d).seq = { d.seq with void := (shiftAll field d).seq.void } := by
  have hfaults := takeFaults_seq (compareAll d)
    (mapStrings (fun i s => { s with echo := false, shiftReg := field i, pattern := true }) d)
  simpa [shiftAll, fireWaiting] using hfaults

theorem shiftAll_length (field : Nat → StringBits) (d : Device) :
    (shiftAll field d).strings.strings.length = d.strings.strings.length := by
  simp [shiftAll, fireWaiting, fireWhere, mapStrings]

/-- A string that the station drives has taken its bits, with its pattern mark set and its echo mark clear; a fire that the shift
starts leaves them so (R130, R131). -/
theorem shiftAll_string {field : Nat → StringBits} {d : Device} {i : Nat} {x : SelString} (hi : i < stringCount d)
    (hx : (shiftAll field d).strings.strings[i]? = some x) : x.shiftReg = field i ∧ x.pattern = true ∧ x.echo = false := by
  simp only [shiftAll, fireWaiting, fireWhere_getElem?, takeFaults_strings, mapStrings_getElem?, if_pos hi, Option.map_map,
    Option.map_eq_some_iff, Function.comp_apply] at hx
  obtain ⟨y, -, rfl⟩ := hx
  split <;> exact ⟨rfl, rfl, rfl⟩

/-- A shift with no echo expected takes no fault and requests no hold (R130): it is the shift and the fires that it starts. -/
theorem shiftAll_of_no_echo (field : Nat → StringBits) {d : Device} (h : ∀ x ∈ d.strings.strings, x.echo = false) :
    shiftAll field d =
      fireWaiting (mapStrings (fun i s => { s with echo := false, shiftReg := field i, pattern := true }) d) := by
  rw [shiftAll, compareAll_of_no_echo h, takeFaults_nil]

/-- An all-zero lift field is all zeros on every string (R58, R68). -/
theorem stringBits_zero (n i : Nat) : stringBits (List.replicate n 0#8) i = 0#128 := by
  have hzero : ∀ k, (List.replicate k 0#8).foldr (fun b acc => b.toNat + 256 * acc) 0 = 0 := by
    intro k
    induction k with
    | zero => rfl
    | succ k ih => simp [List.replicate_succ, ih]
  rw [stringBits, List.drop_replicate, List.take_replicate, hzero]

/-! ## A PICK fetch completed in the section role (R66 to R68) -/

theorem stringCount_congr {d t : Device} (hrole : t.control.role = d.control.role)
    (hconfig : t.control.config = d.control.config) : stringCount t = stringCount d := by
  simp only [stringCount, capacityOf, hrole, hconfig]

/-- FETCH_COMPLETE with no fault of the memory in it (R66; log 19). -/
theorem fetchCompletes_pick {d : Device} {row e : Nat} {rev : Bool} {o : Option Nat}
    (hf : d.store.fetch = .fetching row (.pick rev o) e) :
    fetchCompletes [] d = if (isWritten d row && (readRow d row).sound) = true then soundPick row rev o (readRow d row) d
      else damagedPick row rev o d := by
  have hmem : onStore (fun s => { s with mem := Memory.writeCells s.mem [] }) d = d := rfl
  unfold fetchCompletes
  rw [hmem]
  simp only [hf]

/-- A written row whose check matches is taken as sound (R66). -/
theorem fetchCompletes_sound {d : Device} {row e : Nat} {rev : Bool} {o : Option Nat}
    (hf : d.store.fetch = .fetching row (.pick rev o) e) (hw : row ∈ d.store.written) (hs : (readRow d row).sound = true) :
    fetchCompletes [] d = soundPick row rev o (readRow d row) d := by
  rw [fetchCompletes_pick hf, if_pos (by simp [isWritten, hw, hs])]

/-- An unwritten row, or one whose check differs, is damaged (R67). -/
theorem fetchCompletes_damaged {d : Device} {row e : Nat} {rev : Bool} {o : Option Nat}
    (hf : d.store.fetch = .fetching row (.pick rev o) e) (hbad : row ∉ d.store.written ∨ (readRow d row).sound = false) :
    fetchCompletes [] d = damagedPick row rev o d := by
  rw [fetchCompletes_pick hf, if_neg]
  simp only [isWritten, Bool.and_eq_true, decide_eq_true_eq]
  rintro ⟨hw, hs⟩
  simp [hw, hs] at hbad

theorem handRow_section (weft : Nat) (field : List Byte) {d : Device} (h : d.control.role = .sectionRole) :
    handRow weft field d = shiftAll (stringBits field) d := by
  simp [handRow, isSection, h]

/-! ## A sound PICK fetch (R66) -/

/-- The station as a sound PICK fetch hands on its lift field: the result filled, weft code and lift count handed on (R66 steps 1
and 2). -/
def soundHanded (row : Nat) (o : Option Nat) (r : RowRead) (d : Device) : Device :=
  handPick (o.getD r.weft.toNat) (liftCount r.field) (fillResult ⟨row, r.weft.toNat, liftCount r.field, r.field, true⟩ d)

theorem soundPick_section (row : Nat) (rev : Bool) (o : Option Nat) (r : RowRead) {d : Device}
    (h : d.control.role = .sectionRole) :
    soundPick row rev o r d = tellLine rev (shiftAll (stringBits r.field) (soundHanded row o r d)) := by
  rw [← handRow_section r.weft.toNat r.field (d := soundHanded row o r d) (by simpa [soundHanded] using h)]
  rfl

/-- What a sound PICK fetch leaves of the design store (R66). -/
theorem soundPick_store (row : Nat) (rev : Bool) (o : Option Nat) (r : RowRead) {d : Device} (h : d.control.role = .sectionRole) :
    (soundPick row rev o r d).store = { d.store with
      fetch := .idle, result := some ⟨row, r.weft.toNat, liftCount r.field, r.field, true⟩ } := by
  rw [soundPick_section row rev o r h]
  simp [soundHanded, fillResult]

/-- What a sound PICK fetch leaves of the sequencer (R27, R66): a fault that the shift finds may void the pick. -/
theorem soundPick_seq (row : Nat) (rev : Bool) (o : Option Nat) (r : RowRead) {d : Device} (h : d.control.role = .sectionRole) :
    (soundPick row rev o r d).seq = { d.seq with
      pickWeft := some (o.getD r.weft.toNat)
      pickLift := some (liftCount r.field)
      void := (soundPick row rev o r d).seq.void } := by
  have hseq := shiftAll_seq (stringBits r.field) (soundHanded row o r d)
  simpa [soundPick_section row rev o r h, soundHanded, handPick, fillResult] using hseq

theorem soundPick_strings (row : Nat) (rev : Bool) (o : Option Nat) (r : RowRead) {d : Device}
    (h : d.control.role = .sectionRole) :
    (soundPick row rev o r d).strings = (shiftAll (stringBits r.field) (soundHanded row o r d)).strings := by
  simp [soundPick_section row rev o r h]

/-! ## A damaged PICK fetch: the blank pick (R68, R134) -/

/-- The station as a damaged PICK fetch hands on its all-zero lift field: ROW DAMAGED and its hold, the result filled, the codes
handed on, echo marks cleared, the pick blank (R68, R134). -/
def blankHanded (row : Nat) (o : Option Nat) (d : Device) : Device :=
  let held := ownHold (markDamaged row d)
  setBlank (clearEchoMarks (handPick (o.getD 15) 0 (fillResult ⟨row, o.getD 15, 0, zeroField held, false⟩ held)))

theorem blankHanded_no_echo (row : Nat) (o : Option Nat) (d : Device) :
    ∀ x ∈ (blankHanded row o d).strings.strings, x.echo = false := by
  simp [blankHanded, setBlank, clearEchoMarks, mapAllStrings]

theorem blankHanded_faults (row : Nat) (o : Option Nat) (d : Device) :
    (blankHanded row o d).strings.faults = d.strings.faults := by
  simp [blankHanded]

theorem blankHanded_length (row : Nat) (o : Option Nat) (d : Device) :
    (blankHanded row o d).strings.strings.length = d.strings.strings.length := by
  simp [blankHanded, setBlank, clearEchoMarks, mapAllStrings]

theorem blankHanded_stringCount (row : Nat) (o : Option Nat) (d : Device) : stringCount (blankHanded row o d) = stringCount d :=
  stringCount_congr (by simp [blankHanded]) (by simp [blankHanded])

theorem blankHanded_seq (row : Nat) (o : Option Nat) (d : Device) :
    (blankHanded row o d).seq = { d.seq with
      void := d.seq.void || decide (d.control.state = .weave), pickWeft := some (o.getD 15), pickLift := some 0 } := by
  simp [blankHanded, handPick, ownHold_seq]

theorem blankHanded_store (row : Nat) (o : Option Nat) (d : Device) :
    (blankHanded row o d).store = { d.store with
      fetch := .idle, lastDamaged := some row, result := (blankHanded row o d).store.result } := by
  simp [blankHanded, fillResult, markDamaged]

theorem blankHanded_flag (row : Nat) (o : Option Nat) (d : Device) : flagOf .rowDamaged (blankHanded row o d).control = true := by
  simp [blankHanded, markDamaged]

/-- What the shift of a blank pick leaves outside the strings: all as it was, but fires reported (R134). -/
theorem shiftAll_blankHanded (field : Nat → StringBits) (row : Nat) (o : Option Nat) (d : Device) :
    (shiftAll field (blankHanded row o d)).seq = (blankHanded row o d).seq ∧
    (shiftAll field (blankHanded row o d)).control = (blankHanded row o d).control ∧
    (shiftAll field (blankHanded row o d)).strings.faults = d.strings.faults ∧
    (shiftAll field (blankHanded row o d)).strings.blank = true := by
  rw [shiftAll_of_no_echo field (blankHanded_no_echo row o d)]
  refine ⟨by simp [fireWaiting], by simp [fireWaiting], by simp [fireWaiting, blankHanded_faults], ?_⟩
  simp [fireWaiting, fireWhere, mapStrings, blankHanded, setBlank]

theorem damagedPick_section (row : Nat) (rev : Bool) (o : Option Nat) {d : Device} (h : d.control.role = .sectionRole) :
    damagedPick row rev o d = tellLine rev (shiftAll (fun _ => 0#128) (blankHanded row o d)) := by
  have hzero : stringBits (zeroField (blankHanded row o d)) = fun _ => 0#128 := funext (stringBits_zero _)
  rw [← hzero, ← handRow_section (o.getD 15) _ (d := blankHanded row o d) (by simpa [blankHanded] using h)]
  simp [damagedPick, isSection, h, blankHanded]

/-- What a damaged PICK fetch leaves of the blocks (R44, R68): the strings apart, those of the blank pick handed on. -/
theorem damagedPick_blocks (row : Nat) (rev : Bool) (o : Option Nat) {d : Device} (h : d.control.role = .sectionRole) :
    (damagedPick row rev o d).seq = (blankHanded row o d).seq ∧
    (damagedPick row rev o d).store = (blankHanded row o d).store ∧
    (damagedPick row rev o d).control = (blankHanded row o d).control ∧
    (damagedPick row rev o d).strings = (shiftAll (fun _ => 0#128) (blankHanded row o d)).strings := by
  obtain ⟨hseq, hcontrol, -⟩ := shiftAll_blankHanded (fun _ => 0#128) row o d
  rw [damagedPick_section row rev o h]
  simp [hseq, hcontrol]

end Sys2Proof.Machine
end

section
/-! The statements about the design rows and the pattern memory, settled. -/

namespace Sys2Proof.Machine

/-- Settles O55, by the step lemma `step_canonical`. -/
theorem memoryStaysCanonical : Obligations.MemoryStaysCanonical := by
  unfold Obligations.MemoryStaysCanonical
  exact fun _ _ => step_canonical

/-- Settles O17: the slot by `read_storeRow` and `readRow_storeRow`, the refusals by the cases of `runRowWrite`. -/
theorem rowWriteStoresTheRecord : Obligations.RowWriteStoresTheRecord := by
  unfold Obligations.RowWriteStoresTheRecord
  refine ⟨fun s p h hs hlen hcap hrow hgood hmapped hm => ?_,
    fun s p h hs => ⟨fun hbad => ?_, fun hlen hrow hready hrole hk hnone => ?_⟩⟩
  · have hfield : (p.drop 3).length = liftBytes s.dev := by simp [hlen]
    have hread := read_storeRow (weft := p.getD 2 0#8) hm hrow (hfield.le.trans (liftBytes_le hcap))
    have hmarks := mem_setMark (fieldAt p 0 2) (l := s.dev.store.written)
    simp only [hfield, slotAddress] at hread
    refine ⟨_, exec_rowWrite_stored h hs hlen hrow hgood hmapped, rfl, fun i hi => ?_, fun x hx => ?_, hmarks,
      decide_eq_true ((hmarks _).mpr (.inl rfl)), readRow_storeRow hm hrow hfield (liftBytes_le hcap), rfl⟩
    · rw [hread, if_pos (by omega), Nat.add_sub_cancel_left]
      rfl
    · exact (hread x).trans (if_neg (by simpa only [Nat.add_assoc] using hx))
  · refine exec_request_answer h (by simpa [takenIn] using hs) (runRowWrite_refused ?_)
    rw [fieldAt_weft, ← liftBytes_eq] at hbad
    exact hbad.imp_right (Or.imp_right fun hk => weftCodeGood_eq_false hk.1 hk.2)
  · rw [fieldAt_weft] at *
    have hgood : weftCodeGood (p.getD 2 0#8).toNat = true := by rw [weftCodeGood, decide_eq_true hk, Bool.true_or]
    have hlift : p.length = 3 + liftBytes s.dev := by simp [liftBytes_eq, hrole, hlen]
    refine (exec_request h (by simpa [takenIn] using hs)).trans ?_
    rw [runRowWrite_unmapped (d := popQueue s.dev) hlift hrow hgood ⟨by simpa using hready, by simpa [isWeft] using hrole,
      (unmapped_iff _ _).mpr ⟨by omega, by simpa using hnone⟩⟩, answerInvalid_popQueue]

/-- Settles O18: the blocks by `soundPick_store` and `soundPick_seq`, the strings by `shiftAll_string`. -/
theorem soundFetchFillsThePick : Obligations.SoundFetchFillsThePick := by
  unfold Obligations.SoundFetchFillsThePick
  intro s row e rev o hp hrole hf hw hs
  have hseq := soundPick_seq row rev o (readRow s.dev row) hrole
  have hstrings := soundPick_strings row rev o (readRow s.dev row) hrole
  refine ⟨{ s with dev := soundPick row rev o (readRow s.dev row) s.dev },
    (completed_powered hp).trans (by rw [fetchCompletes_sound hf hw hs]), rfl,
    soundPick_store row rev o (readRow s.dev row) hrole, congrArg Sequencer.pickWeft hseq, congrArg Sequencer.pickLift hseq, ?_,
    fun i x hi hx => ?_, ?_⟩
  · exact (congrArg (·.strings.length) hstrings).trans (shiftAll_length _ _)
  · exact shiftAll_string (d := soundHanded row o (readRow s.dev row) s.dev) hi (by rwa [← hstrings])
  · simp

/-- Settles O19: the blocks by `damagedPick_blocks` and the `blankHanded` lemmas, the strings by `shiftAll_string`. -/
theorem damagedFetchVoidsThePick : Obligations.DamagedFetchVoidsThePick := by
  unfold Obligations.DamagedFetchVoidsThePick
  intro s row e rev o hp hrole hf hbad
  obtain ⟨hseq, hstore, hcontrol, hstrings⟩ := damagedPick_blocks row rev o hrole
  obtain ⟨-, -, hfaults, hblank⟩ := shiftAll_blankHanded (fun _ => 0#128) row o s.dev
  rw [blankHanded_seq] at hseq
  rw [blankHanded_store] at hstore
  refine ⟨{ s with dev := damagedPick row rev o s.dev },
    (completed_powered hp).trans (by rw [fetchCompletes_damaged hf hbad]), rfl, ?_, congrArg Store.lastDamaged hstore,
    congrArg Store.fetch hstore, fun hweave => ?_, congrArg Sequencer.pickWeft hseq, congrArg Sequencer.pickLift hseq, ?_,
    fun i x hi hx => ?_, ?_⟩
  · exact (congrArg (flagOf .rowDamaged) hcontrol).trans (blankHanded_flag row o s.dev)
  · simp [hseq, hweave]
  · exact (congrArg (·.strings.length) hstrings).trans ((shiftAll_length _ _).trans (blankHanded_length row o s.dev))
  · exact shiftAll_string (field := fun _ => 0#128) (d := blankHanded row o s.dev) (by rwa [blankHanded_stringCount])
      (by rwa [← hstrings])
  · simp [hstrings, hfaults, hblank]

end Sys2Proof.Machine
end

section
/-! SUPPORT. The line as it is measured: what the end of a dominant run and the characters that pass leave on it, the line that becomes
STUCK and CLEAR, and a hold that is counted (R44, R45, R73, R74, R77, R87, R89). -/

namespace Sys2Proof.Machine

/-- Where every other block stands, only the line has changed. -/
theorem eq_with_line {d t : Device}
    (h : t.tracker = d.tracker ∧ t.seq = d.seq ∧ t.store = d.store ∧ t.roster = d.roster ∧ t.fire = d.fire ∧
      t.strings = d.strings ∧ t.trainer = d.trainer ∧ t.weft = d.weft ∧ t.control = d.control ∧ t.pins = d.pins) :
    t = { d with line := t.line } := by
  obtain ⟨htracker, hseq, hstore, hroster, hfire, hstrings, htrainer, hweft, hcontrol, hpins⟩ := h
  exact Device.ext_blocks htracker hseq hstore rfl hroster hfire hstrings htrainer hweft hcontrol hpins

theorem pulsing_false {d : Device} (h : ∀ n, d.line.tx ≠ .pulse n) : pulsing d = false := by
  rw [← Bool.not_eq_true, pulsing_iff]
  exact fun ⟨n, hn⟩ => h n hn

/-! ## The end of a dominant run (R77) -/

theorem judgeStopBit_of_not_waiting {l : Line} (h : l.rx ≠ .awaitingRun) : judgeStopBit l = l := by
  obtain ⟨-, e⟩ | ⟨hw, -⟩ | ⟨hw, -⟩ := judgeStopBit_cases l
  exacts [e, absurd hw h, absurd hw h]

theorem judgeStopBit_of_waiting {l : Line} (h : l.rx = .awaitingRun) :
    judgeStopBit l = { l with
      rx := .hunt
      counters := if l.dominantRun < 22 then { l.counters with parityFraming := inc16 l.counters.parityFraming }
        else l.counters } := by
  simp [judgeStopBit, h]

/-- After the end of a dominant run no character waits on it. -/
theorem judgeStopBit_not_waiting (l : Line) : (judgeStopBit l).rx ≠ .awaitingRun := by
  by_cases h : l.rx = .awaitingRun
  · simp [judgeStopBit_of_waiting h]
  · rwa [judgeStopBit_of_not_waiting h]

/-- A line measured recessive, with no pulse of this station under way, is a new run on the line judged. -/
theorem recessiveReaches_clear {d : Device} (n : Nat) (h : pulsing d = false) :
    recessiveReaches n d = { d with line := { judgeStopBit d.line with
      recessiveRun := min (max n d.line.recessiveRun) 1000, dominantRun := 0, ownPulse := false, halfBit := false } } := by
  simp [recessiveReaches, measuredRecessive, h, onLine]

theorem recessiveReaches_pulse {d : Device} (n : Nat) (h : pulsing d = true) : recessiveReaches n d = d :=
  measuredRecessive_pulse _ h

/-! ## The runs that characters leave (R73, R74) -/

theorem runBits_append (bits : List Bool) (b : Bool) (l : Line) : runBits (bits ++ [b]) l = runBit (runBits bits l) b := by
  simp [runBits]

/-- The dominant bits at the end are the dominant run, where none stood before. -/
theorem runBits_dominantRun (bits : List Bool) {l : Line} (h : l.dominantRun = 0) :
    (runBits bits l).dominantRun = min (bits.reverse.takeWhile (!·)).length 2001 := by
  induction bits using List.reverseRecOn with
  | nil => simpa [runBits] using h
  | append_singleton bits b ih =>
    rw [runBits_append]
    cases b
    · simp [runBit, ih]
      omega
    · simp [runBit]

/-- The recessive bits at the end are the recessive run, where a dominant bit has ended the one before. -/
theorem runBits_recessiveRun (bits : List Bool) {l : Line} (h : l.recessiveRun = 0 ∨ false ∈ bits) :
    (runBits bits l).recessiveRun = min (bits.reverse.takeWhile id).length 1000 := by
  induction bits using List.reverseRecOn with
  | nil => simpa [runBits] using h
  | append_singleton bits b ih =>
    rw [runBits_append]
    cases b
    · simp [runBit]
    · simp [runBit, ih (by simpa using h)]
      omega

theorem charBits_length (c : LineChar) : (charBits c).length = 11 := by
  simp [charBits]

theorem charBits_run_le (p : Bool → Bool) (c : LineChar) : ((charBits c).reverse.takeWhile p).length ≤ 11 := by
  calc ((charBits c).reverse.takeWhile p).length ≤ (charBits c).reverse.length := (List.takeWhile_sublist p).length_le
    _ = 11 := by rw [List.length_reverse, charBits_length]

/-- A character leaves the run of its own last bits: its start bit is dominant (R73). -/
theorem runBits_charBits (c : LineChar) {l : Line} (h : l.dominantRun = 0) :
    (runBits (charBits c) l).recessiveRun = ((charBits c).reverse.takeWhile id).length ∧
    (runBits (charBits c) l).dominantRun = ((charBits c).reverse.takeWhile (!·)).length := by
  have hstart : false ∈ charBits c := by simp [charBits]
  have hr := charBits_run_le id c
  have hd := charBits_run_le (!·) c
  rw [runBits_recessiveRun _ (.inr hstart), runBits_dominantRun _ h]
  omega

/-- Characters that pass change the runs and nothing else. -/
theorem passedChars_runs (chars : List LineChar) (d : Device) :
    (passedChars chars d).line = { d.line with
      recessiveRun := (passedChars chars d).line.recessiveRun
      dominantRun := (passedChars chars d).line.dominantRun
      ownPulse := (passedChars chars d).line.ownPulse
      halfBit := (passedChars chars d).line.halfBit } := by
  have hruns : ∀ bits l, runBits bits l = { l with
      recessiveRun := (runBits bits l).recessiveRun, dominantRun := (runBits bits l).dominantRun
      ownPulse := (runBits bits l).ownPulse } := by
    intro bits l
    induction bits using List.reverseRecOn with
    | nil => rfl
    | append_singleton bits b ih =>
      rw [runBits_append]
      cases b <;> simp [runBit]
  unfold passedChars
  split
  · split
    · rfl
    · dsimp only [onLine]
      rw [hruns]
  · rfl

@[simp] theorem passedChars_keeps (chars : List LineChar) (d : Device) :
    (passedChars chars d).line.rx = d.line.rx ∧ (passedChars chars d).line.counters = d.line.counters ∧
    (passedChars chars d).line.tx = d.line.tx ∧ (passedChars chars d).line.completion = d.line.completion ∧
    pulsing (passedChars chars d) = pulsing d := by
  have h := passedChars_runs chars d
  have htx : (passedChars chars d).line.tx = d.line.tx := by rw [h]
  exact ⟨by rw [h], by rw [h], htx, by rw [h], by rw [pulsing, pulsing, htx]⟩

/-! ## The stuck line (R89) -/

theorem lineSticks_eq (d : Device) :
    lineSticks d = { d with
      line := { d.line with stuck := true, rx := .hunt, recessiveRun := 0, dominantRun := 2001, halfBit := false }
      control := { d.control with flags := d.control.flags ||| BitVec.twoPow 30 17 } } := by
  simp [lineSticks, setFlag_eq, flagNumber, onLine, measuredDominant]

theorem lineClears_stuck {d : Device} (hstuck : d.line.stuck = true) (hno : ∀ n, d.line.tx ≠ .pulse n) :
    lineClears d = { d with line := { judgeStopBit d.line with
      stuck := false, recessiveRun := min (max 12 d.line.recessiveRun) 1000, dominantRun := 0, ownPulse := false
      halfBit := false } } := by
  rw [lineClears, hstuck, pulsing_false hno, recessiveReaches_clear _ (pulsing_false hno)]
  rfl

theorem lineClears_kept {d : Device} {n : Nat} (h : d.line.stuck = false ∨ d.line.tx = .pulse n) : lineClears d = d := by
  have hno : (d.line.stuck && !pulsing d) = false := by
    rcases h with h | h
    · simp [h]
    · simp [(pulsing_iff d).mpr ⟨n, h⟩]
  simp [lineClears, hno]

/-! ## A hold on the line (R45, R87) -/

/-- Another node's hold that takes no crossing back voids the pick in WEAVE (R45). -/
theorem lineHold_of_no_retract {d : Device} (h : retracts d = false) :
    lineHold d = { d with seq := { d.seq with void := d.seq.void || decide (d.control.state = .weave) } } := by
  by_cases hw : d.control.state = .weave
  · simp [lineHold, inWeave, hw, h, onSeq]
  · simp [lineHold, inWeave, hw]

theorem detectHold_others {d : Device} (hown : d.line.ownPulse = false) : detectHold d = lineHold (heardHold d) := by
  rw [detectHold, hown]
  rfl

theorem detectHold_own {d : Device} (hown : d.line.ownPulse = true) :
    detectHold d = setReceiver .hunt (measuredDominant 22 d) := by
  rw [detectHold, hown]
  rfl

theorem retracts_heardHold (d : Device) : retracts (heardHold d) = retracts d := by
  simp [retracts, inWeave]

end Sys2Proof.Machine
end

section
/-! SUPPORT. The transmitter: which frame a start takes, and how its transmission ends (R81 to R85, R92); and the frames of the receive
queue that nothing executes (R79, R80, R170). -/

namespace Sys2Proof.Machine

/-! ## The start of a frame (R83) -/

theorem nextSlot_beacon {d : Device} {x : Slot} (h : d.line.beaconSlot = some x) : nextSlot d = some (.beacon, x.frame) := by
  simp [nextSlot, h]

theorem nextSlot_reply {d : Device} {x : Slot} (hb : d.line.beaconSlot = none) (hr : d.line.replySlot = some x) :
    nextSlot d = some (.reply, x.frame) := by
  simp [nextSlot, hb, hr]

theorem nextSlot_eq_none {d : Device} : nextSlot d = none ↔ d.line.beaconSlot = none ∧ d.line.replySlot = none := by
  unfold nextSlot
  split <;> simp_all

/-- A measured recessive run changes neither the slots nor the transmitter. -/
theorem measuredRecessive_keeps (n : Nat) (d : Device) :
    nextSlot (measuredRecessive n d) = nextSlot d ∧ (measuredRecessive n d).line.tx = d.line.tx ∧
    (measuredRecessive n d).line.accessWait = d.line.accessWait := by
  cases h : pulsing d
  · simp [nextSlot, measuredRecessive_line n h]
  · simp [measuredRecessive_pulse n h]

/-- The line with the start of a frame on it: its characters driven, the wait back at its normal value (R83). -/
def startedLine (slot : SlotName) (f : Frame) (d : Device) : Line :=
  { d.line with
    tx := .sending slot (frameChars f), held := false, sentBits := 0, recessiveRun := 0, accessWait := restWait d }

/-- A start is made, or the measured recessive run is all that changes (R83). -/
theorem startFrame_cases (recessive : Nat) (d : Device) :
    (∃ slot f, nextSlot d = some (slot, f) ∧ d.line.tx = .idle ∧ d.line.stuck = false ∧
      d.line.accessWait ≤ min recessive 1000 ∧
      startFrame recessive d =
        { d with line := startedLine slot f (measuredRecessive recessive d) }) ∨
    ((nextSlot d = none ∨ d.line.tx ≠ .idle ∨ d.line.stuck = true ∨ min recessive 1000 < d.line.accessWait) ∧
      startFrame recessive d = measuredRecessive recessive d) := by
  obtain ⟨hslot, htx, hwait⟩ := measuredRecessive_keeps recessive d
  have hstuck : (measuredRecessive recessive d).line.stuck = d.line.stuck := by simp
  have hrun : d.line.tx = .idle → (measuredRecessive recessive d).line.recessiveRun = min recessive 1000 := fun hidle => by
    rw [measuredRecessive_line _ (pulsing_false (by simp [hidle]))]
  unfold startFrame
  simp only [hslot, htx, hstuck, hwait]
  cases hnext : nextSlot d with
  | none => exact .inr ⟨.inl rfl, rfl⟩
  | some x =>
    obtain ⟨slot, f⟩ := x
    dsimp only
    split
    next h =>
      obtain ⟨hidle, hclear, hreached⟩ := h
      rw [hrun hidle] at hreached
      exact .inl ⟨slot, f, rfl, hidle, hclear, hreached, eq_with_line (by simp)⟩
    next h =>
      refine .inr ⟨.inr ?_, rfl⟩
      by_cases hidle : d.line.tx = .idle
      · rw [hrun hidle] at h
        cases hs : d.line.stuck
        · exact .inr (.inr (Nat.not_le.mp fun hle => h ⟨hidle, hs, hle⟩))
        · exact .inr (.inl rfl)
      · exact .inl hidle

/-! ## The end of a transmission (R81, R84, R85) -/

/-- A frame leaves its slot (R81, R84). -/
def leaveSlot (slot : SlotName) (d : Device) : Device :=
  match slot with
  | .beacon => clearSlot .beacon d
  | .reply => replyLeaves d

/-- With no reset waiting a slot empties, the reply slot for a completion reply that waited (R81). -/
theorem leaveSlot_eq {d : Device} (slot : SlotName) (h : d.control.resetPending = none) :
    leaveSlot slot d = { d with line := { d.line with
      beaconSlot := if slot = .beacon then none else d.line.beaconSlot
      replySlot := if slot = .reply then d.line.completion.map (⟨·, 0⟩) else d.line.replySlot
      completion := if slot = .reply then none else d.line.completion } } := by
  cases slot with
  | beacon => rfl
  | reply =>
    cases hc : d.line.completion <;> simp [leaveSlot, replyLeaves, h, admitCompletion, clearSlot, onLine, hc]

/-- The line after an attempt has been abandoned, before the eighth discards the frame (R84, R85). -/
def abandonedLine (slot : SlotName) (d : Device) : Line :=
  { d.line with
    tx := .idle
    rx := disown d.line.rx
    accessWait := backoffWait d
    held := false
    recessiveRun := 0
    dominantRun := min (max 1 d.line.dominantRun) 2001
    halfBit := false
    beaconSlot := if slot = .beacon then d.line.beaconSlot.map fun s => { s with attempts := s.attempts + 1 }
      else d.line.beaconSlot
    replySlot := if slot = .reply then d.line.replySlot.map fun s => { s with attempts := s.attempts + 1 }
      else d.line.replySlot
    counters := { d.line.counters with abandoned := inc16 d.line.counters.abandoned } }

/-- The slot of the abandoned frame has one attempt more. -/
theorem slotOf_abandonedLine (slot : SlotName) (d : Device) :
    slotOf slot { d with line := abandonedLine slot d } =
      (slotOf slot d).map fun s => { s with attempts := s.attempts + 1 } := by
  cases slot <;> simp [slotOf, abandonedLine]

theorem attemptAbandoned_sending {d : Device} {slot : SlotName} {chars : List Byte} (h : d.line.tx = .sending slot chars) :
    attemptAbandoned d =
      if (slotOf slot { d with line := abandonedLine slot d }).any fun s => decide (8 ≤ s.attempts) then
        leaveSlot slot (count (fun c => { c with collisionLimits := inc16 c.collisionLimits })
          { d with line := abandonedLine slot d })
      else { d with line := abandonedLine slot d } := by
  unfold attemptAbandoned
  rw [h]
  cases slot <;> rfl

/-- Below seven earlier attempts the frame stays (R84). -/
theorem attemptAbandoned_stays {d : Device} {slot : SlotName} {chars : List Byte} {x : Slot}
    (h : d.line.tx = .sending slot chars) (hx : slotOf slot d = some x) (hn : x.attempts < 7) :
    attemptAbandoned d = { d with line := abandonedLine slot d } := by
  have hbelow : ¬8 ≤ x.attempts + 1 := by omega
  rw [attemptAbandoned_sending h, slotOf_abandonedLine, hx]
  simp [hbelow]

/-- The line after the eighth abandoned attempt, which discards the frame (R85). -/
def discardedLine (slot : SlotName) (d : Device) : Line :=
  { abandonedLine slot d with
    beaconSlot := if slot = .beacon then none else d.line.beaconSlot
    replySlot := if slot = .reply then d.line.completion.map (⟨·, 0⟩) else d.line.replySlot
    completion := if slot = .reply then none else d.line.completion
    counters := { (abandonedLine slot d).counters with collisionLimits := inc16 d.line.counters.collisionLimits } }

/-- The eighth abandoned attempt discards the frame (R85). -/
theorem attemptAbandoned_discards {d : Device} {slot : SlotName} {chars : List Byte} {x : Slot}
    (h : d.line.tx = .sending slot chars) (hx : slotOf slot d = some x) (hn : 7 ≤ x.attempts)
    (hr : d.control.resetPending = none) : attemptAbandoned d = { d with line := discardedLine slot d } := by
  have htop : ((some x).map fun s : Slot => { s with attempts := s.attempts + 1 }).any
      (fun s => decide (8 ≤ s.attempts)) = true := by simp [hn]
  rw [attemptAbandoned_sending h, slotOf_abandonedLine, hx, if_pos htop, leaveSlot_eq slot (by simpa using hr)]
  cases slot <;> rfl

/-- A frame sent whole leaves its slot after its last character has passed (R84). -/
theorem frameSent_sending {d : Device} {slot : SlotName} {chars : List Byte} (h : d.line.tx = .sending slot chars) :
    frameSent d = leaveSlot slot (passedChars [soundChar (chars.getLastD 0#8)]
      { d with line := { d.line with tx := .idle, accessWait := restWait d } }) := by
  unfold frameSent
  rw [h]
  cases slot <;> rfl

/-- A sound character that has passed ends the dominant run with its mark: its stop bit is recessive (R73, R74). -/
theorem soundChar_passed {d : Device} (b : Byte) (h : pulsing d = false) :
    passedChars [soundChar b] d = { d with line := { d.line with
      recessiveRun := ((charBits (soundChar b)).reverse.takeWhile id).length
      dominantRun := 0, ownPulse := false, halfBit := false } } := by
  have hown : ∀ l : Line, (runBits (charBits (soundChar b)) l).ownPulse = false := by
    simp [runBits, charBits, soundChar, List.foldl_append, runBit]
  have hrun := (runBits_charBits (soundChar b) (l := { d.line with dominantRun := 0, ownPulse := false }) rfl).1
  have hline := passedChars_line (chars := [soundChar b]) h rfl
  have hkept := passedChars_runs [soundChar b] d
  rw [hline] at hkept
  rw [eq_with_line (t := passedChars [soundChar b] d) (d := d) (by simp), hline, hkept]
  simp [hrun, hown, soundChar_ends_dominant]

/-- The line after a frame sent whole (R74, R81, R84). -/
def sentLine (slot : SlotName) (chars : List Byte) (d : Device) : Line :=
  { d.line with
    tx := .idle
    accessWait := restWait d
    beaconSlot := if slot = .beacon then none else d.line.beaconSlot
    replySlot := if slot = .reply then d.line.completion.map (⟨·, 0⟩) else d.line.replySlot
    completion := if slot = .reply then none else d.line.completion
    recessiveRun := ((charBits (soundChar (chars.getLastD 0#8))).reverse.takeWhile id).length
    dominantRun := 0
    ownPulse := false
    halfBit := false }

theorem frameSent_line {d : Device} {slot : SlotName} {chars : List Byte} (h : d.line.tx = .sending slot chars)
    (hr : d.control.resetPending = none) : frameSent d = { d with line := sentLine slot chars d } := by
  have hidle : pulsing { d with line := { d.line with tx := .idle, accessWait := restWait d } } = false := rfl
  rw [frameSent_sending h, soundChar_passed _ hidle, leaveSlot_eq slot (by simpa using hr)]
  rfl

/-! ## Frames that nothing executes (R80, R170) -/

theorem popQueue_of_cons {d : Device} {f : Frame} {rest : List Frame} (h : d.line.queue = f :: rest) :
    popQueue d = { d with line := { d.line with queue := rest } } := by
  simp [popQueue, onLine, h]

/-- A request dropped for want of room leaves the queue and is counted (R80 step 4). -/
theorem dropRequest_popQueue (d : Device) :
    dropRequest (popQueue d) = { d with line := { d.line with
      queue := d.line.queue.tail
      counters := { d.line.counters with requestsDropped := inc16 d.line.counters.requestsDropped } } } := by
  simp [dropRequest, count, popQueue, onLine, List.drop_one]

theorem isRequestKind_iff (k : Byte) : isRequestKind k = true ↔ 0xC1 ≤ k.toNat ∧ k.toNat ≤ 0xD7 := by
  simp [isRequestKind]

theorem isRequestKind_ne_beaconKind {k : Byte} (h : isRequestKind k = true) : k ≠ beaconKind := by
  rintro rfl
  exact absurd h (by decide)

/-- The broadcasts that R170 executes: ARM in READY, DISARM in WEAVE at rest, RESET. -/
theorem broadcastActs_iff (k : Byte) (d : Device) :
    broadcastActs k d = true ↔ k = 0xCA#8 ∧ d.control.state = .ready ∨
      k = 0xCB#8 ∧ d.control.state = .weave ∧ d.tracker.speed = .stalled ∨ k = 0xD7#8 := by
  simp only [broadcastActs, inWeave, stalledNow, Bool.or_eq_true, Bool.and_eq_true, decide_eq_true_eq, or_assoc, and_assoc]
  exact Iff.rfl

section
variable {d : Device} {f : Frame} {rest : List Frame}

theorem discardFrame_waiting (h : d.control.resetPending.isSome) : discardFrame d = d := by
  rw [discardFrame, if_pos h]

theorem discardFrame_empty (h : d.line.queue = []) : discardFrame d = d := by
  simp [discardFrame, h]

theorem discardFrame_beacon (hq : d.line.queue = f :: rest) (hf : f.kind = beaconKind) : discardFrame d = d := by
  simp [discardFrame, hq, hf]

theorem discardFrame_head (hr : d.control.resetPending = none) (hq : d.line.queue = f :: rest) (hf : f.kind ≠ beaconKind) :
    discardFrame d = discardHead f d := by
  simp [discardFrame, hr, hq, hf]

/-- A frame that is no request of the terminal leaves the queue (R80). -/
theorem discardHead_no_request (h : ¬(isRequestKind f.kind = true ∧ f.source = terminalNode)) : discardHead f d = popQueue d := by
  rw [discardHead, if_pos (by simpa only [Bool.not_eq_true', ← Bool.not_eq_true, Bool.and_eq_true, decide_eq_true_eq] using h)]

theorem discardHead_broadcast (hk : isRequestKind f.kind = true) (hs : f.source = terminalNode) (hd : f.dest = allNodes) :
    discardHead f d = doIf (!broadcastActs f.kind d) popQueue d := by
  simp [discardHead, hk, hs, hd]

theorem discardHead_addressed (hk : isRequestKind f.kind = true) (hs : f.source = terminalNode) (hd : f.dest ≠ allNodes) :
    discardHead f d = doIf (replyTaken d) (fun d => dropRequest (popQueue d)) d := by
  simp [discardHead, hk, hs, hd]

end

theorem replyTaken_iff (d : Device) :
    replyTaken d = true ↔ d.line.replySlot.isSome = true ∨ d.line.completion.isSome = true := by
  simp [replyTaken]

/-- The command of a request to which no reply can be placed drops it (R80 step 4). -/
theorem exec_request_dropped {r : Request} {p : List Byte} {s : State} (arm : BitVec 8) (hn : s.dev.control.number < 32)
    (h : requestAt r (byte s.dev.control.number) p s.dev = true) (hr : replyTaken s.dev = true) :
    exec (requestInstr arm r) s = .next { s with dev := dropRequest (popQueue s.dev) } := by
  have htaken : ∃ broadcast run, exec (requestInstr arm r) s = completed (takeRequest r broadcast run) s := by
    cases r <;> exact ⟨_, _, rfl⟩
  obtain ⟨broadcast, run, e⟩ := htaken
  rw [e, completed_powered (requestAt_powered h), takeRequest_dropped hn h hr]

end Sys2Proof.Machine
end

section
/-! SUPPORT. The receiver, character by character: a frame in assembly that is discarded for a framing error, and the mark that
opens one (R74, R76, R77). -/

namespace Sys2Proof.Machine

/-! ## One character (R77) -/

theorem setReceiver_self {r : Receiver} {d : Device} (h : d.line.rx = r) : setReceiver r d = d := by
  rw [setReceiver, onLine, ← h]

theorem doIf_setReceiver_line (b : Bool) (r : Receiver) (d : Device) :
    (doIf b (setReceiver r) d).line = { d.line with rx := if b then r else d.line.rx } := by
  cases b <;> rfl

theorem onLine_judgeStopBit {d : Device} (h : d.line.rx ≠ .awaitingRun) : onLine judgeStopBit d = d := by
  rw [onLine, judgeStopBit_of_not_waiting h]

/-- With main power a single character acts on the receiver, and its bits leave their runs. -/
theorem exec_frameReceived_char {s : State} (c : LineChar) (hp : s.dev.control.powered = true) :
    exec (.frameReceived [c]) s = .next { s with dev := passedChars [c] (receiveChar s.dev c) } := completed_powered hp

section
variable {d : Device} {c : LineChar}

theorem receiveChar_hunt (h : d.line.rx = .hunt) : receiveChar d c = d := by
  simp [receiveChar, onLine_judgeStopBit (d := d) (by simp [h]), h]

/-- The start bit of the next character judges the one that waits, and the next one is not acted on. -/
theorem receiveChar_waiting (h : d.line.rx = .awaitingRun) : receiveChar d c = onLine judgeStopBit d := by
  simp [receiveChar, judgeStopBit_of_waiting h]

/-- A character for a frame in assembly: its stop bit first, then its parity. -/
theorem receiveChar_assembling (hh : d.line.rx ≠ .hunt) (hw : d.line.rx ≠ .awaitingRun) :
    receiveChar d c =
      if !c.stop then setReceiver .awaitingRun d
      else if parityGood c then takeChar d.line.rx c.data d
      else dropForFraming d := by
  simp only [receiveChar, onLine_judgeStopBit hw]

/-- A character is without error exactly where it is as a sound transmitter sends it (R73). -/
theorem charGood_iff : charGood c = true ↔ c = soundChar c.data := by
  obtain ⟨data, parity, stop⟩ := c
  cases parity <;> cases stop <;> simp [charGood, parityGood, soundChar]
  omega

theorem charGood_and_data (b : Byte) : (charGood c && decide (c.data = b)) = true ↔ c = soundChar b := by
  rw [Bool.and_eq_true, charGood_iff, decide_eq_true_eq]
  constructor
  · rintro ⟨h, rfl⟩
    exact h
  · rintro rfl
    exact ⟨rfl, rfl⟩

end

theorem parityGood_soundChar (b : Byte) : parityGood (soundChar b) = true := by
  have h : charGood (soundChar b) = true := charGood_iff.mpr rfl
  rw [charGood, Bool.and_eq_true] at h
  exact h.1

/-! ## A frame discarded for a framing error (R77) -/

/-- The receiver is in HUNT and one parity or framing error is counted; queue and slots stand. -/
def FramingDropped (d t : Device) : Prop :=
  t.line.rx = .hunt ∧
  t.line.counters = { d.line.counters with parityFraming := min (d.line.counters.parityFraming + 1) 65535 } ∧
  t.line.queue = d.line.queue ∧ t.line.replySlot = d.line.replySlot ∧ t.line.beaconSlot = d.line.beaconSlot

theorem dropForFraming_dropped (d : Device) : FramingDropped d (dropForFraming d) := ⟨rfl, rfl, rfl, rfl, rfl⟩

/-- A run below 22 bt that ends behind a dominant stop bit is a framing error. -/
theorem judgeStopBit_dropped {d t : Device} (h : d.line.rx = .awaitingRun) (hrun : d.line.dominantRun < 22)
    (ht : t.line.rx = (judgeStopBit d.line).rx ∧ t.line.counters = (judgeStopBit d.line).counters ∧
      t.line.queue = d.line.queue ∧ t.line.replySlot = d.line.replySlot ∧ t.line.beaconSlot = d.line.beaconSlot) :
    FramingDropped d t := by
  obtain ⟨hrx, hcounters, hkept⟩ := ht
  rw [judgeStopBit_of_waiting h, if_pos hrun] at hrx hcounters
  exact ⟨hrx, hcounters, hkept⟩

theorem passedChars_dropped {d t : Device} (chars : List LineChar) (h : FramingDropped d t) :
    FramingDropped d (passedChars chars t) := by
  simpa [FramingDropped] using h

/-- A receive gap discards a frame in assembly and counts once, also where a character waits on its stop bit. -/
theorem receiveGap_dropped {d : Device} (hh : d.line.rx ≠ .hunt) (hrun : d.line.rx = .awaitingRun → d.line.dominantRun < 22) :
    FramingDropped d (receiveGap d) := by
  cases hp : pulsing d
  · by_cases hw : d.line.rx = .awaitingRun
    · rw [receiveGap, recessiveReaches_clear _ hp]
      simp only [judgeStopBit_of_waiting hw]
      exact judgeStopBit_dropped hw (hrun hw) (by simp [doIf, judgeStopBit_of_waiting hw])
    · rw [receiveGap, recessiveReaches_clear _ hp, judgeStopBit_of_not_waiting hw]
      simp only [hh, ne_eq, not_false_eq_true, decide_true, doIf_true]
      exact dropForFraming_dropped _
  · rw [receiveGap, recessiveReaches_pulse _ hp]
    simp only [hh, ne_eq, not_false_eq_true, decide_true, doIf_true]
    exact dropForFraming_dropped _

theorem receiveGap_hunt {d : Device} (h : d.line.rx = .hunt) (hno : ∀ n, d.line.tx ≠ .pulse n) :
    receiveGap d = { d with line := { d.line with
      recessiveRun := min (max 12 d.line.recessiveRun) 1000, dominantRun := 0, ownPulse := false, halfBit := false } } := by
  rw [receiveGap, recessiveReaches_clear _ (pulsing_false hno), judgeStopBit_of_not_waiting (by simp [h])]
  simp [h, doIf_false]

theorem receiveGap_hunt_pulse {d : Device} {n : Nat} (h : d.line.rx = .hunt) (hn : d.line.tx = .pulse n) :
    receiveGap d = d := by
  rw [receiveGap, recessiveReaches_pulse _ ((pulsing_iff d).mpr ⟨n, hn⟩)]
  simp [h, doIf_false]

/-! ## The mark (R76, R89) -/

@[simp] theorem measuredRecessive_pulsing (n : Nat) (d : Device) : pulsing (measuredRecessive n d) = pulsing d := by
  obtain ⟨-, htx, -⟩ := measuredRecessive_keeps n d
  rw [pulsing, pulsing, htx]

/-- Whether a mark opens a frame on the line as it then is measured. -/
def opensFrame (recessive : Nat) (first : LineChar) (second : Option LineChar) (d : Device) : Bool :=
  decide (d.line.rx = .hunt) && !d.line.stuck && decide (12 ≤ recessive) && charGood first
    && decide (first.data = 0xB4#8) && second.any fun c => charGood c && decide (c.data = 0x2D#8)

theorem opensFrame_iff {recessive : Nat} {first : LineChar} {second : Option LineChar} {d : Device} :
    opensFrame recessive first second d = true ↔
      d.line.rx = .hunt ∧ d.line.stuck = false ∧ 12 ≤ recessive ∧ first = soundChar 0xB4#8 ∧
        second = some (soundChar 0x2D#8) := by
  have hsecond : (second.any fun c => charGood c && decide (c.data = 0x2D#8)) = true ↔ second = some (soundChar 0x2D#8) := by
    cases second with
    | none => simp
    | some c => rw [Option.any_some, charGood_and_data, Option.some.injEq]
  have hfirst := charGood_and_data (c := first) 0xB4#8
  rw [opensFrame, Bool.and_assoc (decide _ && !d.line.stuck && _)]
  simp only [Bool.and_eq_true (_ && _ && _), Bool.and_eq_true (_ && _), hfirst, hsecond]
  simp [and_assoc]

/-- A recessive line ends no dominant run where this station's pulse holds the line, and judges nothing where no character waits. -/
theorem recessiveReaches_keeps {d : Device} (n : Nat) (h : pulsing d = false → d.line.rx ≠ .awaitingRun) :
    (recessiveReaches n d).line.rx = d.line.rx ∧ (recessiveReaches n d).line.counters = d.line.counters := by
  cases hp : pulsing d
  · simp [recessiveReaches_clear _ hp, judgeStopBit_of_not_waiting (h hp)]
  · simp [recessiveReaches_pulse _ hp]

/-- A mark or half mark leaves the counters as the recessive run before it leaves them, and the receiver in HEADER where it opens a
frame. -/
theorem receiveMark_receiver (recessive : Nat) (first : LineChar) (second : Option LineChar) (d : Device) :
    (receiveMark recessive first second d).line.counters = (measuredRecessive recessive d).line.counters ∧
    (receiveMark recessive first second d).line.beaconSlot = d.line.beaconSlot ∧
    (receiveMark recessive first second d).line.rx =
      if opensFrame recessive first second (measuredRecessive recessive d) then
        .header ⟨[], isSending .beacon d || isSending .reply d⟩
      else (measuredRecessive recessive d).line.rx := by
  cases second with
  | some c =>
    have e : receiveMark recessive first (some c) d = passedChars [c] (passedChars [first]
        (doIf (opensFrame recessive first (some c) (measuredRecessive recessive d))
          (setReceiver (.header ⟨[], isSending .beacon d || isSending .reply d⟩)) (measuredRecessive recessive d))) := rfl
    rw [e]
    simp [doIf_setReceiver_line]
  | none =>
    have hshut : opensFrame recessive first none (measuredRecessive recessive d) = false := by simp [opensFrame]
    have e : receiveMark recessive first none d = recessiveReaches 12 (passedChars [first] (measuredRecessive recessive d)) := by
      simp [receiveMark, doIf_false]
    have hkeeps := recessiveReaches_keeps (d := passedChars [first] (measuredRecessive recessive d)) 12 fun hp => by
      have hp' : pulsing d = false := by simpa using hp
      simp [measuredRecessive_line _ hp', judgeStopBit_not_waiting]
    rw [e, hshut]
    simp [hkeeps]

end Sys2Proof.Machine
end

section
/-! SUPPORT. A whole frame at the receiver: its header, payload and check characters, each as a sound transmitter sends it, and what
becomes of the frame they spell (R73, R75, R77 to R79). -/

namespace Sys2Proof.Machine

/-! ## Sound characters (R73, R77) -/

/-- The receiver after bytes that arrive as sound characters, before the runs their bits leave. -/
def assemble (bytes : List Byte) (d : Device) : Device := (bytes.map soundChar).foldl receiveChar d

theorem exec_frameReceived_sound {s : State} (bytes : List Byte) (hp : s.dev.control.powered = true) :
    exec (.frameReceived (bytes.map soundChar)) s =
      .next { s with dev := passedChars (bytes.map soundChar) (assemble bytes s.dev) } := completed_powered hp

theorem assemble_append (xs ys : List Byte) (d : Device) : assemble (xs ++ ys) d = assemble ys (assemble xs d) := by
  simp [assemble]

/-- A sound character joins a frame in assembly. -/
theorem assemble_cons {r : Receiver} (b : Byte) (bytes : List Byte) {d : Device} (hh : r ≠ .hunt) (hw : r ≠ .awaitingRun) :
    assemble (b :: bytes) (setReceiver r d) = assemble bytes (takeChar r b (setReceiver r d)) := by
  have hstep : receiveChar (setReceiver r d) (soundChar b) = takeChar r b (setReceiver r d) := by
    rw [receiveChar_assembling (d := setReceiver r d) hh hw, parityGood_soundChar]
    rfl
  simp [assemble, hstep]

/-! ## Header, payload and check (R75, R77) -/

theorem headerLength_append {bytes : List Byte} (h : 4 ≤ bytes.length) (more : List Byte) :
    headerLength (bytes ++ more) = headerLength bytes := by
  simp [headerLength, List.getElem?_append_left (show 3 < bytes.length from h)]

/-- Four header characters give the payload length, at most 160 (R75, R77). -/
theorem assemble_header (dest source kind n : Byte) (own : Bool) (d : Device) :
    assemble [dest, source, kind, n] (setReceiver (.header ⟨[], own⟩) d) =
      if 160 < n.toNat then dropForCheck d
      else if n.toNat = 0 then setReceiver (.check ⟨[dest, source, kind, n], own⟩) d
      else setReceiver (.payload ⟨[dest, source, kind, n], own⟩) d := by
  have hjoin : ∀ (bytes : List Byte) (b : Byte) (more : List Byte), bytes.length < 3 →
      assemble (b :: more) (setReceiver (.header ⟨bytes, own⟩) d) =
        assemble more (setReceiver (.header ⟨bytes ++ [b], own⟩) d) := by
    intro bytes b more h
    have hlt : (bytes ++ [b]).length < 4 := by
      rw [List.length_append, List.length_singleton]
      omega
    rw [assemble_cons b more (by simp) (by simp), takeChar, if_pos hlt]
    rfl
  rw [hjoin _ _ _ (by simp), hjoin _ _ _ (by simp), hjoin _ _ _ (by simp), assemble_cons _ _ (by simp) (by simp)]
  rfl

/-- The payload characters, up to the length the header gives (R77). -/
theorem assemble_payload {bytes payload : List Byte} (own : Bool) (d : Device) (hheader : 4 ≤ bytes.length) (hne : payload ≠ [])
    (hlen : bytes.length + payload.length = 4 + headerLength bytes) :
    assemble payload (setReceiver (.payload ⟨bytes, own⟩) d) = setReceiver (.check ⟨bytes ++ payload, own⟩) d := by
  induction payload generalizing bytes with
  | nil => exact absurd rfl hne
  | cons b payload ih =>
    have hlength : headerLength (bytes ++ [b]) = headerLength bytes := headerLength_append hheader _
    have hjoined : (bytes ++ [b]).length = bytes.length + 1 := by simp
    rw [List.length_cons] at hlen
    rw [assemble_cons b payload (by simp) (by simp), takeChar]
    dsimp only
    rw [hlength, hjoined]
    cases payload with
    | nil =>
      have hfull : ¬bytes.length + 1 < 4 + headerLength bytes := by
        simp only [List.length_nil] at hlen
        omega
      rw [if_neg hfull]
      rfl
    | cons c payload =>
      have hmore : bytes.length + 1 < 4 + headerLength bytes := by
        rw [List.length_cons] at hlen
        omega
      rw [if_pos hmore]
      have := ih (bytes := bytes ++ [b]) (by omega) (by simp) (by omega)
      rw [List.append_assoc] at this
      exact this

/-- The two check characters decide about the frame (R77). -/
theorem assemble_check {bytes : List Byte} (high low : Byte) (own : Bool) (d : Device)
    (hlen : bytes.length = 4 + headerLength bytes) :
    assemble [high, low] (setReceiver (.check ⟨bytes, own⟩) d) =
      if assembledSound (bytes ++ [high, low]) then goodFrame ⟨bytes ++ [high, low], own⟩ d else dropForCheck d := by
  have hheader : 4 ≤ bytes.length := by omega
  have hfirst : (bytes ++ [high]).length < 6 + headerLength (bytes ++ [high]) := by
    rw [headerLength_append hheader, List.length_append, List.length_singleton]
    omega
  have hsecond : ¬((bytes ++ [high]) ++ [low]).length < 6 + headerLength ((bytes ++ [high]) ++ [low]) := by
    rw [List.append_assoc, headerLength_append hheader]
    simp
    omega
  have happend : (bytes ++ [high]) ++ [low] = bytes ++ [high, low] := by simp
  calc assemble [high, low] (setReceiver (.check ⟨bytes, own⟩) d)
      = assemble [low] (setReceiver (.check ⟨bytes ++ [high], own⟩) d) := by
        rw [assemble_cons _ _ (by simp) (by simp), takeChar, if_pos hfirst]
        rfl
    _ = _ := by
        rw [assemble_cons _ _ (by simp) (by simp), takeChar]
        dsimp only
        rw [if_neg hsecond, happend]
        rfl

/-! ## The frame that a transmitter sends (R75) -/

theorem frameBody_eq (f : Frame) : frameBody f = [f.dest, f.source, f.kind, byte f.payload.length] ++ f.payload := rfl

theorem frameBody_length (f : Frame) : (frameBody f).length = 4 + f.payload.length := by
  simp [frameBody]
  omega

section
variable {f : Frame} (h : f.payload.length ≤ 160)
include h

theorem headerLength_frameBody (more : List Byte) : headerLength (frameBody f ++ more) = f.payload.length := by
  have hbyte : (byte f.payload.length).toNat = f.payload.length := by
    rw [byte, BitVec.toNat_ofNat]
    omega
  simpa [headerLength, frameBody] using hbyte

/-- Header and payload of a frame stand assembled, and its check is awaited. -/
theorem assemble_frameBody (own : Bool) (d : Device) :
    assemble (frameBody f) (setReceiver (.header ⟨[], own⟩) d) = setReceiver (.check ⟨frameBody f, own⟩) d := by
  have hlength : headerLength [f.dest, f.source, f.kind, byte f.payload.length] = f.payload.length := by
    rw [← headerLength_append (by simp) f.payload, ← frameBody_eq]
    simpa using headerLength_frameBody h []
  have hn : (byte f.payload.length).toNat = f.payload.length := hlength
  rw [frameBody_eq, assemble_append, assemble_header, if_neg (by omega), hn]
  by_cases hp : f.payload = []
  · simp [hp, assemble]
  · rw [if_neg (by simpa using hp)]
    exact assemble_payload own d (by simp) hp (by rw [hlength]; rfl)

/-- Assembled characters are sound exactly where the last two are the check of the rest (R75). -/
theorem assembledSound_frameBody (high low : Byte) :
    assembledSound (frameBody f ++ [high, low]) = true ↔ [high, low] = be16 (cyclicCheck (frameBody f)).toNat := by
  have hn : 4 + headerLength (frameBody f ++ [high, low]) = (frameBody f).length := by
    rw [headerLength_frameBody h, frameBody_length]
  have hspell : ofBytes [high, low] = high.toNat * 256 + low.toNat := by simp [ofBytes]
  rw [assembledSound, decide_eq_true_eq, hn, List.take_left, List.drop_left]
  constructor
  · intro hc
    rw [hc, hspell, be16]
    have hhigh : high = byte ((high.toNat * 256 + low.toNat) / 256) := by
      apply BitVec.eq_of_toNat_eq
      rw [byte, BitVec.toNat_ofNat]
      omega
    have hlow : low = byte (high.toNat * 256 + low.toNat) := by
      apply BitVec.eq_of_toNat_eq
      rw [byte, BitVec.toNat_ofNat]
      omega
    rw [← hhigh, ← hlow]
  · intro hc
    rw [hc, ofBytes_be16]

/-- The characters assembled spell the frame sent, field for field. -/
theorem assembledFrame_frameBody (more : List Byte) : assembledFrame (frameBody f ++ more) = f := by
  have hpayload : ((frameBody f ++ more).drop 4).take f.payload.length = f.payload := by simp [frameBody]
  rw [assembledFrame, headerLength_frameBody h, hpayload]
  rfl

/-- A frame with two check characters: a good frame, or dropped for its check (R77). -/
theorem assemble_frame {own : Bool} {d : Device} (hrx : d.line.rx = .header ⟨[], own⟩) (high low : Byte) :
    assemble (frameBody f ++ [high, low]) d =
      if [high, low] = be16 (cyclicCheck (frameBody f)).toNat then goodFrame ⟨frameBody f ++ [high, low], own⟩ d
      else dropForCheck d := by
  have hlen : (frameBody f).length = 4 + headerLength (frameBody f) := by
    rw [frameBody_length, ← headerLength_frameBody h [], List.append_nil]
  calc assemble (frameBody f ++ [high, low]) d
      = assemble (frameBody f ++ [high, low]) (setReceiver (.header ⟨[], own⟩) d) := by rw [setReceiver_self hrx]
    _ = assemble [high, low] (setReceiver (.check ⟨frameBody f, own⟩) d) := by
        rw [assemble_append, assemble_frameBody h]
    _ = _ := by
        rw [assemble_check high low own d hlen]
        simp only [assembledSound_frameBody h]

end

theorem frameArriving_eq (f : Frame) :
    frameArriving f = (frameBody f ++ be16 (cyclicCheck (frameBody f)).toNat).map soundChar := rfl

/-! ## What becomes of the frame (R77 to R79) -/

/-- The receiver is in HUNT, with slots and transmitter as they were. -/
def Assembled (d t : Device) : Prop :=
  t.line.rx = .hunt ∧ t.line.replySlot = d.line.replySlot ∧ t.line.beaconSlot = d.line.beaconSlot ∧ t.line.tx = d.line.tx

theorem passedChars_assembled {d t : Device} (chars : List LineChar) (h : Assembled d t) : Assembled d (passedChars chars t) := by
  simpa [Assembled] using h

/-- The receiver is in HUNT and one check error is counted; queue, slots and transmitter stand. -/
def CheckDropped (d t : Device) : Prop :=
  t.line.rx = .hunt ∧ t.line.replySlot = d.line.replySlot ∧ t.line.beaconSlot = d.line.beaconSlot ∧ t.line.tx = d.line.tx ∧
  t.line.queue = d.line.queue ∧
  t.line.counters = { d.line.counters with checkErrors := min (d.line.counters.checkErrors + 1) 65535 }

/-- A frame dropped for its check or its length stays dropped as its last bits pass. -/
theorem passedChars_dropForCheck (chars : List LineChar) (d : Device) :
    CheckDropped d (passedChars chars (dropForCheck d)) := by
  have h : CheckDropped d (dropForCheck d) := ⟨rfl, rfl, rfl, rfl, rfl, rfl⟩
  simpa [CheckDropped] using h

theorem goodFrame_assembled (a : Assembly) (d : Device) : Assembled d (goodFrame a d) := by
  have hhunt : Assembled d (setReceiver .hunt d) := ⟨rfl, rfl, rfl, rfl⟩
  unfold goodFrame enqueue
  dsimp only
  split
  · exact hhunt
  · split
    · split <;> exact hhunt
    · exact hhunt

section
variable {a : Assembly} {d : Device}

/-- This station's own frame is dropped and not counted (R78). -/
theorem goodFrame_own (h : a.own = true) : goodFrame a d = setReceiver .hunt d := by
  simp [goodFrame, h]

/-- Another node's good frame is counted, and dropped where it is not kept (R78, R90). -/
theorem goodFrame_unwanted (h : a.own = false) (hk : keeps d (assembledFrame a.bytes) = false) :
    goodFrame a d = count (fun c => { c with goodFrames := inc16 c.goodFrames }) (setReceiver .hunt d) := by
  have hk' : keeps (count (fun c => { c with goodFrames := inc16 c.goodFrames }) (setReceiver .hunt d))
      (assembledFrame a.bytes) = false := hk
  simp [goodFrame, h, hk']

/-- A kept one is counted and joins the receive queue (R78, R79). -/
theorem goodFrame_kept (h : a.own = false) (hk : keeps d (assembledFrame a.bytes) = true) :
    goodFrame a d = enqueue (assembledFrame a.bytes)
      (count (fun c => { c with goodFrames := inc16 c.goodFrames }) (setReceiver .hunt d)) := by
  have hk' : keeps (count (fun c => { c with goodFrames := inc16 c.goodFrames }) (setReceiver .hunt d))
      (assembledFrame a.bytes) = true := hk
  simp [goodFrame, h, hk']

end

theorem enqueue_room {f : Frame} {d : Device} (h : d.line.queue.length < 4) :
    enqueue f d = onLine (fun l => { l with queue := l.queue ++ [f] }) d := by
  rw [enqueue, if_pos h]

theorem enqueue_full {f : Frame} {d : Device} (h : 4 ≤ d.line.queue.length) :
    enqueue f d = count (fun c => { c with overruns := inc16 c.overruns }) d := by
  rw [enqueue, if_neg (Nat.not_lt.mpr h)]

theorem keeps_iff (d : Device) (f : Frame) :
    keeps d f = true ↔ f.kind = beaconKind ∨ f.dest.toNat = d.control.number ∨ f.dest = allNodes := by
  simp [keeps, or_assoc]

end Sys2Proof.Machine
end

section
/-! The statements about the head line, settled. -/

namespace Sys2Proof.Machine

/-- Settles O21: the characters by `assemble_frame` and `assemble_header`, the frame they spell by the cases of `goodFrame`. -/
theorem frameIsReceivedAsSent : Obligations.FrameIsReceivedAsSent := by
  unfold Obligations.FrameIsReceivedAsSent
  refine ⟨fun s f own hp hrx hlen => ⟨?_, fun high low hcheck => ?_⟩, fun s dest source kind n own hp hrx hn => ?_⟩
  · have hsound : assemble (frameBody f ++ be16 (cyclicCheck (frameBody f)).toNat) s.dev =
        goodFrame ⟨frameBody f ++ be16 (cyclicCheck (frameBody f)).toNat, own⟩ s.dev :=
      (assemble_frame hlen hrx _ _).trans (if_pos rfl)
    have hspelt := assembledFrame_frameBody hlen (be16 (cyclicCheck (frameBody f)).toNat)
    have hexec := exec_frameReceived_sound (frameBody f ++ be16 (cyclicCheck (frameBody f)).toNat) hp
    rw [← frameArriving_eq, hsound] at hexec
    generalize frameBody f ++ be16 (cyclicCheck (frameBody f)).toNat = bytes at hspelt hexec
    obtain ⟨hhunt, hreply, hbeacon, htx⟩ :=
      passedChars_assembled (frameArriving f) (goodFrame_assembled ⟨bytes, own⟩ s.dev)
    refine ⟨_, hexec, rfl, eq_with_line (by simp), hhunt, hreply, hbeacon, htx, fun hown => ?_, fun hown hkind hdest hall => ?_,
      fun hown hkept => ?_⟩
    · rw [goodFrame_own hown]
      simp [setReceiver]
    · have hk : keeps s.dev (assembledFrame bytes) = false := by
        rw [← Bool.not_eq_true, keeps_iff, hspelt]
        simp [hkind, hdest, hall]
      rw [goodFrame_unwanted hown hk]
      simp [count, setReceiver, inc16, satInc]
    · have hk : keeps s.dev (assembledFrame bytes) = true := by
        rw [keeps_iff, hspelt]
        exact hkept
      rw [goodFrame_kept hown hk, hspelt]
      refine ⟨fun hroom => ?_, fun hfull => ?_⟩
      · rw [enqueue_room (by simpa using hroom)]
        simp [count, setReceiver, inc16, satInc]
      · rw [enqueue_full (by simpa using hfull)]
        simp [count, setReceiver, inc16, satInc]
  · have hdropped := (assemble_frame hlen hrx high low).trans (if_neg hcheck)
    refine ⟨_, exec_frameReceived_sound _ hp, rfl, ?_⟩
    rw [hdropped]
    exact ⟨eq_with_line (by simp), passedChars_dropForCheck _ _⟩
  · have hdropped : assemble [dest, source, kind, n] s.dev = dropForCheck s.dev := by
      have hheader := assemble_header dest source kind n own s.dev
      rwa [setReceiver_self hrx, if_pos hn] at hheader
    refine ⟨_, exec_frameReceived_sound _ hp, rfl, ?_⟩
    rw [hdropped]
    exact ⟨eq_with_line (by simp), passedChars_dropForCheck _ _⟩

/-- Settles O22: a character and a gap by the cases of the receiver, the waiting stop bit by `judgeStopBit_of_waiting`, the mark by
`receiveMark_receiver` and `opensFrame_iff`. -/
theorem receiverOpensAndDiscardsFrames : Obligations.ReceiverOpensAndDiscardsFrames := by
  unfold Obligations.ReceiverOpensAndDiscardsFrames
  refine ⟨fun s c hp => ⟨fun waits hh hwaits => ⟨fun hno hstop hparity => ?_, fun hno hstop => ?_, fun hyes hrun => ?_⟩,
    fun hh hrun => ?_, fun hh hno => ?_, fun n hh hn => ?_, fun hh => ?_⟩,
    fun l => ⟨judgeStopBit_of_not_waiting, judgeStopBit_of_waiting⟩, fun s recessive first second hp => ?_⟩
  · have hw : s.dev.line.rx ≠ .awaitingRun := by simpa [hno] using hwaits
    have e : receiveChar s.dev c = dropForFraming s.dev := by simp [receiveChar_assembling hh hw, hstop, hparity]
    exact ⟨_, exec_frameReceived_char c hp, rfl, eq_with_line (by simp), e ▸ passedChars_dropped [c] (dropForFraming_dropped s.dev)⟩
  · have hw : s.dev.line.rx ≠ .awaitingRun := by simpa [hno] using hwaits
    have e : receiveChar s.dev c = setReceiver .awaitingRun s.dev := by simp [receiveChar_assembling hh hw, hstop]
    refine ⟨_, exec_frameReceived_char c hp, rfl, eq_with_line (by simp), ?_⟩
    rw [e]
    refine ⟨by simp [setReceiver], by simp [setReceiver], by simp, fun hnone => ?_⟩
    have hpulse : pulsing (setReceiver .awaitingRun s.dev) = false := pulsing_false hnone
    obtain ⟨hrecessive, hdominant⟩ := runBits_charBits c
      (l := { (setReceiver .awaitingRun s.dev).line with dominantRun := 0, ownPulse := false }) rfl
    have hends : ((charBits c).reverse.takeWhile id).length = 0 := by simp [charBits, hstop]
    rw [passedChars_line hpulse rfl]
    exact ⟨hrecessive.trans hends, hdominant.trans_le (charBits_run_le _ c), hdominant⟩
  · have hw : s.dev.line.rx = .awaitingRun := hwaits.mp hyes
    refine ⟨_, exec_frameReceived_char c hp, rfl, eq_with_line (by simp), ?_⟩
    rw [receiveChar_waiting hw]
    exact passedChars_dropped [c] (judgeStopBit_dropped hw hrun (by simp))
  · exact ⟨_, completed_powered hp, rfl, eq_with_line (by simp), receiveGap_dropped hh hrun⟩
  · exact (completed_powered hp).trans (by rw [receiveGap_hunt hh hno])
  · exact (completed_powered hp).trans (by rw [receiveGap_hunt_pulse hh hn])
  · refine ⟨_, exec_frameReceived_char c hp, rfl, eq_with_line (by simp), ?_⟩
    rw [receiveChar_hunt hh]
    simp [hh]
  · obtain ⟨hcounters, hbeacon, hrx⟩ := receiveMark_receiver recessive first second s.dev
    refine ⟨{ s with dev := receiveMark recessive first second s.dev }, completed_powered hp, rfl, eq_with_line (by simp),
      by simp, by simp, hbeacon, fun l hpulse hclear => ?_⟩
    have hl : (measuredRecessive recessive s.dev).line.rx = l.rx ∧
        (measuredRecessive recessive s.dev).line.counters = l.counters := by
      cases hp : pulsing s.dev
      · rw [measuredRecessive_line _ hp, hclear fun n hn => by simp [(pulsing_iff _).mpr ⟨n, hn⟩] at hp]
        exact ⟨rfl, rfl⟩
      · rw [measuredRecessive_pulse _ hp, hpulse ((pulsing_iff _).mp hp)]
        exact ⟨rfl, rfl⟩
    obtain ⟨hlrx, hlcounters⟩ := hl
    have hopens := opensFrame_iff (recessive := recessive) (first := first) (second := second)
      (d := measuredRecessive recessive s.dev)
    simp only [hlrx, measuredRecessive_frame] at hopens
    refine ⟨fun _ => hcounters.trans hlcounters, fun hh hstuck hlong hfirst hsecond => ?_, fun hno => ?_⟩
    · exact ⟨_, hrx.trans (if_pos (hopens.mpr ⟨hh, hstuck, hlong, hfirst, hsecond⟩))⟩
    · refine (hrx.trans (if_neg fun h => ?_)).trans hlrx
      obtain ⟨hh, hstuck, hlong, hfirst, hsecond⟩ := hopens.mp h
      obtain h | h | h | h | h := hno
      · exact h hh
      · simp [hstuck] at h
      · omega
      · exact h hfirst
      · exact h hsecond

/-- Settles O15: another node's hold by `lineHold_of_no_retract`, an own one by `detectHold_own`. -/
theorem detectedHoldVoidsThePick : Obligations.DetectedHoldVoidsThePick := by
  unfold Obligations.DetectedHoldVoidsThePick
  intro s hp
  refine ⟨fun hown hret => ?_, fun hown => ?_⟩
  · rw [exec_holdDetected hp, detectHold_others hown, lineHold_of_no_retract ((retracts_heardHold _).trans hret)]
    refine ⟨_, rfl, rfl, ?_⟩
    simp [heardHold, setFlag_eq, flagNumber, count, setReceiver, measuredDominant, onLine, inc16, satInc, hown]
  · rw [exec_holdDetected hp, detectHold_own hown]
    simp [setReceiver, measuredDominant, onLine, hown]

/-- Settles O23: the line stuck by `lineSticks_eq`, the line clear by whether it was STUCK and free of a pulse. -/
theorem lineSticksAndClears : Obligations.LineSticksAndClears := by
  unfold Obligations.LineSticksAndClears
  intro s hp
  refine ⟨?_, fun hstuck hno => ?_, fun n h => ?_⟩
  · exact (completed_powered hp).trans (by rw [lineSticks_eq])
  · exact (completed_powered hp).trans (by rw [lineClears_stuck hstuck hno])
  · exact (completed_powered hp).trans (by rw [lineClears_kept h])

/-- Settles O24: the start by `startFrame_cases`. -/
theorem frameStartTakesTheBeaconFirst : Obligations.FrameStartTakesTheBeaconFirst := by
  unfold Obligations.FrameStartTakesTheBeaconFirst
  intro s recessive hp hle
  have hcounters : s.dev.line.rx ≠ .awaitingRun → (judgeStopBit s.dev.line).counters = s.dev.line.counters := fun h => by
    rw [judgeStopBit_of_not_waiting h]
  have hrun : min recessive 1000 = recessive := Nat.min_eq_left hle
  obtain ⟨slot, f, hnext, hidle, hclear, hreached, e⟩ | ⟨hnone, e⟩ := startFrame_cases recessive s.dev
  · have hcount : (startedLine slot f (measuredRecessive recessive s.dev)).counters = (judgeStopBit s.dev.line).counters := by
      simp [startedLine, measuredRecessive_line recessive (pulsing_false (d := s.dev) (by simp [hidle]))]
    refine ⟨{ s with dev := { s.dev with line := startedLine slot f (measuredRecessive recessive s.dev) } },
      (completed_powered hp).trans (by rw [e]), rfl, rfl, by simp [startedLine], by simp [startedLine], by simp [startedLine],
      fun h => hcount.trans (hcounters h), fun _ => hcount, fun _ _ _ => ⟨fun x hx => ?_, fun x hb hx => ?_, fun _ => ?_⟩, ?_⟩
    · obtain ⟨rfl, rfl⟩ : SlotName.beacon = slot ∧ x.frame = f := by simpa [nextSlot_beacon hx] using hnext
      rfl
    · obtain ⟨rfl, rfl⟩ : SlotName.reply = slot ∧ x.frame = f := by simpa [nextSlot_reply hb hx] using hnext
      rfl
    · simp [startedLine, restWait]
    · rw [hrun] at hreached
      rintro (h | h | h | h)
      · exact absurd hidle h
      · simp [hclear] at h
      · omega
      · simp [nextSlot_eq_none.mpr h] at hnext
  · rw [hrun] at hnone
    obtain ⟨-, htx, -⟩ := measuredRecessive_keeps recessive s.dev
    have hjudged : s.dev.line.tx = .idle →
        (measuredRecessive recessive s.dev).line.counters = (judgeStopBit s.dev.line).counters := fun h => by
      rw [measuredRecessive_line _ (pulsing_false (by simp [h]))]
    have hkept : s.dev.line.rx ≠ .awaitingRun →
        (measuredRecessive recessive s.dev).line.counters = s.dev.line.counters := fun h => by
      cases hpulse : pulsing s.dev
      · rw [measuredRecessive_line _ hpulse, judgeStopBit_of_not_waiting h]
      · rw [measuredRecessive_pulse _ hpulse]
    refine ⟨{ s with dev := measuredRecessive recessive s.dev }, (completed_powered hp).trans (by rw [e]), rfl,
      eq_with_line (by simp), by simp, by simp, by simp, hkept, hjudged, fun hidle hclear hreached => ?_, fun _ => htx⟩
    have hnext : nextSlot s.dev = none := by
      obtain h | h | h | h := hnone
      · exact h
      · exact absurd hidle h
      · simp [hclear] at h
      · omega
    obtain ⟨hb, hr⟩ := nextSlot_eq_none.mp hnext
    simp [hb, hr]

/-- Settles O25: an abandoned attempt by `attemptAbandoned_stays` and `attemptAbandoned_discards`, a frame sent by
`frameSent_line`. -/
theorem transmissionEndsAsItsSlotGives : Obligations.TransmissionEndsAsItsSlotGives := by
  unfold Obligations.TransmissionEndsAsItsSlotGives
  refine ⟨fun s slot chars x hp htx hx hreset => ?_, fun s slot chars hp htx hreset => ?_⟩
  · by_cases hn : x.attempts < 7
    · refine ⟨{ s with dev := { s.dev with line := abandonedLine slot s.dev } },
        (completed_powered hp).trans (by rw [attemptAbandoned_stays htx hx hn]), rfl, rfl, rfl, rfl, rfl, rfl,
        fun _ => ⟨?_, rfl⟩, fun h => absurd hn (Nat.not_lt.mpr h), rfl, rfl, rfl, ?_, ?_⟩
      · rw [slotOf_abandonedLine, hx]
        rfl
      · rintro rfl; rfl
      · rintro rfl; rfl
    · refine ⟨{ s with dev := { s.dev with line := discardedLine slot s.dev } },
        (completed_powered hp).trans (by rw [attemptAbandoned_discards htx hx (Nat.not_lt.mp hn) hreset]), rfl, rfl, rfl, rfl,
        rfl, rfl, fun h => absurd h hn, fun _ => ⟨?_, rfl⟩, rfl, rfl, rfl, ?_, ?_⟩
      · cases slot <;> rfl
      · rintro rfl; rfl
      · rintro rfl; rfl
  · refine ⟨{ s with dev := { s.dev with line := sentLine slot chars s.dev } },
      (completed_powered hp).trans (by rw [frameSent_line htx hreset]), rfl, rfl, ?_, ?_⟩
    · rintro rfl
      exact ⟨rfl, rfl, rfl⟩
    · rintro rfl
      exact ⟨rfl, rfl, rfl⟩

/-- Settles O28. -/
theorem unansweredFramesAreDiscarded : Obligations.UnansweredFramesAreDiscarded := by
  unfold Obligations.UnansweredFramesAreDiscarded
  have hdiscard : ∀ {s : State}, s.dev.control.powered = true →
      exec .frameDiscarded s = .next { s with dev := discardFrame s.dev } := fun hp => completed_powered hp
  refine ⟨fun s hp => ⟨fun hr => ?_, fun hq => ?_, fun hr f rest hq => ?_⟩, fun r arm p s hn h hr => ?_⟩
  · rw [hdiscard hp, discardFrame_waiting hr]
  · rw [hdiscard hp, discardFrame_empty hq]
  · rw [hdiscard hp, ← popQueue_of_cons hq]
    refine ⟨fun hk => ?_, fun hk hno => ?_, fun hlo hhi hs hd => ?_, fun hlo hhi hs hd => ?_⟩
    · rw [discardFrame_beacon hq hk]
    · rw [discardFrame_head hr hq hk, discardHead_no_request (by rwa [isRequestKind_iff, and_assoc])]
    · have hk := (isRequestKind_iff f.kind).mpr ⟨hlo, hhi⟩
      rw [discardFrame_head hr hq (isRequestKind_ne_beaconKind hk), discardHead_broadcast hk hs hd, ← broadcastActs_iff]
      refine ⟨fun ha => ?_, fun ha => ?_⟩
      · rw [ha]; rfl
      · rw [Bool.not_eq_true] at ha
        rw [ha]; rfl
    · have hk := (isRequestKind_iff f.kind).mpr ⟨hlo, hhi⟩
      rw [discardFrame_head hr hq (isRequestKind_ne_beaconKind hk), discardHead_addressed hk hs hd, ← replyTaken_iff]
      refine ⟨fun ht => ?_, fun hslot hcompletion => ?_⟩
      · rw [ht, doIf_true, dropRequest_popQueue, hq]
        rfl
      · simp [replyTaken, hslot, hcompletion, doIf_false]
  · rw [exec_request_dropped arm hn h ((replyTaken_iff _).mpr hr), dropRequest_popQueue]
    rfl

end Sys2Proof.Machine
end

section
/-! SUPPORT. The rival position with the most voters, and the piece count rebuilt from its low 16 bits (R105, R107, R108). -/

namespace Sys2Proof.Machine

/-! ## The first of the largest -/

/-- Of two candidates the later one is taken only where it weighs more. -/
def heavier {β : Type} (w : β → Nat) (best : Option β) (x : β) : Option β :=
  match best with
  | none => some x
  | some b => if w b < w x then some x else some b

/-- Among the elements of a list that satisfy `q` the fold finds the first of the heaviest, or none where no element does. -/
theorem foldl_heavier {α β : Type} (w : β → Nat) (q : α → Bool) (g : α → β) (l : List α) :
    (((l.filter q).map g).foldl (heavier w) none = none ∧ ∀ y ∈ l, q y = false) ∨
    ∃ before x after, l = before ++ x :: after ∧ q x = true ∧
      ((l.filter q).map g).foldl (heavier w) none = some (g x) ∧
      (∀ y ∈ before, q y = true → w (g y) < w (g x)) ∧ ∀ y ∈ after, q y = true → w (g y) ≤ w (g x) := by
  induction l using List.reverseRecOn with
  | nil => simp
  | append_singleton l z ih =>
    cases hz : q z with
    | false =>
      have hsame : (l ++ [z]).filter q = l.filter q := by simp [hz]
      rw [hsame]
      obtain ⟨hnone, hall⟩ | ⟨before, x, after, rfl, hx, hfold, hbefore, hafter⟩ := ih
      · exact .inl ⟨hnone, by simpa [or_imp, forall_and, hz] using hall⟩
      · refine .inr ⟨before, x, after ++ [z], by simp, hx, hfold, hbefore, fun y hy hq => ?_⟩
        obtain hy | rfl := by simpa using hy
        · exact hafter y hy hq
        · simp [hz] at hq
    | true =>
      have hstep : (((l ++ [z]).filter q).map g).foldl (heavier w) none =
          heavier w (((l.filter q).map g).foldl (heavier w) none) (g z) := by
        simp [List.filter_append, hz]
      rw [hstep]
      obtain ⟨hnone, hall⟩ | ⟨before, x, after, rfl, hx, hfold, hbefore, hafter⟩ := ih
      · exact .inr ⟨l, z, [], rfl, hz, by rw [hnone, heavier], fun y hy hq => by simp [hall y hy] at hq, by simp⟩
      · rw [hfold, heavier]
        by_cases hlt : w (g x) < w (g z)
        · rw [if_pos hlt]
          refine .inr ⟨before ++ x :: after, z, [], rfl, hz, rfl, fun y hy hq => ?_, by simp⟩
          obtain hy | rfl | hy := by simpa using hy
          · exact (hbefore y hy hq).trans hlt
          · exact hlt
          · exact (hafter y hy hq).trans_lt hlt
        · rw [if_neg hlt]
          refine .inr ⟨before, x, after ++ [z], by simp, hx, rfl, hbefore, fun y hy hq => ?_⟩
          obtain hy | rfl := by simpa using hy
          · exact hafter y hy hq
          · exact Nat.le_of_not_lt hlt

/-! ## The rivals of a station (R105, R107) -/

/-- Whether a peer votes for another position than the station's own. -/
def isRival (d : Device) (e : RosterEntry) : Bool := votes e && decide (e.pos ≠ ownBeaconPos d)

theorem isRival_iff (d : Device) (e : RosterEntry) : isRival d e = true ↔ votes e = true ∧ e.pos ≠ ownBeaconPos d := by
  simp [isRival]

theorem bestRival_eq (d : Device) :
    bestRival d = ((d.roster.entries.filter (isRival d)).map (·.pos)).foldl (heavier (votesFor d)) none := by
  unfold bestRival
  congr 1
  funext best p
  cases best <;> rfl

/-- The best rival is the first one whose position no rival's outnumbers, and every one before it has fewer voters. -/
theorem bestRival_cases (d : Device) :
    (bestRival d = none ∧ ∀ e ∈ d.roster.entries, isRival d e = false) ∨
    ∃ before x after, d.roster.entries = before ++ x :: after ∧ isRival d x = true ∧ bestRival d = some x.pos ∧
      (∀ y ∈ before, isRival d y = true → votesFor d y.pos < votesFor d x.pos) ∧
      ∀ y ∈ d.roster.entries, isRival d y = true → votesFor d y.pos ≤ votesFor d x.pos := by
  rw [bestRival_eq]
  obtain h | ⟨before, x, after, hl, hx, hfold, hbefore, hafter⟩ :=
    foldl_heavier (votesFor d) (isRival d) (·.pos) d.roster.entries
  · exact .inl h
  · refine .inr ⟨before, x, after, hl, hx, hfold, hbefore, fun y hy hq => ?_⟩
    obtain hy | rfl | hy := by simpa [hl] using hy
    · exact (hbefore y hy hq).le
    · exact le_rfl
    · exact hafter y hy hq

theorem outvotedBy_eq_some_iff (d : Device) (p : BeaconPos) :
    outvotedBy d = some p ↔ bestRival d = some p ∧ ownVotes d < votesFor d p := by
  simp [outvotedBy, Option.filter_eq_some_iff]

/-- A station is outvoted where some rival position has more voters than its own. -/
theorem outvotedBy_isSome_iff (d : Device) :
    (outvotedBy d).isSome = true ↔ ∃ e ∈ d.roster.entries, isRival d e = true ∧ ownVotes d < votesFor d e.pos := by
  simp only [Option.isSome_iff_exists, outvotedBy_eq_some_iff]
  obtain ⟨hnone, hall⟩ | ⟨before, x, after, hl, hx, hbest, -, hmost⟩ := bestRival_cases d
  · simp only [hnone, reduceCtorEq, false_and, exists_false, false_iff]
    rintro ⟨e, he, hrival, -⟩
    simp [hall e he] at hrival
  · rw [hbest]
    constructor
    · rintro ⟨p, hp, hlt⟩
      obtain rfl := Option.some.inj hp
      exact ⟨x, by simp [hl], hx, hlt⟩
    · rintro ⟨e, he, hrival, hlt⟩
      exact ⟨x.pos, rfl, hlt.trans_le (hmost e he hrival)⟩

/-! ## The piece count nearest to the own one (R108) -/

theorem rebuildPiece_nearest {low own : Nat} (hlow : low < 65536) (hown : own < 16777216) :
    rebuildPiece low own % 65536 = low ∧ rebuildPiece low own < 16777216 ∧
    ((rebuildPiece low own + 16777216 - own) % 16777216 < 32768 ∨
      (own + 16777216 - rebuildPiece low own) % 16777216 ≤ 32768) := by
  unfold rebuildPiece
  dsimp only
  split <;> omega

end Sys2Proof.Machine
end

section
/-! SUPPORT. A beacon taken from the receive queue: the entry its fields make, its place in the roster (R99, R100, R103). -/

namespace Sys2Proof.Machine

/-! ## The fields of a beacon (R100) -/

theorem stateOfCode_eq_some {n : Nat} {st : StationState} (h : stateOfCode n = some st) : stateCode st = n := by
  unfold stateOfCode at h
  split at h <;> cases h <;> rfl

theorem stateCode_le (st : StationState) : stateCode st ≤ 6 := by
  cases st <;> decide

theorem stateOfCode_eq_none {n : Nat} (h : stateOfCode n = none) : 6 < n := by
  by_contra hle
  have hle : n ≤ 6 := Nat.le_of_not_lt hle
  interval_cases n <;> cases h

/-- The payload has another length than 16 bytes, or a field out of the ranges of R100 step 3. -/
def badBeacon (p : List Byte) : Prop :=
  p.length ≠ 16 ∨ 6 < fieldAt p 0 1 ∨ 1 < fieldAt p 1 1 ∨ 63 < fieldAt p 3 1 ∨ fieldAt p 4 2 = 0 ∨ 4095 < fieldAt p 4 2 ∨
    16383 < fieldAt p 6 2 ∨ (7 < fieldAt p 14 1 ∧ fieldAt p 14 1 ≠ 15) ∨
    (fieldAt p 1 1 = 0 ∧ fieldAt p 12 2 ∉ [256, 512, 768, 1024]) ∨ (fieldAt p 1 1 = 1 ∧ fieldAt p 12 2 ≠ 0) ∨
    fieldAt p 12 2 < fieldAt p 10 2

/-- The entry of the fields of a sound payload. -/
def entryOf (station : Nat) (role : Role) (st : StationState) (p : List Byte) : RosterEntry :=
  ⟨station, role, st, ⟨fieldAt p 3 1, fieldAt p 4 2, fieldAt p 6 2, fieldAt p 8 2⟩, fieldAt p 10 2, fieldAt p 12 2,
    fieldAt p 14 1, false, 0, false⟩

/-- A beacon makes no entry where its payload is bad, and otherwise the entry of its fields (R100). -/
theorem beaconEntry_cases (station : Nat) (p : List Byte) :
    (beaconEntry station p = none ∧ badBeacon p) ∨
    (¬badBeacon p ∧ ∃ role st, beaconEntry station p = some (entryOf station role st p) ∧
      stateCode st = fieldAt p 0 1 ∧ roleCode role = fieldAt p 1 1) := by
  unfold beaconEntry badBeacon
  simp only [List.mem_cons, List.not_mem_nil, or_false]
  split
  · next hlen => exact .inl ⟨rfl, .inl hlen⟩
  · next hlen =>
    split
    · next st hst hrole =>
      have hcode := stateOfCode_eq_some hst
      have hle := stateCode_le st
      split
      · next hfields => exact .inr ⟨by omega, .sectionRole, st, rfl, hcode, hrole.symm⟩
      · next hfields => exact .inl ⟨rfl, by omega⟩
    · next st hst hrole =>
      have hcode := stateOfCode_eq_some hst
      have hle := stateCode_le st
      split
      · next hfields => exact .inr ⟨by omega, .weftRole, st, rfl, hcode, hrole.symm⟩
      · next hfields => exact .inl ⟨rfl, by omega⟩
    · next hsection hweft =>
      refine .inl ⟨rfl, ?_⟩
      cases hst : stateOfCode (fieldAt p 0 1) with
      | none => exact .inr (.inl (stateOfCode_eq_none hst))
      | some st =>
        have hnotSection : fieldAt p 1 1 ≠ 0 := hsection st hst
        have hnotWeft : fieldAt p 1 1 ≠ 1 := hweft st hst
        omega

/-! ## An entry put into the roster (R99, R100) -/

section
variable {heard : Bool} {e x : RosterEntry} {l : List RosterEntry}

/-- The entry put stands in the roster; its heard mark and its misses may be those of a known peer. -/
theorem exists_mem_putEntry (heard : Bool) (e : RosterEntry) (l : List RosterEntry) :
    ∃ x ∈ putEntry heard e l, x = { e with heard := x.heard, misses := x.misses } ∧ (heard = true → x.heard = true) := by
  induction l with
  | nil => exact ⟨{ e with heard := heard }, by simp [putEntry], rfl, id⟩
  | cons y ys ih =>
    simp only [putEntry]
    split
    · exact ⟨{ e with heard := heard }, by simp, rfl, id⟩
    · split
      · exact ⟨_, List.mem_cons_self, rfl, fun h => by simp [h]⟩
      · obtain ⟨x, hx, hentry⟩ := ih
        exact ⟨x, List.mem_cons_of_mem _ hx, hentry⟩

/-- The entries of other stations are those that stood. -/
theorem mem_putEntry_other (h : x.station ≠ e.station) : x ∈ putEntry heard e l ↔ x ∈ l := by
  have hne : ∀ b m, x ≠ { e with heard := b, misses := m } := fun b m hx => h (by rw [hx])
  induction l with
  | nil => simpa [putEntry] using hne heard e.misses
  | cons y ys ih =>
    simp only [putEntry]
    split
    · rw [List.mem_cons, or_iff_right (hne heard e.misses)]
    · split
      · next heq =>
        have hy : x ≠ y := fun hx => h (by rw [hx, heq])
        simp [hne, hy]
      · simp [ih]

/-- The entry of a peer that had none is the new one (R100). -/
theorem putEntry_new (hnew : ∀ y ∈ l, y.station ≠ e.station) (hx : x ∈ putEntry heard e l) (hs : x.station = e.station) :
    x = { e with heard := heard } := by
  induction l with
  | nil => simpa [putEntry] using hx
  | cons y ys ih =>
    have hy := hnew y List.mem_cons_self
    simp only [putEntry, if_neg hy.symm] at hx
    split at hx
    · obtain hx | hx := List.mem_cons.mp hx
      · exact hx
      · exact absurd hs (hnew x hx)
    · obtain rfl | hx := List.mem_cons.mp hx
      · exact absurd hs hy
      · exact ih (fun z hz => hnew z (List.mem_cons_of_mem _ hz)) hx

/-- In a roster in order a known peer keeps its misses, and its heard mark where the beacon does not set it (R100). -/
theorem putEntry_known {y : RosterEntry} (hrising : (l.map (·.station)).Pairwise (· < ·)) (hy : y ∈ l)
    (hys : y.station = e.station) (hx : x ∈ putEntry heard e l) (hs : x.station = e.station) :
    x.misses = y.misses ∧ x.heard = (heard || y.heard) := by
  induction l with
  | nil => cases hy
  | cons z zs ih =>
    obtain ⟨hfirst, hrest⟩ := List.pairwise_cons.mp hrising
    have hlater : ∀ {w}, w ∈ zs → z.station < w.station := fun hw => hfirst _ (List.mem_map_of_mem hw)
    simp only [putEntry] at hx
    obtain rfl | hy := List.mem_cons.mp hy
    · rw [if_neg (by omega), if_pos hys.symm] at hx
      obtain rfl | hx := List.mem_cons.mp hx
      · exact ⟨rfl, rfl⟩
      · have := hlater hx
        omega
    · have := hlater hy
      rw [if_neg (by omega), if_neg (by omega)] at hx
      obtain rfl | hx := List.mem_cons.mp hx
      · omega
      · exact ih hrest hy hx

end

/-! ## The beacon at the head of the receive queue (R79, R100, R101) -/

section
variable {d : Device} {f : Frame} {rest : List Frame} (hq : d.line.queue = f :: rest) (hf : f.kind = beaconKind)
include hq hf

theorem takeBeaconFrame_own (hlow : f.source.toNat ≤ 31) (hown : f.source.toNat = d.control.number) :
    takeBeaconFrame d = duplicateFound (popQueue d) := by
  simp [takeBeaconFrame, popQueue_of_cons hq, hq, hf, onLine, Nat.not_lt.mpr hlow, ← hown]

theorem takeBeaconFrame_sound {e : RosterEntry} (hlow : f.source.toNat ≤ 31) (hother : f.source.toNat ≠ d.control.number)
    (he : beaconEntry f.source.toNat f.payload = some e) :
    takeBeaconFrame d = takeBeacon e (popQueue d) := by
  simp [takeBeaconFrame, popQueue_of_cons hq, hq, hf, onLine, Nat.not_lt.mpr hlow, hother, he]

theorem takeBeaconFrame_unused (h : 31 < f.source.toNat ∨
    (f.source.toNat ≠ d.control.number ∧ beaconEntry f.source.toNat f.payload = none)) :
    takeBeaconFrame d = popQueue d := by
  obtain hfar | ⟨hother, hnone⟩ := h
  · simp [takeBeaconFrame, popQueue_of_cons hq, hq, hf, onLine, hfar]
  · simp [takeBeaconFrame, popQueue_of_cons hq, hq, hf, onLine, hother, hnone]

end

/-- Nothing but the roster's entries and STRAY PEER changes (R100, R103). -/
theorem takeBeacon_eq (e : RosterEntry) (d : Device) :
    takeBeacon e d = { d with
      roster := { d.roster with
        entries := putEntry (decide (d.control.state = .weave) && d.roster.windowOpen) e d.roster.entries }
      control := { d.control with
        flags := if e.state = .weave then d.control.flags else d.control.flags ||| BitVec.twoPow 30 19 } } := by
  by_cases h : e.state = .weave <;> simp [takeBeacon, h, doIf, setFlag_eq, onRoster, inWeave, flagNumber]

theorem exec_beaconTaken {s : State} (hp : s.dev.control.powered = true) :
    exec .beaconTaken s = .next { s with dev := takeBeaconFrame s.dev } := completed_powered hp

/-! ## The station enters FAULT (R91, R92, R101) -/

theorem discardBeacon_pulse {late : Bool} {d : Device} {n : Nat} (h : d.line.tx = .pulse n) :
    (discardBeacon late d).line.tx = .pulse n := by
  unfold discardBeacon
  split
  · exact h
  · cases late <;> simp [isSending, h, doIf, count]

theorem leaveWeave_tx (d : Device) : (leaveWeave d).line.tx = (discardBeacon false d).line.tx := by
  have hline : (leaveWeave d).line = (beaconIdle (discardBeacon false d)).line := by simp [leaveWeave]
  rw [hline]
  rfl

/-- What every entry into FAULT does after the station state has been left (R92, R128). -/
def faulted (d : Device) : Device :=
  onLine (fun l => { l with accessWait := 1000 }) (powerOff (stringsLeave (discardBeacon false (setState .fault d))))

theorem faulted_strings (d : Device) :
    (faulted d).strings.strings =
      d.strings.strings.map fun s => { s with chain := .resting, drive := .off, echo := false } := by
  simp [faulted, powerOff_strings, stringsLeave, restAll, mapAllStrings, unpowered, losesSelection]

theorem faulted_blocks (d : Device) :
    (faulted d).control = { d.control with state := .fault } ∧ (faulted d).strings.power = .off ∧
    (faulted d).line.beaconSlot = none ∧ (faulted d).line.accessWait = 1000 ∧ (faulted d).weft = d.weft ∧
    (faulted d).trainer = d.trainer := by
  refine ⟨?_, rfl, discardBeacon_slot false (setState .fault d), rfl, ?_, ?_⟩ <;> simp [faulted, setState]

theorem faulted_pulse {d : Device} {n : Nat} (h : d.line.tx = .pulse n) : (faulted d).line.tx = .pulse n :=
  discardBeacon_pulse (d := setState .fault d) h

theorem enterFault_weave {d : Device} (h : d.control.state = .weave) : enterFault d = faulted (leaveWeave d) := by
  simp [enterFault, h, faulted]

theorem enterFault_train {d : Device} (h : d.control.state = .train) : enterFault d = faulted (abandonTraining d) := by
  simp [enterFault, h, faulted]

/-- Whatever the station state left, a pulse under way goes on and no flag is cleared. -/
theorem enterFault_eq (d : Device) :
    ∃ x, enterFault d = faulted x ∧ (∀ n, d.line.tx = .pulse n → x.line.tx = .pulse n) ∧
      ∀ f, flagOf f d.control = true → flagOf f x.control = true := by
  refine ⟨_, rfl, fun n hn => ?_, fun f hf => ?_⟩
  · split
    · exact (leaveWeave_tx d).trans (discardBeacon_pulse hn)
    · simpa using hn
    · simpa [abandonTraining, trainerIdle] using hn
    · exact hn
  · split
    · simpa using hf
    · simpa using hf
    · simp [abandonTraining, trainerIdle, hf]
    · exact hf

theorem abandonTraining_blocks (d : Device) :
    (abandonTraining d).trainer = { d.trainer with phase := .idle, timer := 0 } ∧
    flagOf .trainAbandoned (abandonTraining d).control = true ∧
    (abandonTraining d).strings.strings = d.strings.strings.map fun s => { s with chain := .resting, drive := .off } := by
  refine ⟨by simp [abandonTraining, trainerIdle], by simp [abandonTraining], ?_⟩
  simp [abandonTraining, trainerIdle, restAll, mapAllStrings]

/-! ## A beacon of the station's own number (R101) -/

theorem duplicateFound_kept {d : Device} (h : d.control.state = .dormant ∨ d.control.state = .fault) :
    duplicateFound d = setFlag .duplicateStation d := by
  unfold duplicateFound
  rcases h with h | h <;> simp [h]

/-- In the other station states the station asks for a pulse and enters FAULT. -/
theorem duplicateFound_faults {d : Device} (hdormant : d.control.state ≠ .dormant) (hfault : d.control.state ≠ .fault) :
    duplicateFound d = enterFault (requestPulse (setFlag .duplicateStation d)) := by
  unfold duplicateFound
  cases h : d.control.state <;> simp_all

theorem duplicateFound_flag (d : Device) : flagOf .duplicateStation (duplicateFound d).control = true := by
  by_cases h : d.control.state = .dormant ∨ d.control.state = .fault
  · simp [duplicateFound_kept h]
  · obtain ⟨hdormant, hfault⟩ := not_or.mp h
    rw [duplicateFound_faults hdormant hfault]
    obtain ⟨x, he, -, hflags⟩ := enterFault_eq (requestPulse (setFlag .duplicateStation d))
    obtain ⟨hcontrol, -⟩ := faulted_blocks x
    rw [he, hcontrol]
    exact hflags .duplicateStation (by simp)

section
variable {d : Device} (hdormant : d.control.state ≠ .dormant) (hfault : d.control.state ≠ .fault)
include hdormant hfault

theorem duplicateFound_blocks :
    (duplicateFound d).control.state = .fault ∧ (duplicateFound d).strings.power = .off ∧
    ((duplicateFound d).strings.strings.all fun x => decide (x.drive = .off)) = true ∧
    (duplicateFound d).line.beaconSlot = none ∧ (duplicateFound d).line.accessWait = 1000 := by
  rw [duplicateFound_faults hdormant hfault]
  obtain ⟨x, he, -⟩ := enterFault_eq (requestPulse (setFlag .duplicateStation d))
  obtain ⟨hcontrol, hpower, hslot, hwait, -⟩ := faulted_blocks x
  rw [he]
  exact ⟨by rw [hcontrol], hpower, by simp [faulted_strings], hslot, hwait⟩

theorem duplicateFound_pulse (h : d.line.stuck = false) : ∃ n, (duplicateFound d).line.tx = .pulse n := by
  obtain ⟨⟨n, hn⟩, -⟩ := requestPulse_clear (d := setFlag .duplicateStation d) (by simpa using h)
  rw [duplicateFound_faults hdormant hfault]
  obtain ⟨x, he, hpulse, -⟩ := enterFault_eq (requestPulse (setFlag .duplicateStation d))
  exact ⟨n, by rw [he]; exact faulted_pulse (hpulse n hn)⟩

end

theorem duplicateFound_weave {d : Device} (h : d.control.state = .weave) : (duplicateFound d).weft.output = none := by
  rw [duplicateFound_faults (by simp [h]) (by simp [h]), enterFault_weave (by simpa using h)]
  obtain ⟨-, -, -, -, hweft, -⟩ := faulted_blocks (leaveWeave (requestPulse (setFlag .duplicateStation d)))
  rw [hweft]
  rfl

/-- In TRAIN the run is abandoned; results and latencies stay as it has left them (R148). -/
theorem duplicateFound_train {d : Device} (h : d.control.state = .train) :
    flagOf .trainAbandoned (duplicateFound d).control = true ∧
    (duplicateFound d).trainer = { d.trainer with phase := .idle, timer := 0 } ∧
    (duplicateFound d).strings.strings =
      d.strings.strings.map fun s => { s with chain := .resting, drive := .off, echo := false } := by
  rw [duplicateFound_faults (by simp [h]) (by simp [h]), enterFault_train (by simpa using h)]
  obtain ⟨hcontrol, -, -, -, -, htrainer⟩ :=
    faulted_blocks (abandonTraining (requestPulse (setFlag .duplicateStation d)))
  obtain ⟨hidle, hflag, hstrings⟩ := abandonTraining_blocks (requestPulse (setFlag .duplicateStation d))
  refine ⟨?_, ?_, ?_⟩
  · rw [hcontrol]
    exact hflag
  · simp [htrainer, hidle]
  · simp [faulted_strings, hstrings]

end Sys2Proof.Machine
end

section
/-! SUPPORT. The beacon built and placed in its slot, and the one discarded from it (R82, R95, R96). -/

namespace Sys2Proof.Machine

/-! ## The unsent beacon (R82) -/

/-- A beacon discarded late leaves its slot and is counted; a transmission of it ends (R82). -/
theorem discardBeacon_late (d : Device) :
    (discardBeacon true d).line.counters = { d.line.counters with
      beaconsLate := if d.line.beaconSlot = none then d.line.counters.beaconsLate
        else min (d.line.counters.beaconsLate + 1) 65535 } ∧
    (discardBeacon true d).line.beaconDue = d.line.beaconDue ∧
    (d.line.beaconSlot ≠ none → ∀ chars, (discardBeacon true d).line.tx ≠ .sending .beacon chars) := by
  unfold discardBeacon
  split
  · next hslot => exact ⟨by rw [if_pos hslot], rfl, fun h => absurd hslot h⟩
  · next hslot =>
    rw [if_neg (by simp [hslot])]
    cases hsending : isSending .beacon d with
    | true => exact ⟨rfl, rfl, fun _ _ => nofun⟩
    | false =>
      refine ⟨rfl, rfl, fun _ chars htx => ?_⟩
      have htx : d.line.tx = .sending .beacon chars := htx
      simp [isSending, htx] at hsending

/-! ## The frame (R96) -/

/-- The beacon of a configured station, field by field (R96, beacon layout of 5.9). -/
def beaconOfFields (number : Nat) (c : Configuration) (d : Device) : Frame :=
  ⟨63#8, byte number, 0xA1#8,
    [3#8, byte (if d.control.role = .sectionRole then 0 else 1),
      byte ((if d.control.flags &&& d.control.mask = 0#30 then 0 else 1)
        + (if d.control.role = .sectionRole ∧ d.strings.faults ≠ [] then 2 else 0)
        + (if d.seq.void then 4 else 0)), byte d.seq.pos.run]
      ++ be16 d.seq.pos.iteration ++ be16 d.seq.pos.row ++ be16 (d.seq.pos.piece % 65536)
      ++ be16 (if d.control.role = .sectionRole then d.seq.pickLift.getD 0 else 0)
      ++ be16 (if d.control.role = .sectionRole then c.capacity else 0)
      ++ [byte (recordedWeft d),
        if d.control.role = .weftRole then byte ((chosenFinger d.weft.choice).getD 255) else 0xFF#8]⟩

theorem beaconFrame_eq {d : Device} {c : Configuration} (hc : d.control.config = some c) :
    beaconFrame d = beaconOfFields d.control.number c d := by
  have hnotice : bit (noticePending d) 0 = if d.control.flags &&& d.control.mask = 0#30 then 0 else 1 := by
    by_cases h : d.control.flags &&& d.control.mask = 0#30 <;> simp [bit, noticePending, h]
  have hvoid : bit d.seq.void 2 = if d.seq.void then 4 else 0 := rfl
  cases hrole : d.control.role with
  | sectionRole =>
    have hfaults : bit (!d.strings.faults.isEmpty) 1 = if d.strings.faults ≠ [] then 2 else 0 := by
      cases d.strings.faults <;> rfl
    simp [beaconFrame, beaconPayload, beaconOfFields, hnotice, hvoid, hfaults, isSection, isWeft, capacityOf, hrole, hc,
      roleCode, stateCode, byte, allNodes, beaconKind]
  | weftRole =>
    have hfaults : bit false 1 = 0 := rfl
    simp [beaconFrame, beaconPayload, beaconOfFields, hnotice, hvoid, hfaults, isSection, isWeft, capacityOf, hrole, hc,
      roleCode, stateCode, byte, allNodes, beaconKind, fingerCode]

/-! ## The beacon built (R82, R95) -/

/-- From `d` to `t` the beacon of the fields as they stand has been built, and an unsent one replaced. -/
structure BeaconBuilt (d t : Device) : Prop where
  line : t = { d with line := t.line }
  slot : t.line.beaconSlot = some ⟨beaconFrame d, 0⟩
  due : t.line.beaconDue = .built
  reply : t.line.replySlot = d.line.replySlot
  queue : t.line.queue = d.line.queue
  counters : t.line.counters = { d.line.counters with
    beaconsLate := if d.line.beaconSlot = none then d.line.counters.beaconsLate
      else min (d.line.counters.beaconsLate + 1) 65535 }
  stopped : d.line.beaconSlot ≠ none → ∀ chars, t.line.tx ≠ .sending .beacon chars

/-- Building changes the line alone, so the frame in the slot is that of the fields as they stand after it. -/
theorem BeaconBuilt.slot_fields {d t : Device} {c : Configuration} (h : BeaconBuilt d t) (hc : d.control.config = some c) :
    t.line.beaconSlot = some ⟨beaconOfFields d.control.number c t, 0⟩ := by
  have hframe : beaconFrame d = beaconOfFields d.control.number c t := by
    rw [beaconFrame_eq hc, h.line]
    rfl
  rw [h.slot, hframe]

/-- What is built over a line on which only the due state differs is built over the line as it stood. -/
theorem BeaconBuilt.of_due {d t : Device} {x : BeaconDue} (h : BeaconBuilt (onLine (fun l => { l with beaconDue := x }) d) t) :
    BeaconBuilt d t :=
  ⟨h.line, h.slot, h.due, h.reply, h.queue, h.counters, h.stopped⟩

theorem buildBeacon_both {d : Device} (h : d.line.beaconDue = .due true true) : BeaconBuilt d (buildBeacon d) := by
  obtain ⟨hcounters, -, hstopped⟩ := discardBeacon_late d
  have hbuilt : buildBeacon d = onLine (fun l => { l with beaconDue := .built }) (placeBeacon (beaconFrame d) d) := by
    rw [buildBeacon, h]
  refine ⟨eq_with_line (by simp), ?_, ?_, by simp, by simp, ?_, ?_⟩ <;> rw [hbuilt]
  · rfl
  · rfl
  · exact hcounters
  · exact hstopped

theorem beaconRowReady_built {d : Device} {r : Bool} (h : d.line.beaconDue = .due r true) :
    BeaconBuilt d (beaconRowReady d) := by
  unfold beaconRowReady
  rw [h]
  exact (buildBeacon_both rfl).of_due

theorem beaconGuardPassed_built {d : Device} {g : Bool} (h : d.line.beaconDue = .due true g) :
    BeaconBuilt d (beaconGuardPassed d) := by
  unfold beaconGuardPassed
  rw [h]
  exact (buildBeacon_both rfl).of_due

/-- The forward G-end crossing sets the guard-passed mark of a beacon that is due, and builds it where its row is ready (R95). -/
theorem beaconGuardPassed_cases (d : Device) :
    ((d.line.beaconDue = .idle ∨ d.line.beaconDue = .built) ∧ beaconGuardPassed d = d) ∨
    (∃ g, d.line.beaconDue = .due false g ∧ beaconGuardPassed d = { d with line := { d.line with beaconDue := .due false true } }) ∨
    ∃ g, d.line.beaconDue = .due true g ∧ BeaconBuilt d (beaconGuardPassed d) := by
  cases h : d.line.beaconDue with
  | idle => exact .inl ⟨.inl rfl, by rw [beaconGuardPassed, h]⟩
  | built => exact .inl ⟨.inr rfl, by rw [beaconGuardPassed, h]⟩
  | due r g =>
    cases r with
    | false => exact .inr (.inl ⟨g, rfl, by rw [beaconGuardPassed, h]; rfl⟩)
    | true => exact .inr (.inr ⟨g, rfl, beaconGuardPassed_built h⟩)

/-! ## The completion of a PICK fetch, up to its report to the line (R66, R68) -/

theorem takeFault_onlyHolds (d : Device) (f : FaultEntry) : OnlyHolds d (takeFault d f) := by
  have hfound := setFlag_onlyHolds (f := .selectorFault) (by decide) (by decide) d
  have hlisted (g : StringDriver → StringDriver) (x : Device) : OnlyHolds x (onStrings g x) := .of_eq rfl rfl rfl
  unfold takeFault
  dsimp only
  split
  · exact hfound.trans (hlisted _ _)
  · split
    · exact hfound.trans (hlisted _ _)
    · refine (hfound.trans (hlisted _ _)).trans (setFlag_onlyHolds ?_ ?_ _) <;> decide

theorem takeFaults_onlyHolds (fs : List FaultEntry) (d : Device) : OnlyHolds d (takeFaults fs d) := by
  have htaken : ∀ d, OnlyHolds d (fs.foldl takeFault d) := by
    induction fs with
    | nil => exact fun d => .of_eq rfl rfl rfl
    | cons f fs ih => exact fun d => (takeFault_onlyHolds d f).trans (ih _)
  exact (htaken d).trans (doIf_onlyHolds _ (ownHold_onlyHolds _))

theorem shiftAll_onlyHolds (field : Nat → StringBits) (d : Device) : OnlyHolds d (shiftAll field d) := by
  have hshifted : OnlyHolds d
      (mapStrings (fun i s => { s with echo := false, shiftReg := field i, pattern := true }) d) := .of_eq rfl rfl rfl
  refine (hshifted.trans (takeFaults_onlyHolds (compareAll d) _)).trans (.of_eq ?_ ?_ ?_) <;> simp [shiftAll, fireWaiting]

theorem weftCodeArrives_onlyHolds (k : Nat) (d : Device) : OnlyHolds d (weftCodeArrives k d) := by
  unfold weftCodeArrives
  split
  · refine (chooseFinger_onlyHolds k d).trans (doIf_onlyHolds _ (.of_eq ?_ ?_ ?_)) <;> simp
  · exact .of_eq rfl rfl rfl

theorem handRow_onlyHolds (weft : Nat) (field : List Byte) (d : Device) : OnlyHolds d (handRow weft field d) := by
  unfold handRow
  split
  · exact shiftAll_onlyHolds _ d
  · exact weftCodeArrives_onlyHolds weft d

/-- From `a` to `b` the line changes by no more than a pulse begun. -/
def LineHolds (a b : Line) : Prop :=
  b = { a with tx := b.tx, rx := b.rx, recessiveRun := b.recessiveRun, halfBit := b.halfBit, ownPulse := b.ownPulse }

theorem LineHolds.trans {a b c : Line} (h₁ : LineHolds a b) (h₂ : LineHolds b c) : LineHolds a c := by
  unfold LineHolds at *
  rw [h₂, h₁]

/-- The completed fetch of a forward pick ends with its report to the line; before it the line at most begins a pulse, for the
holds of a damaged row, of selector faults and of a stopped feeder. -/
theorem fetchCompletes_reports {d : Device} {row e : Nat} {o : Option Nat}
    (hf : d.store.fetch = .fetching row (.pick false o) e) :
    ∃ x, fetchCompletes [] d = beaconRowReady x ∧ LineHolds d.line x.line ∧ x.control.number = d.control.number ∧
      x.control.config = d.control.config := by
  rw [fetchCompletes_pick hf]
  split
  · refine ⟨_, rfl, ?_, by simp, by simp⟩
    exact (handRow_onlyHolds _ _ (soundHanded row o (readRow d row) d)).line
  · refine ⟨_, rfl, ?_, ?_, ?_⟩
    · refine LineHolds.trans ?_ (handRow_onlyHolds _ _ _).line
      split <;> exact (ownHold_onlyHolds (markDamaged row d)).line
    · split <;> simp
    · split <;> simp

end Sys2Proof.Machine
end

section
/-! SUPPORT. A forward counting step onto a configured angle: what the lapse before it leaves of the line, and which crossings it
raises (R1, R6, R7, R74, R77, R171). -/

namespace Sys2Proof.Machine

/-! ## A lapse judges no more than a waiting stop bit (R74, R77) -/

/-- From `a` to `b` the counters change by no more than one framing error, that of a character whose stop bit waits. -/
structure OnlyJudges (a b : Line) : Prop where
  counters : b.counters = { a.counters with parityFraming := b.counters.parityFraming }
  heard : a.rx ≠ .awaitingRun → b.rx = a.rx ∧ b.counters = a.counters

theorem OnlyJudges.of_eq {a b : Line} (hrx : b.rx = a.rx) (hcounters : b.counters = a.counters) : OnlyJudges a b :=
  ⟨by rw [hcounters], fun _ => ⟨hrx, hcounters⟩⟩

theorem OnlyJudges.trans {a b c : Line} (h₁ : OnlyJudges a b) (h₂ : OnlyJudges b c) : OnlyJudges a c := by
  refine ⟨by rw [h₂.counters, h₁.counters], fun h => ?_⟩
  obtain ⟨hrx, hcounters⟩ := h₁.heard h
  obtain ⟨hrx', hcounters'⟩ := h₂.heard (hrx ▸ h)
  exact ⟨hrx'.trans hrx, hcounters'.trans hcounters⟩

theorem judgeStopBit_onlyJudges (l : Line) : OnlyJudges l (judgeStopBit l) := by
  obtain ⟨-, e⟩ | ⟨hwaits, -, e⟩ | ⟨hwaits, -, e⟩ := judgeStopBit_cases l <;> rw [e]
  · exact .of_eq rfl rfl
  · exact ⟨rfl, fun h => absurd hwaits h⟩
  · exact ⟨rfl, fun h => absurd hwaits h⟩

theorem measureRun_onlyJudges (l : Line) (r : LineRun) : OnlyJudges l (measureRun l r) := by
  unfold measureRun
  split
  · split <;> exact .of_eq rfl rfl
  · split
    · exact .of_eq rfl rfl
    · exact (judgeStopBit_onlyJudges l).trans (.of_eq rfl rfl)

theorem measureRuns_onlyJudges (rs : List LineRun) (l : Line) : OnlyJudges l (measureRuns rs l) := by
  induction rs generalizing l with
  | nil => exact .of_eq rfl rfl
  | cons r rs ih => exact (measureRun_onlyJudges l r).trans (ih _)

theorem sendBits_onlyJudges (bits : List Bool) (n : Nat) (others : List LineRun) (l : Line) :
    OnlyJudges l (sendBits bits n others l) := by
  induction bits generalizing n others l with
  | nil =>
    cases n with
    | zero => exact .of_eq rfl rfl
    | succ n => exact measureRuns_onlyJudges _ _
  | cons b bits ih =>
    cases n with
    | zero => exact .of_eq rfl rfl
    | succ n =>
      simp only [sendBits]
      split
      · have hheld : OnlyJudges l { l with held := true } := .of_eq rfl rfl
        exact hheld.trans (measureRuns_onlyJudges _ _)
      · have hcounted (m : Line) : OnlyJudges m { m with sentBits := m.sentBits + 1 } := .of_eq rfl rfl
        exact ((measureRun_onlyJudges l _).trans (hcounted _)).trans (ih _ _ _)

theorem measureLine_onlyJudges (n pulse : Nat) (others : List LineRun) (l : Line) :
    OnlyJudges l (measureLine n pulse others l) := by
  unfold measureLine
  split
  · exact measureRuns_onlyJudges _ _
  · exact measureRuns_onlyJudges _ _
  · split
    · exact measureRuns_onlyJudges _ _
    · exact sendBits_onlyJudges _ _ _ _

/-- What a step's lapse leaves of the line: slots, queue and due state as they were, a waiting stop bit judged (R77). -/
theorem steppedOnto_line (dir : Direction) (dt : Lapse) (sense : List StringBits) (d : Device) :
    OnlyJudges d.line (steppedOnto dir dt sense d).line ∧
    (steppedOnto dir dt sense d).line.beaconSlot = d.line.beaconSlot ∧
    (steppedOnto dir dt sense d).line.beaconDue = d.line.beaconDue ∧
    (steppedOnto dir dt sense d).line.replySlot = d.line.replySlot ∧
    (steppedOnto dir dt sense d).line.queue = d.line.queue := by
  have hpass : (pass dt d).line = (elapse dt.ticks dt.line d).line := by
    unfold pass
    dsimp only
    split <;> rfl
  have hline : (steppedOnto dir dt sense d).line =
      { elapseRuns dt.ticks dt.line d.line with tx := elapseTx dt.ticks d.line.tx } := by
    rw [← elapse_line dt.ticks dt.line d, ← hpass]
    simp [steppedOnto, beforeStep]
  rw [hline]
  refine ⟨?_, by simp, by simp, by simp, by simp⟩
  exact (measureLine_onlyJudges _ (pulseBits dt.ticks d.line) dt.line d.line).trans (.of_eq rfl rfl)

@[simp] theorem steppedOnto_number (dir : Direction) (dt : Lapse) (sense : List StringBits) (d : Device) :
    (steppedOnto dir dt sense d).control.number = d.control.number := by
  simp [steppedOnto, atCrossing, stepHanded]

@[simp] theorem steppedOnto_mem (dir : Direction) (dt : Lapse) (sense : List StringBits) (d : Device) :
    (steppedOnto dir dt sense d).store.mem = d.store.mem := by
  simp [steppedOnto]

/-! ## The crossings of one angle (R6, R7, R171) -/

/-- Arcs that together stay short of a revolution add up. -/
theorem arc_add {x y z : Nat} (h : arc x y + arc y z < 4096) : arc x z = arc x y + arc y z := by
  simp only [arc_eq] at *
  omega

theorem arc_self (x : Nat) : arc x x = 0 := by
  rw [arc_eq]
  omega

theorem arc_guardEnd {c : Configuration} (h : c.g ≤ 256) : arc c.b (guardEnd c) = c.g := by
  rw [arc_eq, guardEnd]
  omega

theorem ne_of_arc_lt {b x y : Nat} (h : arc b x < arc b y) : x ≠ y := by
  rintro rfl
  exact absurd h (Nat.lt_irrefl _)

/-- The angles of the section role going forward from B, G-end before C (R171 step 4). -/
theorem section_angles_rise {c : Configuration} (h : soundConfig .sectionRole c = true) :
    c.g ≤ 256 ∧ c.g < arc c.b c.c ∧ arc c.b c.c < arc c.b c.w ∧ arc c.b c.w < arc c.b c.k ∧ arc c.b c.k < arc c.b c.d := by
  simp only [soundConfig, anglesInOrder, neighbourArcs, roleAngles, Bool.and_eq_true, decide_eq_true_eq, List.all_cons,
    List.drop, List.take, List.zipWith, List.sum_cons, List.sum_nil, List.cons_append, List.nil_append] at h
  have hw : arc c.b c.w = arc c.b c.c + arc c.c c.w := arc_add (by omega)
  have hk : arc c.b c.k = arc c.b c.w + arc c.w c.k := arc_add (by omega)
  have hd : arc c.b c.d = arc c.b c.k + arc c.k c.d := arc_add (by omega)
  omega

/-- The angles of the weft role going forward from B, G-end before Fa (R171 step 4). -/
theorem weft_angles_rise {c : Configuration} (h : soundConfig .weftRole c = true) :
    c.g ≤ 256 ∧ c.g < arc c.b c.fa ∧ arc c.b c.fa < arc c.b c.ao ∧ arc c.b c.ao < arc c.b c.ac := by
  simp only [soundConfig, anglesInOrder, neighbourArcs, roleAngles, Bool.and_eq_true, decide_eq_true_eq, List.all_cons,
    List.drop, List.take, List.zipWith, List.sum_cons, List.sum_nil, List.cons_append, List.nil_append] at h
  have hao : arc c.b c.ao = arc c.b c.fa + arc c.fa c.ao := arc_add (by omega)
  have hac : arc c.b c.ac = arc c.b c.ao + arc c.ao c.ac := arc_add (by omega)
  omega

/-- In the section role no other configured angle lies at G-end, where G is above 0, and none but C at C. -/
theorem section_angles_apart {c : Configuration} (h : soundConfig .sectionRole c = true) :
    guardEnd c ≠ c.c ∧ guardEnd c ≠ c.w ∧ guardEnd c ≠ c.k ∧ guardEnd c ≠ c.d ∧
    c.c ≠ c.b ∧ c.c ≠ c.w ∧ c.c ≠ c.k ∧ c.c ≠ c.d := by
  obtain ⟨hg, hc, hw, hk, hd⟩ := section_angles_rise h
  have hend := arc_guardEnd hg
  have hb := arc_self c.b
  refine ⟨?_, ?_, ?_, ?_, Ne.symm ?_, ?_, ?_, ?_⟩ <;> apply ne_of_arc_lt (b := c.b) <;> omega

theorem weft_angles_apart {c : Configuration} (h : soundConfig .weftRole c = true) :
    guardEnd c ≠ c.fa ∧ guardEnd c ≠ c.ao ∧ guardEnd c ≠ c.ac ∧ c.fa ≠ c.b ∧ c.fa ≠ c.ao ∧ c.fa ≠ c.ac := by
  obtain ⟨hg, hfa, hao, hac⟩ := weft_angles_rise h
  have hend := arc_guardEnd hg
  have hb := arc_self c.b
  refine ⟨?_, ?_, ?_, Ne.symm ?_, ?_, ?_⟩ <;> apply ne_of_arc_lt (b := c.b) <;> omega

theorem forwardCrossings_at_guardEnd {role : Role} {c : Configuration} (h : soundConfig role c = true) (hg : c.g ≠ 0)
    (d : Device) : forwardCrossings c role (guardEnd c) d = forwardGuardEnd d := by
  have hb : guardEnd c ≠ c.b := by
    have := guardEnd_at_b h
    simpa [hg, eq_comm] using this
  unfold forwardCrossings
  cases role with
  | sectionRole =>
    obtain ⟨hc, hw, hk, hd, -⟩ := section_angles_apart h
    simp [hb, hc, hw, hk, hd, doIf_true, doIf_false]
  | weftRole =>
    obtain ⟨hfa, hao, hac, -⟩ := weft_angles_apart h
    simp [hb, hfa, hao, hac, doIf_true, doIf_false]

theorem forwardCrossings_at_c {c : Configuration} (h : soundConfig .sectionRole c = true) (d : Device) :
    forwardCrossings c .sectionRole c.c d = rosterClose d := by
  obtain ⟨hguard, -, -, -, hb, hw, hk, hd⟩ := section_angles_apart h
  simp [forwardCrossings, hguard.symm, hb, hw, hk, hd, doIf_true, doIf_false]

theorem forwardCrossings_at_fa {c : Configuration} (h : soundConfig .weftRole c = true) (d : Device) :
    forwardCrossings c .weftRole c.fa d = forwardFa d := by
  obtain ⟨hguard, -, -, hb, hao, hac⟩ := weft_angles_apart h
  simp [forwardCrossings, hguard.symm, hb, hao, hac, doIf_true, doIf_false]

/-! ## The step -/

theorem referencedBy_iff (c : Configuration) (d : Device) :
    referencedBy c d = true ↔ d.control.powered = true ∧ d.control.config = some c ∧ soundConfig d.control.role c = true ∧
      d.tracker.referenced = true ∧ d.tracker.indexDist.natAbs < 8255 := by
  simp [referencedBy, and_assoc]

theorem stepPhase_of_directionOf {p q : BitVec 2} {dir : Direction} (h : directionOf p q = some dir) : q = stepPhase dir p := by
  unfold directionOf at h
  split at h
  · next hq => cases h; exact hq
  · split at h
    · next hq => cases h; exact hq
    · cases h

/-- A forward step of a referenced station onto an angle ends with the crossings of that angle (R5, R6). -/
theorem exec_forward_onto {a b : Bool} (dt : Lapse) (sense : List StringBits) {s : State} {c : Configuration} {x : Nat}
    (hr : referencedBy c s.dev = true) (hs : stepsOnto .forward a b x s.dev = true) :
    exec (.countingStep a b false dt sense) s =
      .next { s with dev := forwardCrossings c s.dev.control.role x (steppedOnto .forward dt sense s.dev) } := by
  obtain ⟨hp, hc, -, href, hindex⟩ := (referencedBy_iff c s.dev).mp hr
  simp only [stepsOnto, Bool.and_eq_true, decide_eq_true_eq] at hs
  obtain ⟨hdir, hangle⟩ := hs
  have hdist : (stepDistance .forward (beforeStep dt sense s.dev).tracker).natAbs < 8256 := by
    simp only [stepDistance, beforeStep_tracker, elapseTracker_frame, href, if_true]
    omega
  rw [exec_countingStep hp (stepPhase_of_directionOf hdir),
    takeStep_crossings (c := c) (by simpa using hc) (by simpa using href) hdist]
  simp [crossingsOf, steppedOnto, hangle]

theorem exec_fetchComplete {upset : List Host.Cell} {s : State} (hp : s.dev.control.powered = true) :
    exec (.fetchComplete upset) s = .next { s with dev := fetchCompletes upset s.dev } := completed_powered hp

end Sys2Proof.Machine
end

section
/-! SUPPORT. The agreement judgement (R105, R107, R108): when a station is outvoted, and what the judgement leaves. -/

namespace Sys2Proof.Machine

/-! ## What the votes depend on (R102, R105) -/

/-- The misses counted at a close change no vote: a peer that was heard is not missed. -/
theorem countMiss_votes (e : RosterEntry) : votes (countMiss e) = votes e ∧ (countMiss e).pos = e.pos := by
  refine ⟨?_, rfl⟩
  cases h : e.heard <;> simp [votes, countMiss, h]

/-- The majority position depends on the own position and on the votes, peer by peer. -/
theorem outvotedBy_congr {d t : Device} {f : RosterEntry → RosterEntry} (hpos : t.seq.pos = d.seq.pos)
    (hentries : t.roster.entries = d.roster.entries.map f) (hf : ∀ e, votes (f e) = votes e ∧ (f e).pos = e.pos) :
    outvotedBy t = outvotedBy d := by
  have hown : ownBeaconPos t = ownBeaconPos d := by simp [ownBeaconPos, hpos]
  have hvotes : votesFor t = votesFor d := by
    funext p
    simp [votesFor, hentries, List.filter_map, Function.comp_def, hf]
  have hbest : bestRival t = bestRival d := by
    simp [bestRival, hown, hvotes, hentries, List.filter_map, Function.comp_def, hf]
  unfold outvotedBy ownVotes
  rw [hown, hvotes, hbest]

theorem countMisses_entries (d : Device) : (countMisses d).roster.entries = d.roster.entries.map countMiss := rfl

theorem countMisses_roster (d : Device) :
    (countMisses d).roster = { d.roster with entries := d.roster.entries.map countMiss } := rfl

/-- The misses of one peer at a close (R102). -/
theorem countMiss_eq (e : RosterEntry) :
    countMiss e = { e with
      misses := if e.heard then 0 else min (e.misses + 1) 255
      lapsed := e.lapsed || (!e.heard && decide (15 ≤ e.misses)) } := by
  cases h : e.heard
  · simp [countMiss, satInc, h]
  · simp [countMiss, h]

/-! ## The judgement, case by case (R107, R108) -/

theorem judgeAgreement_agrees {d : Device} (h : outvotedBy d = none) : judgeAgreement d = setMinority false d := by
  simp [judgeAgreement, h]

section
variable {d : Device} {p : BeaconPos} (h : outvotedBy d = some p)
include h

theorem judgeAgreement_first (hm : d.roster.minority = false) :
    judgeAgreement d = setMinority true (setFlag .disagree d) := by
  simp [judgeAgreement, h, hm]

theorem judgeAgreement_adopts (hm : d.roster.minority = true) (hv : validPosition d.seq.runs (rebuildPosition d p) = true) :
    judgeAgreement d = setMinority false (ownHold (setFlag .realigned (adoptPosition (rebuildPosition d p) d))) := by
  simp [judgeAgreement, h, hm, realign, hv]

theorem judgeAgreement_invalid (hm : d.roster.minority = true) (hv : validPosition d.seq.runs (rebuildPosition d p) = false) :
    judgeAgreement d = ownHold (setFlag .disagree d) := by
  simp [judgeAgreement, h, hm, realign, hv]

end

theorem judgeAgreement_cases (d : Device) :
    judgeAgreement d = setMinority false d ∨ judgeAgreement d = setMinority true (setFlag .disagree d) ∨
    (∃ q, judgeAgreement d = setMinority false (ownHold (setFlag .realigned (adoptPosition q d)))) ∨
    judgeAgreement d = ownHold (setFlag .disagree d) := by
  cases h : outvotedBy d with
  | none => exact .inl (judgeAgreement_agrees h)
  | some p =>
    cases hm : d.roster.minority with
    | false => exact .inr (.inl (judgeAgreement_first h hm))
    | true =>
      cases hv : validPosition d.seq.runs (rebuildPosition d p) with
      | true => exact .inr (.inr (.inl ⟨_, judgeAgreement_adopts h hm hv⟩))
      | false => exact .inr (.inr (.inr (judgeAgreement_invalid h hm hv)))

/-- The judgement changes the minority mark alone of the roster, begins at most a pulse on the line, and keeps the pick's row. -/
theorem judgeAgreement_kept (d : Device) :
    (judgeAgreement d).roster = { d.roster with minority := (judgeAgreement d).roster.minority } ∧
    LineHolds d.line (judgeAgreement d).line ∧
    (judgeAgreement d).seq.pickLift = d.seq.pickLift ∧ (judgeAgreement d).seq.pickWeft = d.seq.pickWeft := by
  obtain e | e | ⟨q, e⟩ | e := judgeAgreement_cases d <;> rw [e]
  · exact ⟨rfl, rfl, rfl, rfl⟩
  · exact ⟨rfl, rfl, rfl, rfl⟩
  · refine ⟨by simp [setMinority], (ownHold_onlyHolds (setFlag .realigned (adoptPosition q d))).line, ?_, ?_⟩ <;>
      simp [ownHold_seq, adoptPosition]
  · refine ⟨by simp, (ownHold_onlyHolds (setFlag .disagree d)).line, ?_, ?_⟩ <;> simp [ownHold_seq]

/-- What the judgement of a station `d` with configuration `c` leaves at `t` (R107, R108). -/
structure Judged (c : Configuration) (d t : Device) : Prop where
  agrees : outvotedBy d = none → t.roster.minority = false ∧ t.seq.pos = d.seq.pos ∧ t.seq.history = d.seq.history
  first : ∀ p, outvotedBy d = some p → d.roster.minority = false →
    t.roster.minority = true ∧ flagOf .disagree t.control = true ∧ t.seq.pos = d.seq.pos ∧ t.seq.history = d.seq.history
  second : ∀ p q, outvotedBy d = some p → d.roster.minority = true →
    q = ⟨p.run, p.iteration, p.row, rebuildPiece p.pieceLow d.seq.pos.piece⟩ →
    t.seq.void = true ∧
    (validPosition d.seq.runs q = true → t.roster.minority = false ∧ flagOf .realigned t.control = true ∧
      t.seq.pos = q ∧ t.seq.history = [] ∧ t.seq.guardOpen = false ∧
      t.control.writes = d.control.writes ++ [recordOf q c.identity]) ∧
    (validPosition d.seq.runs q = false → t.roster.minority = true ∧ flagOf .disagree t.control = true ∧
      t.seq.pos = d.seq.pos ∧ t.seq.history = d.seq.history)

theorem judgeAgreement_judged {c : Configuration} {d : Device} (hweave : d.control.state = .weave)
    (hc : d.control.config = some c) : Judged c d (judgeAgreement d) := by
  refine ⟨fun h => ?_, fun p h hm => ?_, ?_⟩
  · rw [judgeAgreement_agrees h]
    exact ⟨rfl, rfl, rfl⟩
  · rw [judgeAgreement_first h hm]
    exact ⟨rfl, by simp, rfl, rfl⟩
  · rintro p _ h hm rfl
    have hvoid : (judgeAgreement d).seq.void = true := by
      cases hv : validPosition d.seq.runs (rebuildPosition d p) with
      | true => simp [judgeAgreement_adopts h hm hv, ownHold_seq, hweave]
      | false => simp [judgeAgreement_invalid h hm hv, ownHold_seq, hweave]
    refine ⟨hvoid, fun hv => ?_, fun hv => ?_⟩
    · rw [judgeAgreement_adopts h hm hv]
      have hraises := (ownHold_onlyHolds (setFlag .realigned (adoptPosition (rebuildPosition d p) d))).control
      refine ⟨rfl, ?_, ?_, ?_, ?_, ?_⟩
      · exact hraises.stays .realigned (by simp)
      · simp [adoptPosition, rebuildPosition]
      · simp [adoptPosition]
      · simp [ownHold_seq, adoptPosition]
      · refine hraises.writes.trans ?_
        simp [setFlag_control, adoptPosition, writeRetained_control, hc, rebuildPosition]
    · rw [judgeAgreement_invalid h hm hv]
      exact ⟨by simpa using hm, by simp, by simp, by simp⟩

/-- What follows the judgement and does no more than a hold can, with the minority mark as it was, keeps what it left. -/
theorem Judged.holds {c : Configuration} {d x t : Device} (h : Judged c d x) (ht : OnlyHolds x t)
    (hm : t.roster.minority = x.roster.minority) : Judged c d t := by
  have hpos : t.seq.pos = x.seq.pos := (congrArg Sequencer.pos ht.seq :)
  have hhistory : t.seq.history = x.seq.history := (congrArg Sequencer.history ht.seq :)
  have hguard : t.seq.guardOpen = x.seq.guardOpen := (congrArg Sequencer.guardOpen ht.seq :)
  refine ⟨fun hno => ?_, fun p hp hfirst => ?_, fun p q hp hsecond hq => ?_⟩ <;> rw [hm, hpos, hhistory]
  · exact h.agrees hno
  · obtain ⟨hmark, hflag, hkept⟩ := h.first p hp hfirst
    exact ⟨hmark, ht.control.stays _ hflag, hkept⟩
  · obtain ⟨hvoid, hvalid, hinvalid⟩ := h.second p q hp hsecond hq
    refine ⟨ht.voids hvoid, fun hv => ?_, fun hv => ?_⟩
    · obtain ⟨hmark, hflag, hadopted, hempty, hclosed, hrecord⟩ := hvalid hv
      exact ⟨hmark, ht.control.stays _ hflag, hadopted, hempty, hguard.trans hclosed, ht.control.writes.trans hrecord⟩
    · obtain ⟨hmark, hflag, hkept⟩ := hinvalid hv
      exact ⟨hmark, ht.control.stays _ hflag, hkept⟩

/-- The judgement is that of every station with the same votes, programme, position and history. -/
theorem Judged.of_found {c : Configuration} {d x t : Device} (h : Judged c x t) (hvotes : outvotedBy x = outvotedBy d)
    (hm : x.roster.minority = d.roster.minority) (hpos : x.seq.pos = d.seq.pos) (hhistory : x.seq.history = d.seq.history)
    (hruns : x.seq.runs = d.seq.runs) (hwrites : x.control.writes = d.control.writes) : Judged c d t := by
  obtain ⟨hagrees, hfirst, hsecond⟩ := h
  simp only [hvotes, hm, hpos, hhistory, hruns, hwrites] at *
  exact ⟨hagrees, hfirst, hsecond⟩

end Sys2Proof.Machine
end

section
/-! SUPPORT. The close of the pick (R82, R97, R98, R102, R104, R106, R109), and the station that its step finds. -/

namespace Sys2Proof.Machine

/-! ## Flags of the fire timer and the speed state -/

/-- No other flags change than those that a computation of the fire timer or a change of speed state sets (R10, R118). -/
def OnlyFiringFlags (a b : Control) : Prop :=
  ∀ f, f ≠ .overspeed → f ≠ .crowded → f ≠ .fast → flagOf f b = flagOf f a

theorem OnlyFiringFlags.of_eq {a b : Control} (h : b = a) : OnlyFiringFlags a b := fun _ _ _ _ => by rw [h]

theorem OnlyFiringFlags.trans {a b c : Control} (h₁ : OnlyFiringFlags a b) (h₂ : OnlyFiringFlags b c) : OnlyFiringFlags a c :=
  fun f ho hc hf => (h₂ f ho hc hf).trans (h₁ f ho hc hf)

theorem doIf_onlyFiringFlags (c : Bool) {f : Device → Device} {d : Device} (h : OnlyFiringFlags d.control (f d).control) :
    OnlyFiringFlags d.control (doIf c f d).control := by
  cases c
  · exact .of_eq rfl
  · exact h

theorem computeStrings_onlyFiringFlags (c : Configuration) (held : Bool) (d : Device) :
    OnlyFiringFlags d.control (computeStrings c held d).control := by
  intro f ho hc _
  have hcrowded := doIf_flagOf_of_forall (f := f) (g := setFlag .crowded) (by simp [hc])
  have hoverspeed := doIf_flagOf_of_forall (f := f) (g := setFlag .overspeed) (by simp [ho])
  simp [computeStrings, hcrowded, hoverspeed]

theorem recompute_onlyFiringFlags (c : Configuration) (d : Device) : OnlyFiringFlags d.control (recompute c d).control :=
  (computeStrings_onlyFiringFlags c false d).trans (.of_eq (by simp [recompute]))

theorem fireLeavesFast_onlyFiringFlags (d : Device) : OnlyFiringFlags d.control (fireLeavesFast d).control := by
  unfold fireLeavesFast
  split
  · split
    · exact recompute_onlyFiringFlags _ d
    · exact .of_eq rfl
  · exact .of_eq rfl

theorem fireSpan_onlyFiringFlags (n : Nat) (d : Device) : OnlyFiringFlags d.control (fireSpan n d).control := by
  unfold fireSpan
  dsimp only
  (repeat' split)
  · exact recompute_onlyFiringFlags _ (onFire (fun t => { t with recip := recipOf n }) d)
  all_goals exact .of_eq rfl

theorem enterHeld_onlyFiringFlags (d : Device) : OnlyFiringFlags d.control (enterHeld d).control := by
  unfold enterHeld
  split
  · exact computeStrings_onlyFiringFlags _ true (clearFired d)
  · exact .of_eq rfl

theorem turnPick_onlyFiringFlags (d : Device) : OnlyFiringFlags d.control (turnPick d).control := by
  have hturn (x : Device) : OnlyFiringFlags x.control (fireTurn x).control := by
    unfold fireTurn
    split
    · exact .of_eq rfl
    · exact enterHeld_onlyFiringFlags x
    · exact enterHeld_onlyFiringFlags x
    · exact .of_eq rfl
  exact (OnlyFiringFlags.of_eq (by simp)).trans (doIf_onlyFiringFlags _ (hturn (stringsTurn d)))

theorem handSpeed_onlyFiringFlags (before : Speed) (done : Bool) (d : Device) :
    OnlyFiringFlags d.control (handSpeed before done d).control := by
  have hfast := doIf_onlyFiringFlags (decide (before ≠ .fast) && decide (d.tracker.speed = .fast)) (d := d)
    (f := setFlag .fast) (fun f _ _ hf => by simp [hf])
  unfold handSpeed
  dsimp only
  split
  · split
    · exact hfast.trans (fireSpan_onlyFiringFlags _ _)
    · exact hfast
  · exact hfast.trans (doIf_onlyFiringFlags _ (fireLeavesFast_onlyFiringFlags _))

theorem atCrossing_onlyFiringFlags (dir : Direction) {d : Device} (h : d.control.state = .weave) :
    OnlyFiringFlags d.control (atCrossing dir d).control := by
  have hcontrol : (atCrossing dir d).control = (handSpeed d.tracker.speed (completes dir d.tracker)
      (doIf (turns dir d.tracker) turnPick (onTracker (stepTracker d.control.config dir) d))).control := by
    simp [atCrossing, stepHanded_weave h]
  have hturned := doIf_onlyFiringFlags (turns dir d.tracker)
    (turnPick_onlyFiringFlags (onTracker (stepTracker d.control.config dir) d))
  rw [hcontrol]
  exact hturned.trans (handSpeed_onlyFiringFlags _ _ _)

/-- In WEAVE a step sets no other flag before its crossings. -/
theorem steppedOnto_onlyFiringFlags (dir : Direction) (dt : Lapse) (sense : List StringBits) {d : Device}
    (h : d.control.state = .weave) : OnlyFiringFlags d.control (steppedOnto dir dt sense d).control := by
  have hbefore : OnlyFiringFlags d.control (beforeStep dt sense d).control := fun f _ _ _ => by simp [flagOf]
  exact hbefore.trans (atCrossing_onlyFiringFlags dir (by simpa using h))

/-! ## The hand-over to the fire timer (R112, R119) -/

theorem fireClose_flags (n : Snapshot) (d : Device) :
    RaisesFlags d.control (fireClose n d).control ∧ OnlyFiringFlags d.control (fireClose n d).control := by
  unfold fireClose
  split
  · split
    · next c _ _ =>
      have hwaves : (takeWaves c n (doIf d.fire.angleHold clearFired d)).control = d.control := by simp
      exact ⟨hwaves ▸ computeStrings_raises c d.fire.angleHold (takeWaves c n (doIf d.fire.angleHold clearFired d)),
        hwaves ▸ computeStrings_onlyFiringFlags c d.fire.angleHold (takeWaves c n (doIf d.fire.angleHold clearFired d))⟩
    · exact ⟨.refl _, .of_eq rfl⟩
  · exact ⟨.refl _, .of_eq rfl⟩

theorem fireClose_onlyHolds (n : Snapshot) (d : Device) : OnlyHolds d (fireClose n d) :=
  .of_frame (by simp) (by simp) (fireClose_flags n d).1

/-! ## The weft code check (R109) -/

theorem checkWeftCode_differs {d : Device} {e : RosterEntry} (he : weftPeer d = some e) (hk : weftKnown d = true)
    (hne : recordedWeft d ≠ e.weft) : checkWeftCode d = ownHold (setFlag .weftMismatch d) := by
  simp [checkWeftCode, he, hk, hne]

theorem checkWeftCode_agrees {d : Device} (h : ∀ e, weftPeer d = some e → weftKnown d = true → recordedWeft d = e.weft) :
    checkWeftCode d = d := by
  unfold checkWeftCode
  split
  · rfl
  · next e he => exact if_neg (by simpa using h e he)

theorem checkWeftCode_onlyHolds (d : Device) : OnlyHolds d (checkWeftCode d) := by
  unfold checkWeftCode
  split
  · exact .of_eq rfl rfl rfl
  · split
    · exact ownHold_setFlag_onlyHolds (by decide) (by decide) d
    · exact .of_eq rfl rfl rfl

/-- A pick whose code has been handed keeps it whatever position is adopted; where nothing but the sequencer's marks changes, the
code stays too. -/
theorem recordedWeft_congr {d t : Device} (hlift : t.seq.pickLift = d.seq.pickLift) (hweft : t.seq.pickWeft = d.seq.pickWeft)
    (h : d.seq.pickLift.isSome = true ∨ pickOverride t = pickOverride d) :
    recordedWeft t = recordedWeft d ∧ weftKnown t = weftKnown d := by
  obtain hhanded | hover := h
  · simp [recordedWeft, weftKnown, hlift, hweft, hhanded]
  · simp [recordedWeft, weftKnown, hlift, hweft, hover]

theorem weftKnown_steppedOnto (dir : Direction) (dt : Lapse) (sense : List StringBits) (d : Device) :
    weftKnown (steppedOnto dir dt sense d) = weftKnown d := by
  obtain ⟨hseq, -, -, -, -, -, -, hfetch⟩ := steppedOnto_frame dir dt sense d
  have hover : pickOverride (steppedOnto dir dt sense d) = pickOverride d := by
    unfold pickOverride overrideOf
    rw [hfetch, hseq]
    rcases d.store.fetch with _ | ⟨row, ⟨reverse, o⟩ | _, t⟩ <;> rfl
  exact (recordedWeft_congr (by rw [hseq]) (by rw [hseq]) (.inr hover)).2

/-! ## The close in either role (R82, R97, R98, R102, R104) -/

theorem rosterClose_closed {d : Device} (h : d.roster.windowOpen = false) : rosterClose d = discardBeacon true d := by
  simp [rosterClose, h]

/-- The station as the close judges it: no beacon waits or is due, the snapshot has been taken in the section role. -/
def closing (d : Device) : Device :=
  doIf (isSection d) (onRoster fun r => { r with snapshot := some (takeSnapshot (discardBeacon true d)) })
    (beaconIdle (discardBeacon true d))

theorem closing_kept (d : Device) :
    (closing d).seq = d.seq ∧ (closing d).control = d.control ∧ (closing d).store = d.store ∧
    (closing d).line = { (discardBeacon true d).line with beaconDue := .idle } ∧
    (closing d).roster.entries = d.roster.entries ∧ (closing d).roster.minority = d.roster.minority := by
  unfold closing
  cases isSection d <;> simp [doIf, beaconIdle]

theorem outvotedBy_closing (d : Device) : outvotedBy (countMisses (closing d)) = outvotedBy d := by
  obtain ⟨hseq, -, -, -, hentries, -⟩ := closing_kept d
  refine outvotedBy_congr (f := countMiss) (by simp [hseq]) ?_ countMiss_votes
  rw [countMisses_entries, hentries]

section
variable {d : Device} (hweave : d.control.state = .weave) (hopen : d.roster.windowOpen = true)
include hweave hopen

theorem rosterClose_section (hrole : d.control.role = .sectionRole) :
    rosterClose d = closeWindow (fireClose (takeSnapshot (discardBeacon true d))
      (checkWeftCode (judgeAgreement (countMisses (closing d))))) := by
  simp [rosterClose, inWeave, hweave, hopen, hrole, closeSection, closing, isSection, doIf]

theorem rosterClose_weft (hrole : d.control.role = .weftRole) :
    rosterClose d = closeWindow (judgeAgreement (countMisses (closing d))) := by
  simp [rosterClose, inWeave, hweave, hopen, hrole, closeWeft, closing, isSection, doIf]

/-- After the judgement the close does no more than a hold can, and closes the window. -/
theorem rosterClose_judges :
    ∃ x, rosterClose d = closeWindow x ∧ OnlyHolds (judgeAgreement (countMisses (closing d))) x ∧
      x.roster = (judgeAgreement (countMisses (closing d))).roster := by
  cases hrole : d.control.role with
  | sectionRole =>
    exact ⟨_, rosterClose_section hweave hopen hrole, (checkWeftCode_onlyHolds _).trans (fireClose_onlyHolds _ _), by simp⟩
  | weftRole => exact ⟨_, rosterClose_weft hweave hopen hrole, .of_eq rfl rfl rfl, rfl⟩

/-- What a close leaves of roster and line, and what its judgement leaves. -/
theorem rosterClose_open {c : Configuration} (hc : d.control.config = some c) :
    (rosterClose d).roster = { d.roster with
      windowOpen := false
      minority := (rosterClose d).roster.minority
      snapshot := if d.control.role = .sectionRole then some (takeSnapshot (discardBeacon true d)) else d.roster.snapshot
      entries := d.roster.entries.map countMiss } ∧
    LineHolds { (discardBeacon true d).line with beaconDue := .idle } (rosterClose d).line ∧ Judged c d (rosterClose d) := by
  obtain ⟨hseq, hcontrol, -, hline, hentries, hmark⟩ := closing_kept d
  obtain ⟨x, hclose, hholds, hroster⟩ := rosterClose_judges hweave hopen
  obtain ⟨hmarked, hpulse, -⟩ := judgeAgreement_kept (countMisses (closing d))
  have hjudged : Judged c (countMisses (closing d)) (judgeAgreement (countMisses (closing d))) :=
    judgeAgreement_judged (by simpa [hcontrol] using hweave) (by simpa [hcontrol] using hc)
  have hclosed : Judged c (countMisses (closing d)) (closeWindow x) :=
    (hjudged.holds hholds (by rw [hroster])).holds (.of_eq rfl rfl rfl) rfl
  rw [hclose]
  refine ⟨?_, ?_, hclosed.of_found (outvotedBy_closing d) hmark (by simp [hseq]) (by simp [hseq]) (by simp [hseq])
    (by simp [hcontrol])⟩
  · have hsnapshot : (closing d).roster = { d.roster with
        snapshot := if d.control.role = .sectionRole then some (takeSnapshot (discardBeacon true d)) else d.roster.snapshot } := by
      cases hrole : d.control.role <;> simp [closing, isSection, hrole, doIf, onRoster]
    rw [closeWindow, onRoster_roster, hroster, hmarked, countMisses_roster, hsnapshot]
  · rw [← hline]
    exact hpulse.trans hholds.line

end

end Sys2Proof.Machine
end

section
/-! SUPPORT. The weft code check of the close (R109), and the station that the step of a close finds (R104; log 36). -/

namespace Sys2Proof.Machine

/-! ## The weft code check of a close (R109) -/

theorem weftPeer_judged (d : Device) :
    weftPeer (judgeAgreement (countMisses (closing d))) = (weftPeer d).map countMiss := by
  obtain ⟨-, -, -, -, hentries, -⟩ := closing_kept d
  simp only [weftPeer, judgeAgreement_frame, countMisses_entries, hentries, List.find?_map]
  rfl

/-- The own weft code is that of the pick before the close: handed by its fetch, or of the position where that is kept. -/
theorem recordedWeft_judged {d : Device} (h : d.seq.pickLift.isSome = true ∨ outvotedBy d = none) :
    recordedWeft (judgeAgreement (countMisses (closing d))) = recordedWeft d ∧
    weftKnown (judgeAgreement (countMisses (closing d))) = weftKnown d := by
  obtain ⟨hseq, -, hstore, -⟩ := closing_kept d
  obtain ⟨-, -, hlift, hweft⟩ := judgeAgreement_kept (countMisses (closing d))
  refine recordedWeft_congr (by simp [hlift, hseq]) (by simp [hweft, hseq]) (h.imp_right fun hnone => ?_)
  rw [judgeAgreement_agrees ((outvotedBy_closing d).trans hnone)]
  simp [pickOverride, overrideOf, hseq, hstore]

section
variable {d : Device} (hweave : d.control.state = .weave) (hopen : d.roster.windowOpen = true)
  (hrole : d.control.role = .sectionRole)
include hweave hopen hrole

/-- A weft code that differs from the weft station's is reported and voids the pick. -/
theorem rosterClose_mismatch {e : RosterEntry} (h : d.seq.pickLift.isSome = true ∨ outvotedBy d = none)
    (he : weftPeer d = some e) (hk : weftKnown d = true) (hne : recordedWeft d ≠ e.weft) :
    flagOf .weftMismatch (rosterClose d).control = true ∧ (rosterClose d).seq.void = true := by
  obtain ⟨hcode, hknown⟩ := recordedWeft_judged h
  obtain ⟨-, hcontrol, -⟩ := closing_kept d
  have hchecked : checkWeftCode (judgeAgreement (countMisses (closing d))) =
      ownHold (setFlag .weftMismatch (judgeAgreement (countMisses (closing d)))) :=
    checkWeftCode_differs (e := countMiss e) (by rw [weftPeer_judged, he]; rfl) (hknown.trans hk) (by rwa [hcode])
  rw [rosterClose_section hweave hopen hrole, hchecked]
  constructor
  · exact (fireClose_flags (takeSnapshot (discardBeacon true d))
      (ownHold (setFlag .weftMismatch (judgeAgreement (countMisses (closing d)))))).1.stays .weftMismatch (by simp)
  · simp [ownHold_seq, hcontrol, hweave]

/-- With no rival and no difference the sequencer stays as it was, and no mismatch is reported. -/
theorem rosterClose_match (h : outvotedBy d = none)
    (hsame : ∀ e, weftPeer d = some e → weftKnown d = true → recordedWeft d = e.weft) :
    (rosterClose d).seq = d.seq ∧ flagOf .weftMismatch (rosterClose d).control = flagOf .weftMismatch d.control := by
  obtain ⟨hcode, hknown⟩ := recordedWeft_judged (.inr h)
  obtain ⟨hseq, hcontrol, -⟩ := closing_kept d
  have hchecked : checkWeftCode (judgeAgreement (countMisses (closing d))) = judgeAgreement (countMisses (closing d)) := by
    refine checkWeftCode_agrees fun e he hk => ?_
    rw [weftPeer_judged] at he
    obtain ⟨x, hx, rfl⟩ := Option.map_eq_some_iff.mp he
    rw [hcode]
    exact hsame x hx (hknown ▸ hk)
  rw [rosterClose_section hweave hopen hrole, hchecked, judgeAgreement_agrees ((outvotedBy_closing d).trans h)]
  refine ⟨by simp [hseq], ?_⟩
  have hflags := (fireClose_flags (takeSnapshot (discardBeacon true d)) (setMinority false (countMisses (closing d)))).2
  refine (hflags .weftMismatch (by decide) (by decide) (by decide)).trans ?_
  simp [hcontrol]

end

theorem takeSnapshot_section {c : Configuration} {d : Device} (hc : d.control.config = some c)
    (hrole : d.control.role = .sectionRole) :
    takeSnapshot d = ⟨d.control.number, c.capacity, d.seq.pickLift.getD c.capacity,
      d.roster.entries.map fun e => ⟨e.station, e.role, e.lift, e.capacity, peerClass e⟩⟩ := by
  simp [takeSnapshot, capacityOf, hc, hrole]

/-! ## The station that the step of a close finds (R104; log 36) -/

/-- Roster, position, history and beacon as the step found them. -/
structure CloseFinds (d p : Device) : Prop where
  roster : p.roster = d.roster
  pos : p.seq.pos = d.seq.pos
  history : p.seq.history = d.seq.history
  runs : p.seq.runs = d.seq.runs
  slot : p.line.beaconSlot = d.line.beaconSlot
  due : p.line.beaconDue = d.line.beaconDue
  late : p.line.counters.beaconsLate = d.line.counters.beaconsLate

theorem steppedOnto_closeFinds (dt : Lapse) (sense : List StringBits) (d : Device) :
    CloseFinds d (steppedOnto .forward dt sense d) := by
  obtain ⟨hseq, -, hroster, -⟩ := steppedOnto_frame .forward dt sense d
  obtain ⟨-, hslot, hdue, -⟩ := steppedOnto_line .forward dt sense d
  exact ⟨hroster, by rw [hseq], by rw [hseq], by rw [hseq], hslot, hdue, steppedOnto_beaconsLate .forward dt sense d⟩

theorem CloseFinds.holds {d p t : Device} (h : CloseFinds d p) (ht : OnlyHolds p t) (hroster : t.roster = p.roster) :
    CloseFinds d t :=
  ⟨hroster.trans h.roster, (congrArg Sequencer.pos ht.seq :).trans h.pos, (congrArg Sequencer.history ht.seq :).trans h.history,
    (congrArg Sequencer.runs ht.seq :).trans h.runs, (congrArg Line.beaconSlot ht.line :).trans h.slot,
    (congrArg Line.beaconDue ht.line :).trans h.due, (congrArg (·.counters.beaconsLate) ht.line :).trans h.late⟩

theorem fingerAngle_onlyHolds (d : Device) : OnlyHolds d (fingerAngle d) := by
  have hexamined : OnlyHolds d (reexamine d) := by
    unfold reexamine
    split
    · split
      · exact substitute_onlyHolds _ d
      · exact .of_eq rfl rfl rfl
    · exact .of_eq rfl rfl rfl
  exact hexamined.trans (.of_eq rfl rfl rfl)

theorem CloseFinds.votes {d p : Device} (h : CloseFinds d p) : outvotedBy p = outvotedBy d :=
  outvotedBy_congr (f := id) h.pos (by simp [h.roster]) fun _ => ⟨rfl, rfl⟩

/-- The beacon that a close, or its step with the window CLOSED, discards late (R82). -/
theorem CloseFinds.discarded {d p : Device} (h : CloseFinds d p) :
    (discardBeacon true p).line.beaconSlot = none ∧ (discardBeacon true p).line.beaconDue = d.line.beaconDue ∧
    (discardBeacon true p).line.counters.beaconsLate = (if d.line.beaconSlot = none then d.line.counters.beaconsLate
      else min (d.line.counters.beaconsLate + 1) 65535) := by
  obtain ⟨hcounters, hdue, -⟩ := discardBeacon_late p
  exact ⟨discardBeacon_slot true p, hdue.trans h.due, by rw [hcounters, h.slot, h.late]⟩

/-- What a close leaves, said of the station as its step found it. -/
theorem CloseFinds.closes {c : Configuration} {d p : Device} (h : CloseFinds d p) (hweave : p.control.state = .weave)
    (hc : p.control.config = some c) (hopen : d.roster.windowOpen = true) (hwrites : p.control.writes = d.control.writes) :
    (rosterClose p).roster.windowOpen = false ∧ (rosterClose p).line.beaconDue = .idle ∧
    (rosterClose p).line.beaconSlot = none ∧
    (rosterClose p).roster.entries = d.roster.entries.map (fun e => { e with
      misses := if e.heard then 0 else min (e.misses + 1) 255
      lapsed := e.lapsed || (!e.heard && decide (15 ≤ e.misses)) }) ∧
    Judged c d (rosterClose p) ∧
    (rosterClose p).line.counters.beaconsLate = (if d.line.beaconSlot = none then d.line.counters.beaconsLate
      else min (d.line.counters.beaconsLate + 1) 65535) ∧
    (rosterClose p).roster.snapshot =
      if p.control.role = .sectionRole then some (takeSnapshot (discardBeacon true p)) else d.roster.snapshot := by
  obtain ⟨hroster, hline, hjudged⟩ := rosterClose_open hweave (h.roster ▸ hopen) hc
  obtain ⟨hslot, -, hlate⟩ := h.discarded
  rw [h.roster] at hroster
  refine ⟨by rw [hroster], by rw [hline], by rw [hline, hslot], ?_, ?_, by rw [hline, hlate], by rw [hroster]⟩
  · rw [hroster]
    exact List.map_congr_left fun e _ => countMiss_eq e
  · exact hjudged.of_found h.votes (by rw [h.roster]) h.pos h.history h.runs hwrites

/-! ## The step onto the angle of the close -/

/-- The weft code check of the station as its step leaves it is that of the station before (R109). -/
theorem rosterClose_code {d : Device} (dt : Lapse) (sense : List StringBits) (hweave : d.control.state = .weave)
    (hopen : d.roster.windowOpen = true) (hrole : d.control.role = .sectionRole)
    (hcode : d.seq.pickLift.isSome = true ∨ outvotedBy d = none) :
    (∀ e, weftPeer d = some e → weftKnown d = true → recordedWeft d ≠ e.weft →
      flagOf .weftMismatch (rosterClose (steppedOnto .forward dt sense d)).control = true ∧
      (rosterClose (steppedOnto .forward dt sense d)).seq.void = true) ∧
    (outvotedBy d = none → (∀ e, weftPeer d = some e → weftKnown d = true → recordedWeft d = e.weft) →
      (rosterClose (steppedOnto .forward dt sense d)).seq = d.seq ∧
      flagOf .weftMismatch (rosterClose (steppedOnto .forward dt sense d)).control = flagOf .weftMismatch d.control) := by
  obtain ⟨hseq, -, hroster, -, -, hrole', -⟩ := steppedOnto_frame .forward dt sense d
  have hvotes := (steppedOnto_closeFinds dt sense d).votes
  have hpeer : weftPeer (steppedOnto .forward dt sense d) = weftPeer d := by simp only [weftPeer, hroster]
  have hflag := steppedOnto_onlyFiringFlags .forward dt sense hweave .weftMismatch (by decide) (by decide) (by decide)
  have hsteps := (steppedOnto_weave (dir := .forward) (dt := dt) (sense := sense) hweave).1
  rw [← hrole'] at hrole
  rw [← hroster] at hopen
  rw [← hseq, ← hvotes] at hcode
  rw [← hpeer, ← weftKnown_steppedOnto .forward dt sense d, ← recordedWeft_steppedOnto .forward dt sense d, ← hvotes, ← hseq,
    ← hflag]
  exact ⟨fun e => rosterClose_mismatch hsteps hopen hrole hcode, rosterClose_match hsteps hopen hrole⟩

/-- The station in the weft role as its close finds it: the choice examined again at Fa (R153). -/
theorem forwardFa_closeFinds {d p : Device} (h : CloseFinds d p) :
    ∃ x, forwardFa p = rosterClose x ∧ CloseFinds d x ∧ RaisesFlags p.control x.control ∧
      x.control.state = p.control.state ∧ x.control.config = p.control.config ∧ x.control.role = p.control.role ∧
      x.store = p.store := by
  have hholds := doIf_onlyHolds (inWeave p) (fingerAngle_onlyHolds p)
  refine ⟨_, rfl, h.holds hholds (by simp), hholds.control, by simp, by simp, by simp, by simp⟩

end Sys2Proof.Machine
end

section
/-! The statements about beacons, the roster and agreement, settled. -/

namespace Sys2Proof.Machine

/-- Settles O47: the rival by `bestRival_cases`, the piece count by `rebuildPiece_nearest`. -/
theorem outvotedByTheLargestRival : Obligations.OutvotedByTheLargestRival := by
  unfold Obligations.OutvotedByTheLargestRival
  refine ⟨fun d => ⟨?_, fun p hp => ?_⟩, fun low own => rebuildPiece_nearest⟩
  · simp only [outvotedBy_isSome_iff, isRival_iff, and_assoc]
  · obtain ⟨hbest, hlt⟩ := (outvotedBy_eq_some_iff d p).mp hp
    obtain ⟨hnone, -⟩ | ⟨before, x, after, hl, hx, hfound, hfirst, hmost⟩ := bestRival_cases d
    · simp [hnone] at hbest
    · obtain rfl : x.pos = p := Option.some.inj (hfound.symm.trans hbest)
      obtain ⟨hvotes, hother⟩ := (isRival_iff d x).mp hx
      exact ⟨hother, hlt, fun e he hv hne => hmost e he ((isRival_iff d e).mpr ⟨hv, hne⟩),
        before, x, after, hl, hvotes, rfl, fun y hy hv hne => hfirst y hy ((isRival_iff d y).mpr ⟨hv, hne⟩)⟩

/-- Settles O26: a sound beacon by `takeBeacon_eq` and the lemmas of `putEntry`, one of the own number by those of
`duplicateFound`, the fields by `beaconEntry_cases`. -/
theorem beaconsReachTheRoster : Obligations.BeaconsReachTheRoster := by
  unfold Obligations.BeaconsReachTheRoster
  refine ⟨fun s f rest e hp hq hf hlow hother he => ?_, fun s f rest hp hq hf hlow hown => ?_,
    fun s f rest hp hq hf hunused => ?_, fun station p => ⟨?_, fun e he => ?_⟩⟩
  · have hstation := beaconEntry_station he
    obtain ⟨hnone, -⟩ | ⟨-, role, st, hentry, -⟩ := beaconEntry_cases f.source.toNat f.payload
    · simp [hnone] at he
    obtain rfl : e = entryOf f.source.toNat role st f.payload := Option.some.inj (he.symm.trans hentry)
    refine ⟨_, exec_beaconTaken hp, rfl, ?_⟩
    rw [takeBeaconFrame_sound hq hf hlow hother he, takeBeacon_eq, popQueue_of_cons hq]
    refine ⟨rfl, ?_, fun y hy => mem_putEntry_other hy, fun hrising x hx hs => ⟨fun y hy hys => ?_, fun hnew => ?_⟩⟩
    · obtain ⟨x, hx, hfields, hheard⟩ := exists_mem_putEntry
        (decide (s.dev.control.state = .weave) && s.dev.roster.windowOpen) (entryOf f.source.toNat role st f.payload)
        s.dev.roster.entries
      refine ⟨x, hx, ?_⟩
      rw [hfields]
      exact ⟨rfl, rfl, rfl, rfl, rfl, rfl, rfl, rfl, fun hweave hopen => hheard (by simp [hweave, hopen])⟩
    · exact putEntry_known hrising hy hys hx hs
    · rw [putEntry_new hnew hx hs]
      exact ⟨rfl, rfl⟩
  · refine ⟨_, exec_beaconTaken hp, rfl, ?_⟩
    rw [takeBeaconFrame_own hq hf hlow hown]
    have hqueue : (popQueue s.dev).line.queue = rest := by rw [popQueue_of_cons hq]
    refine ⟨by simpa using hqueue, duplicateFound_flag (popQueue s.dev), by simp, by simp, by simp, fun h => ?_,
      fun hdormant hfault => ?_⟩
    · rw [duplicateFound_kept (d := popQueue s.dev) h, popQueue_of_cons hq]
      rfl
    · obtain ⟨hstate, hpower, hdropped, hslot, hwait⟩ := duplicateFound_blocks (d := popQueue s.dev) hdormant hfault
      refine ⟨hstate, hpower, hdropped, hslot, hwait, duplicateFound_pulse (d := popQueue s.dev) hdormant hfault,
        duplicateFound_weave (d := popQueue s.dev), fun h => ?_⟩
      obtain ⟨hflag, htrainer, hstrings⟩ := duplicateFound_train (d := popQueue s.dev) h
      exact ⟨hflag, htrainer, by simp [hstrings], by simp [hstrings], by simp [hstrings]⟩
  · rw [exec_beaconTaken hp, takeBeaconFrame_unused hq hf hunused, popQueue_of_cons hq]
  · obtain ⟨hnone, hbad⟩ | ⟨hgood, role, st, hentry, -⟩ := beaconEntry_cases station p
    · exact iff_of_true hnone hbad
    · exact iff_of_false (by simp [hentry]) hgood
  · obtain ⟨hnone, -⟩ | ⟨-, role, st, hentry, hcode, hrole⟩ := beaconEntry_cases station p
    · simp [hnone] at he
    · obtain rfl : e = entryOf station role st p := Option.some.inj (he.symm.trans hentry)
      exact ⟨rfl, hcode, hrole, rfl, rfl, rfl, rfl⟩

/-- Settles O27: the report of the fetch by `fetchCompletes_reports`, the G-end crossing by `beaconGuardPassed_cases`. -/
theorem beaconIsBuiltWhenBothMarksStand : Obligations.BeaconIsBuiltWhenBothMarksStand := by
  unfold Obligations.BeaconIsBuiltWhenBothMarksStand
  refine ⟨fun s c row e o rowReady hp hc hf hdue => ?_, fun a b dt sense s c gone hr hs hg hdue => ?_,
    fun a b dt sense s c hr hs hg => ?_⟩
  · obtain ⟨x, hx, hline, hnumber, hconfig⟩ := fetchCompletes_reports hf
    have hbuilt : BeaconBuilt x (fetchCompletes [] s.dev) := by
      rw [hx]
      exact beaconRowReady_built (by rw [hline, hdue])
    refine ⟨_, exec_fetchComplete hp, rfl, ?_, hbuilt.due, ?_, ?_, ?_, ?_⟩
    · rw [← hnumber]
      exact hbuilt.slot_fields (hconfig.trans hc)
    · exact hbuilt.reply.trans (by rw [hline])
    · exact hbuilt.queue.trans (by rw [hline])
    · exact hbuilt.counters.trans (by rw [hline])
    · exact fun h => hbuilt.stopped (by rwa [hline])
  · obtain ⟨-, hc, hsound, -⟩ := (referencedBy_iff c s.dev).mp hr
    obtain ⟨hjudges, hslot, hmarks, hreply, hqueue⟩ := steppedOnto_line .forward dt sense s.dev
    have hbuilt : BeaconBuilt (closeGuard (steppedOnto .forward dt sense s.dev))
        (forwardGuardEnd (steppedOnto .forward dt sense s.dev)) :=
      beaconGuardPassed_built (hmarks.trans hdue)
    have hexec := exec_forward_onto dt sense hr hs
    rw [forwardCrossings_at_guardEnd hsound hg] at hexec
    refine ⟨_, hexec, rfl, ?_, hbuilt.due, hbuilt.reply.trans hreply, hbuilt.queue.trans hqueue, ?_, fun h => ?_, fun h => ?_⟩
    · rw [← steppedOnto_number .forward dt sense s.dev]
      exact hbuilt.slot_fields (by simpa using hc)
    · rw [hbuilt.counters]
      simp only [closeGuard_frame, hslot]
      conv_lhs => rw [hjudges.counters]
    · simp [hbuilt.counters, hjudges.heard h]
    · exact hbuilt.stopped (by simpa [hslot] using h)
  · obtain ⟨-, -, hsound, -⟩ := (referencedBy_iff c s.dev).mp hr
    obtain ⟨hjudges, hslot, hmarks, -⟩ := steppedOnto_line .forward dt sense s.dev
    have hexec := exec_forward_onto dt sense hr hs
    rw [forwardCrossings_at_guardEnd hsound hg] at hexec
    refine ⟨_, hexec, rfl, by simp [forwardGuardEnd, closeGuard], ?_⟩
    dsimp only [forwardGuardEnd]
    obtain ⟨hdue, heq⟩ | ⟨g, hdue, heq⟩ | ⟨g, hdue, hbuilt⟩ :=
      beaconGuardPassed_cases (closeGuard (steppedOnto .forward dt sense s.dev))
    · have hdue : s.dev.line.beaconDue = .idle ∨ s.dev.line.beaconDue = .built := by simpa [hmarks] using hdue
      rw [heq]
      refine ⟨fun gone h => ?_, fun _ => hmarks, fun _ _ => ⟨hslot, hjudges.counters⟩, fun h => ?_⟩
      · simp [h] at hdue
      · exact congrArg Counters.parityFraming (hjudges.heard h).2
    · have hdue : s.dev.line.beaconDue = .due false g := hmarks.symm.trans hdue
      rw [heq]
      refine ⟨fun _ _ => rfl, fun h => ?_, fun _ _ => ⟨hslot, hjudges.counters⟩, fun h => ?_⟩
      · simp [hdue] at h
      · exact congrArg Counters.parityFraming (hjudges.heard h).2
    · have hdue : s.dev.line.beaconDue = .due true g := hmarks.symm.trans hdue
      refine ⟨fun gone h => ?_, fun h => ?_, fun h h' => ?_, fun h => ?_⟩
      · simp [hdue] at h
      · simp [hdue] at h
      · cases g <;> contradiction
      · simp [hbuilt.counters, hjudges.heard h]

/-- Settles O48: the step by `exec_forward_onto`, the close it ends with by `CloseFinds.closes`, the weft code by
`rosterClose_code`. -/
theorem closeOfThePick : Obligations.CloseOfThePick := by
  unfold Obligations.CloseOfThePick
  refine ⟨fun a b dt sense s c hr hweave hopen hrole hs => ?_, fun a b dt sense s c hr hweave hopen hrole hs => ?_,
    fun a b dt sense s c hr hrole hclosed hs => ?_, fun a b dt sense s c hr hrole hclosed hs => ?_⟩
  all_goals
    obtain ⟨-, hc, hsound, -⟩ := (referencedBy_iff c s.dev).mp hr
    obtain ⟨-, -, hroster, -, -, -, hc', -⟩ := steppedOnto_frame .forward dt sense s.dev
    have hfinds := steppedOnto_closeFinds dt sense s.dev
    have hexec := exec_forward_onto dt sense hr hs
    rw [hrole] at hexec hsound
  · obtain ⟨hsteps, -, hwrites, -⟩ := steppedOnto_weave (dir := .forward) (dt := dt) (sense := sense) hweave
    rw [forwardCrossings_at_c hsound] at hexec
    obtain ⟨hwindow, hdue, hslot, hentries, hjudged, hlate, hsnapshot⟩ :=
      hfinds.closes hsteps (hc'.trans hc) hopen hwrites
    refine ⟨_, hexec, rfl, hwindow, hdue, hslot, hentries, hjudged.agrees, hjudged.first, hjudged.second, by simp,
      by simpa using hsteps, hlate, ?_, rosterClose_code dt sense hweave hopen hrole⟩
    refine hsnapshot.trans ?_
    rw [takeSnapshot_section (c := c) (by simpa using hc) (by simpa using hrole)]
    simp [hrole, peerClass]
  · obtain ⟨hsteps, -, hwrites, -⟩ := steppedOnto_weave (dir := .forward) (dt := dt) (sense := sense) hweave
    rw [forwardCrossings_at_fa hsound] at hexec
    obtain ⟨x, hclose, hfound, hraises, hstate, hconfig, hkept, hstore⟩ := forwardFa_closeFinds hfinds
    rw [hclose] at hexec
    obtain ⟨hwindow, hdue, hslot, hentries, hjudged, hlate, hsnapshot⟩ :=
      hfound.closes (hstate.trans hsteps) (hconfig.trans (hc'.trans hc)) hopen (hraises.writes.trans hwrites)
    refine ⟨_, hexec, rfl, hwindow, hdue, hslot, hentries, hjudged.agrees, hjudged.first, hjudged.second, by simp [hstore],
      by simpa using hstate.trans hsteps, ?_, hlate⟩
    exact hsnapshot.trans (by simp [hkept, hrole])
  · rw [forwardCrossings_at_c hsound, rosterClose_closed (hroster ▸ hclosed)] at hexec
    exact ⟨_, hexec, rfl, by simp, by simp, hfinds.discarded⟩
  · rw [forwardCrossings_at_fa hsound] at hexec
    obtain ⟨x, hclose, hfound, -⟩ := forwardFa_closeFinds hfinds
    rw [hclose, rosterClose_closed (hfound.roster ▸ hclosed)] at hexec
    exact ⟨_, hexec, rfl, by simp [hfound.roster], by simp [hfound.pos], by simp [hfound.history], hfound.discarded⟩

end Sys2Proof.Machine
end

section
/-! SUPPORT. The advance of a lead, the reciprocal of a span, and the window arc a fire angle lies in (R116 to R119, R171). -/

namespace Sys2Proof.Machine

/-! ## The window arc (R118, R171) -/

theorem inArc_iff (a x y : Nat) : inArc a x y = true ↔ arc x a < arc x y := decide_eq_true_iff

theorem arc_lt (x y : Nat) : arc x y < 4096 := Nat.mod_lt _ (by decide)

/-- W comes before K, and with D and B outside the window the arc from W to K stays short of the largest advance. -/
theorem window_arc {c : Configuration} (h : soundConfig .sectionRole c = true) : 0 < arc c.w c.k ∧ arc c.w c.k < 4095 := by
  obtain ⟨-, -, -, hk, hd⟩ := section_angles_rise h
  have hrevolution := arc_lt c.b c.d
  simp only [arc_eq] at *
  omega

/-- K less an advance that the window holds lies in the window (R118). -/
theorem inArc_before_end {w k a : Nat} (ha : 1 ≤ a) (hfit : a ≤ arc w k) : inArc ((k + 4096 - a) % 4096) w k = true := by
  simp only [inArc_iff, arc_eq] at *
  omega

theorem inArc_start {w k : Nat} (h : 0 < arc w k) : inArc w w k = true := by
  rwa [inArc_iff, arc_self]

/-! ## The advance (R117) -/

theorem advanceOf_eq (r : Recip) (lead : Nat) :
    advanceOf r lead = max 1 (min ((16 * lead * r.q + 2 ^ (38 - r.n)) / 2 ^ (39 - r.n)) 4095) := by
  unfold advanceOf
  generalize (16 * lead * r.q + 2 ^ (38 - r.n)) / 2 ^ (39 - r.n) = a
  dsimp only
  split_ifs <;> omega

theorem advanceOf_bounds (r : Recip) (lead : Nat) : 1 ≤ advanceOf r lead ∧ advanceOf r lead ≤ 4095 := by
  rw [advanceOf_eq]
  omega

/-- The longest lead of R115 with the largest reciprocal stays below 2^46 (R117). -/
theorem advance_product_lt {lead q : Nat} (hlead : lead ≤ 4127996) (hq : q ≤ 1048575) : 16 * lead * q < 2 ^ 46 :=
  calc 16 * lead * q ≤ 16 * 4127996 * 1048575 := Nat.mul_le_mul (Nat.mul_le_mul_left 16 hlead) hq
    _ < 2 ^ 46 := by decide

/-! ## The reciprocal (R116) -/

/-- A span below 2^20 is brought into 2^19..2^20 - 1 by doubling it as often as its leading bit asks. -/
theorem exists_normalised {s : Nat} (hs : 1 ≤ s) (hlt : s < 2 ^ 20) : ∃ n, n < 20 ∧ 524288 ≤ s * 2 ^ n ∧ s * 2 ^ n < 1048576 := by
  have hzero : s ≠ 0 := by omega
  have hlog : Nat.log2 s < 20 := (Nat.log2_lt hzero).mpr hlt
  have hlow : 2 ^ Nat.log2 s ≤ s := Nat.log2_self_le hzero
  have hhigh : s < 2 ^ (Nat.log2 s + 1) := Nat.lt_log2_self
  refine ⟨19 - Nat.log2 s, by omega, ?_, ?_⟩
  · calc 524288 = 2 ^ Nat.log2 s * 2 ^ (19 - Nat.log2 s) := by rw [← pow_add, Nat.add_sub_cancel' (by omega)]; rfl
      _ ≤ s * 2 ^ (19 - Nat.log2 s) := Nat.mul_le_mul_right _ hlow
  · calc s * 2 ^ (19 - Nat.log2 s) < 2 ^ (Nat.log2 s + 1) * 2 ^ (19 - Nat.log2 s) :=
          Nat.mul_lt_mul_of_pos_right hhigh (by positivity)
      _ = 1048576 := by rw [← pow_add, show Nat.log2 s + 1 + (19 - Nat.log2 s) = 20 by omega]; rfl

/-- Every span that can be measured has a reciprocal (R116). -/
theorem recipOf_exists {s : Nat} (hs : 1 ≤ s) (hmax : s ≤ 1048575) :
    ∃ n, n < 20 ∧ 524288 ≤ s * 2 ^ n ∧ s * 2 ^ n < 1048576 ∧ recipOf s = some ⟨n, s * 2 ^ n, min (2 ^ 39 / (s * 2 ^ n)) 1048575⟩ := by
  obtain ⟨k, hk, hlow, hhigh⟩ := exists_normalised hs (by omega)
  unfold recipOf
  cases hfind : (List.range 20).find? fun n => decide (524288 ≤ s * 2 ^ n) && decide (s * 2 ^ n < 1048576) with
  | none => simpa [hlow, hhigh] using List.find?_eq_none.mp hfind k (List.mem_range.mpr hk)
  | some n =>
    have hn := List.mem_range.mp (List.mem_of_find?_eq_some hfind)
    have hnormal := List.find?_some hfind
    simp only [Bool.and_eq_true, decide_eq_true_eq] at hnormal
    exact ⟨n, hn, hnormal.1, hnormal.2, rfl⟩

/-! ## The firing of a lead (R118, R119) -/

theorem firingOf_byAngle {d : Device} {held : Bool} (c : Configuration) (lead latency : Nat)
    (h : d.tracker.speed ≠ .fast ∨ held = true) : firingOf d c held lead latency = byAngle c := by
  have hnot : (!held && decide (d.tracker.speed = .fast)) = false := by rcases h with h | h <;> simp [h]
  unfold firingOf
  cases d.fire.recip <;> simp [hnot]

theorem firingOf_fast {d : Device} {r : Recip} (c : Configuration) (lead latency : Nat) (hr : d.fire.recip = some r)
    (hfast : d.tracker.speed = .fast) : firingOf d c false lead latency = byPrediction c r lead latency := by
  simp [firingOf, hr, hfast]

/-- A firing is W by angle or one predicted from a reciprocal. -/
theorem firingOf_cases (d : Device) (c : Configuration) (held : Bool) (lead latency : Nat) :
    firingOf d c held lead latency = byAngle c ∨ ∃ r, firingOf d c held lead latency = byPrediction c r lead latency := by
  unfold firingOf
  cases d.fire.recip with
  | none => exact .inl rfl
  | some r => exact (ite_eq_or_eq _ _ _).symm.imp_right fun h => ⟨r, h⟩

/-- An advance that the window holds is predicted (R118). -/
theorem byPrediction_fits {c : Configuration} {r : Recip} {lead : Nat} (latency : Nat) (h : advanceOf r lead ≤ arc c.w c.k) :
    byPrediction c r lead latency = ⟨some (advanceOf r lead), (c.k + 4096 - advanceOf r lead) % 4096, .predicted, false, false⟩ := by
  simp [byPrediction, h]

/-- A longer one is clamped to W, for the waves or for the latency alone (R118). -/
theorem byPrediction_clamped {c : Configuration} {r : Recip} {lead : Nat} (latency : Nat) (h : arc c.w c.k < advanceOf r lead) :
    byPrediction c r lead latency = ⟨some (advanceOf r lead), c.w, .clamped,
      decide (advanceOf r (4 * latency) ≤ arc c.w c.k), decide (arc c.w c.k < advanceOf r (4 * latency))⟩ := by
  simp [byPrediction, Nat.not_le.mpr h, ← decide_not]

theorem firingOf_inWindow {c : Configuration} (h : soundConfig .sectionRole c = true) (d : Device) (held : Bool) (lead latency : Nat) :
    inArc (firingOf d c held lead latency).angle c.w c.k = true := by
  have hstart := inArc_start (window_arc h).1
  obtain hangle | ⟨r, hpredicted⟩ := firingOf_cases d c held lead latency
  · rwa [hangle]
  · rw [hpredicted]
    by_cases hfit : advanceOf r lead ≤ arc c.w c.k
    · rw [byPrediction_fits latency hfit]
      exact inArc_before_end (advanceOf_bounds r lead).1 hfit
    · rwa [byPrediction_clamped latency (Nat.not_le.mp hfit)]

end Sys2Proof.Machine
end

section
/-! SUPPORT. What a fire that falls due, a crossing and a lapse leave of the strings' records, latencies and fire timer. -/

namespace Sys2Proof.Machine

/-! ## A fire that falls due for nobody (R120, R131) -/

theorem mapStrings_of_fixed {f : Nat → SelString → SelString} {d : Device}
    (h : ∀ (i : Nat) (s : SelString), d.strings.strings[i]? = some s → f i s = s) : mapStrings f d = d := by
  have hlist : (d.strings.strings.mapIdx fun i s => if i < stringCount d then f i s else s) = d.strings.strings := by
    refine List.ext_getElem? fun i => ?_
    rw [List.getElem?_mapIdx]
    cases hs : d.strings.strings[i]? with
    | none => rfl
    | some s => simp [h i s hs]
  simp only [mapStrings, onStrings, hlist]

/-- Where it falls due for no string, nothing changes. -/
theorem fallDue_of_none {p : Nat → SelString → Bool} {d : Device}
    (h : ∀ (i : Nat) (s : SelString), d.strings.strings[i]? = some s → p i s = false) : fallDue p d = d := by
  have hdue (i : Nat) (s : SelString) (hs : d.strings.strings[i]? = some s) : fallsDue p i s = false := by
    simp [fallsDue, h i s hs]
  have hnobody (i : Nat) : (d.strings.strings[i]?).any (fun s => fallsDue p i s && readyToFire d s) = false := by
    cases hs : d.strings.strings[i]? with
    | none => rfl
    | some s => simp [hdue i s hs]
  have hreported : reportFired (fun i s => fallsDue p i s && readyToFire d s) d = d := by
    have hsame : d.fire.strings.mapIdx (fun _ r => r) = d.fire.strings := by simp [List.mapIdx_eq_zipIdx_map]
    simp only [reportFired, onFire, hnobody, Bool.and_false, Bool.false_eq_true, if_false, hsame]
  rw [fallDue_eq, fireWhere, doIf_of_fixed fun _ => hreported]
  have hfired : mapStrings (fun i s => if (fallsDue p i s && readyToFire d s) = true then fireString s else s) d = d :=
    mapStrings_of_fixed fun i s hs => by simp [hdue i s hs]
  rw [hfired]
  exact mapStrings_of_fixed fun i s hs => by simp [hdue i s hs]

theorem stringsAtAngle_of_none {x : Nat} {d : Device} (h : noFireAt x d = true) : stringsAtAngle x d = d := by
  refine doIf_of_fixed fun _ => fallDue_of_none fun i s hs => ?_
  simp only [noFireAt, List.all_eq_true, decide_eq_true_eq] at h
  simpa using h s (List.mem_of_getElem? hs)

/-- A string that is not PENDING, or holds another angle, is left alone by a step onto `x` (R120, R131). -/
theorem stringsAtAngle_getElem?_of_not_due {x i : Nat} {d : Device} {z : SelString} (hi : i < stringCount d)
    (hz : d.strings.strings[i]? = some z) (h : z.chain ≠ .pending ∨ z.fireAngle ≠ some x) :
    (stringsAtAngle x d).strings.strings[i]? = some z := by
  have hnot : fallsDue (fun _ s => decide (s.fireAngle = some x)) i z = false := by
    rcases h with h | h <;> simp [fallsDue, h]
  unfold stringsAtAngle
  cases firesByAngle d
  · exact hz
  · rw [doIf_true, fallDue_getElem? hi hz]
    simp [hnot]

/-! ## What a fire reports (R120) -/

/-- Strings are reported as fired, and nothing else changes in the fire timer. -/
def OnlyReports (a b : FireTimer) : Prop :=
  ∃ g : Nat → Bool, b = { a with strings := a.strings.mapIdx fun i r => { r with fired := r.fired || g i } }

theorem fallDue_onlyReports (p : Nat → SelString → Bool) (d : Device) : OnlyReports d.fire (fallDue p d).fire :=
  ⟨_, fallDue_fire p d⟩

theorem OnlyReports.refl (a : FireTimer) : OnlyReports a a :=
  ⟨fun _ => false, by simp [List.mapIdx_eq_zipIdx_map]⟩

theorem stringsAtAngle_onlyReports (x : Nat) (d : Device) : OnlyReports d.fire (stringsAtAngle x d).fire := by
  unfold stringsAtAngle
  cases firesByAngle d
  · exact .refl _
  · exact fallDue_onlyReports _ d

section
variable {a b : FireTimer} (h : OnlyReports a b)
include h

theorem OnlyReports.kept : b.phase = a.phase ∧ b.waves = a.waves ∧ b.recip = a.recip ∧ b.strings.length = a.strings.length ∧
    b.strings.map (·.angle) = a.strings.map (·.angle) := by
  obtain ⟨g, rfl⟩ := h
  refine ⟨rfl, rfl, rfl, List.length_mapIdx, List.ext_getElem? fun i => ?_⟩
  simp [Function.comp_def]

theorem OnlyReports.fired {i : Nat} {r : FireString} (hr : a.strings[i]? = some r) (hf : r.fired = true) :
    b.strings[i]? = some r := by
  obtain ⟨g, rfl⟩ := h
  cases r
  simp_all

theorem OnlyReports.string {i : Nat} {r : FireString} (hr : a.strings[i]? = some r) :
    ∃ y, b.strings[i]? = some y ∧ y.lead = r.lead ∧ y.angle = r.angle ∧ y.basis = r.basis ∧ y.advance = r.advance ∧
      (r.fired = true → y.fired = true) := by
  obtain ⟨g, rfl⟩ := h
  exact ⟨{ r with fired := r.fired || g i }, by simp [hr], rfl, rfl, rfl, rfl, fun hf => by simp [hf]⟩

end

/-! ## Latencies (R115) -/

/-- The latencies of the strings, in order. -/
def latencies (d : Device) : List (Option Nat) := d.strings.strings.map (·.latency)

theorem latency_congr {d t : Device} (h : latencies t = latencies d) (i : Nat) :
    (t.strings.strings[i]?).bind (·.latency) = (d.strings.strings[i]?).bind (·.latency) := by
  have hat (x : Device) : (x.strings.strings[i]?).bind (·.latency) = ((latencies x)[i]?).bind id := by
    rw [latencies, List.getElem?_map]
    cases x.strings.strings[i]? <;> rfl
  rw [hat, hat, h]

theorem strings_length_congr {d t : Device} (h : latencies t = latencies d) :
    t.strings.strings.length = d.strings.strings.length := by
  simpa [latencies] using congrArg List.length h

theorem mapStrings_latencies {f : Nat → SelString → SelString} (h : ∀ i s, (f i s).latency = s.latency) (d : Device) :
    latencies (mapStrings f d) = latencies d := by
  refine List.ext_getElem? fun i => ?_
  simp only [latencies, List.getElem?_map, mapStrings_getElem?, Option.map_map]
  congr 1
  funext s
  simp only [Function.comp_apply]
  split
  · exact h i s
  · rfl

theorem doIf_latencies (c : Bool) {f : Device → Device} {d : Device} (h : latencies (f d) = latencies d) :
    latencies (doIf c f d) = latencies d := doIf_keeps latencies c f d h

theorem fallDue_latencies (p : Nat → SelString → Bool) (d : Device) : latencies (fallDue p d) = latencies d := by
  rw [fallDue_eq, mapStrings_latencies (fun i s => by split <;> rfl), fireWhere,
    mapStrings_latencies (fun i s => by split <;> rfl)]
  exact doIf_latencies _ rfl

theorem stringsAtAngle_latencies (x : Nat) (d : Device) : latencies (stringsAtAngle x d) = latencies d :=
  doIf_latencies _ (fallDue_latencies _ d)

theorem handString_latency (a : Nat) (s : SelString) : (handString a s).latency = s.latency := by
  unfold handString
  split <;> rfl

theorem computeStrings_latencies (c : Configuration) (held : Bool) (d : Device) :
    latencies (computeStrings c held d) = latencies d := by
  unfold computeStrings
  dsimp only
  refine (doIf_latencies _ rfl).trans ((doIf_latencies _ rfl).trans (mapStrings_latencies (fun i s => ?_) _))
  split
  · split
    · rfl
    · exact handString_latency _ s
  · rfl

theorem recompute_latencies (c : Configuration) (d : Device) : latencies (recompute c d) = latencies d :=
  (fallDue_latencies _ _).trans (computeStrings_latencies c false d)

theorem wakePower_lists (d : Device) :
    (wakePower d).strings.strings = d.strings.strings ∧ (wakePower d).strings.blank = d.strings.blank := by
  unfold wakePower
  split <;> exact ⟨rfl, rfl⟩

theorem wakePower_latencies (d : Device) : latencies (wakePower d) = latencies d :=
  congrArg (List.map SelString.latency) (wakePower_lists d).1

/-- The firing of a string depends on the reciprocal, the speed state and the string's latency alone (R117 to R119). -/
theorem firingAt_congr {d t : Device} (hrecip : t.fire.recip = d.fire.recip) (hspeed : t.tracker.speed = d.tracker.speed)
    (hlatency : latencies t = latencies d) : firingAt t = firingAt d := by
  funext c held i r
  simp only [firingAt, firingOf, hrecip, hspeed, latency_congr hlatency]

/-! ## The strings after a lapse (R126, R127) -/

/-- A lapse moves power, enables and the stepped operation. -/
theorem beforeStep_stringDriver (dt : Lapse) (sense : List StringBits) (d : Device) :
    (beforeStep dt sense d).strings = { d.strings with
      power := elapsePower dt.ticks d.strings.power
      strings := d.strings.strings.map fun s => { s with drive := elapseDrive (inrushTicks d) dt.ticks s.drive }
      test := { d.strings.test with op := elapseStep dt.ticks d.strings.test.op } } := by
  simp [beforeStep, elapse_strings]

@[simp] theorem beforeStep_fire (dt : Lapse) (sense : List StringBits) (d : Device) :
    (beforeStep dt sense d).fire = d.fire := by
  simp [beforeStep]

theorem beforeStep_latencies (dt : Lapse) (sense : List StringBits) (d : Device) :
    latencies (beforeStep dt sense d) = latencies d := by
  simp [latencies, beforeStep_stringDriver, Function.comp_def]

theorem beforeStep_getElem? {i : Nat} {d : Device} {z : SelString} (dt : Lapse) (sense : List StringBits)
    (hz : d.strings.strings[i]? = some z) :
    (beforeStep dt sense d).strings.strings[i]? = some { z with drive := elapseDrive (inrushTicks d) dt.ticks z.drive } := by
  simp [beforeStep_stringDriver, hz]

/-- A dropped string is as it was. -/
theorem beforeStep_dropped {i : Nat} {d : Device} {z : SelString} (dt : Lapse) (sense : List StringBits)
    (hz : d.strings.strings[i]? = some z) (hoff : z.drive = .off) :
    (beforeStep dt sense d).strings.strings[i]? = some z := by
  rw [beforeStep_getElem? dt sense hz, hoff]
  simp [elapseDrive, ← hoff]

theorem noFireAt_beforeStep (x : Nat) (dt : Lapse) (sense : List StringBits) (d : Device) :
    noFireAt x (beforeStep dt sense d) = noFireAt x d := by
  simp [noFireAt, beforeStep_stringDriver, Function.comp_def]

end Sys2Proof.Machine
end

section
/-! SUPPORT. A counting step in WEAVE up to its crossings: one that goes on and completes no span, and one that completes a span in
SET (R1, R8 to R12, R116, R121, R127). -/

namespace Sys2Proof.Machine

/-! ## The step -/

/-- A step of a referenced station onto an angle ends with the crossings of that angle, in either direction (R5, R6). -/
theorem exec_onto {dir : Direction} {a b : Bool} (dt : Lapse) (sense : List StringBits) {s : State} {c : Configuration} {x : Nat}
    (hr : referencedBy c s.dev = true) (hs : stepsOnto dir a b x s.dev = true) :
    exec (.countingStep a b false dt sense) s =
      .next { s with dev := crossingsOf dir c s.dev.control.role x (steppedOnto dir dt sense s.dev) } := by
  obtain ⟨hp, hc, -, href, hindex⟩ := (referencedBy_iff c s.dev).mp hr
  simp only [stepsOnto, Bool.and_eq_true, decide_eq_true_eq] at hs
  obtain ⟨hdir, hangle⟩ := hs
  have hdist : (stepDistance dir (beforeStep dt sense s.dev).tracker).natAbs < 8256 := by
    cases dir <;> simp only [stepDistance, beforeStep_tracker, elapseTracker_frame, href, if_true] <;> omega
  rw [exec_countingStep hp (stepPhase_of_directionOf hdir),
    takeStep_crossings (c := c) (by simpa using hc) (by simpa using href) hdist]
  simp [steppedOnto, hangle]

theorem stepsOnto_angle {dir : Direction} {a b : Bool} {x : Nat} {d : Device} (h : stepsOnto dir a b x d = true) :
    stepAngle dir d.tracker.angle = x ∧ x < 4096 := by
  simp only [stepsOnto, Bool.and_eq_true, decide_eq_true_eq] at h
  obtain ⟨-, rfl⟩ := h
  cases dir <;> exact ⟨rfl, Nat.mod_lt _ (by decide)⟩

/-- The tracker that a step finds after its lapse leaves (R1, R8). -/
theorem steppedOnto_tracker (dir : Direction) (dt : Lapse) (sense : List StringBits) (d : Device) :
    (steppedOnto dir dt sense d).tracker = stepTracker d.control.config dir (elapseTracker dt.ticks d.tracker) := by
  simp [steppedOnto]

section
variable {dir : Direction} {d : Device} (h : d.control.state = .weave)
include h

/-- In WEAVE a step hands on the change of speed state, wakes string power and fires the strings of its angle (R1, R127). -/
theorem atCrossing_along {x : Nat} (hturn : turns dir d.tracker = false) (hx : stepAngle dir d.tracker.angle = x) :
    atCrossing dir d = doIf (decide (dir = .forward)) (stringsAtAngle x) (wakePower
      (handSpeed d.tracker.speed (completes dir d.tracker) (onTracker (stepTracker d.control.config dir) d))) := by
  simp only [atCrossing, stepHanded_weave h, hturn, doIf_false, wakePower_frame, handSpeed_frame, onTracker_tracker,
    stepTracker_frame, hx]

end

/-! ## A step that goes on (R8, R12) -/

theorem goesOn_iff (dir : Direction) (d : Device) :
    goesOn dir d = true ↔
      d.tracker.dir = dir ∧ (d.tracker.speed = .stalled ∨ ∀ n, d.tracker.spanCounts = some n → n + 1 < 16) := by
  cases hcounts : d.tracker.spanCounts <;> simp [goesOn, hcounts]

/-- A step that goes on leaves FAST as it was. -/
theorem stepTracker_goesOn (cfg : Option Configuration) {t : Tracker}
    (h : t.speed = .stalled ∨ ∀ n, t.spanCounts = some n → n + 1 < 16) :
    completes t.dir t = false ∧ ((stepTracker cfg t.dir t).speed = .fast ↔ t.speed = .fast) := by
  by_cases hs : t.speed = .stalled
  · obtain ⟨-, -, hspeed, -⟩ := stepTracker_stalled cfg hs
    simp [completes, hspeed, hs]
  · replace h := h.resolve_left hs
    cases hcounts : t.spanCounts with
    | none => simp [completes, stepTracker, stepSpan, turns, hs, hcounts, countSpan, anchored]
    | some n =>
      have hn := h n hcounts
      simp [completes, stepTracker, stepSpan, turns, hs, hcounts, countSpan, hn, Nat.lt_of_succ_lt_succ hn]

/-- A step that neither completes a span nor enters or leaves FAST hands nothing on (R10, R121, R122). -/
theorem handSpeed_unchanged {before : Speed} {d : Device} (h : d.tracker.speed = .fast ↔ before = .fast) :
    handSpeed before false d = d := by
  by_cases hb : before = .fast <;> simp [handSpeed, h, hb, doIf_false]

/-- A forward step that goes on, onto an angle that no string holds, reaches the blocks by its crossings alone. -/
theorem steppedOnto_goesOn {x : Nat} {a b : Bool} {d : Device} (dt : Lapse) (sense : List StringBits)
    (hweave : d.control.state = .weave) (hgoes : goesOn .forward d = true) (hs : stepsOnto .forward a b x d = true)
    (hnone : noFireAt x d = true) :
    steppedOnto .forward dt sense d =
      wakePower (onTracker (stepTracker d.control.config .forward) (beforeStep dt sense d)) ∧
    ((steppedOnto .forward dt sense d).tracker.speed = .fast ↔ d.tracker.speed = .fast) := by
  obtain ⟨hdir, hspan⟩ := (goesOn_iff _ _).mp hgoes
  obtain ⟨hangle, -⟩ := stepsOnto_angle hs
  obtain ⟨hcompletes, hfast⟩ := stepTracker_goesOn d.control.config (t := elapseTracker dt.ticks d.tracker) (by simpa using hspan)
  simp only [elapseTracker_frame, hdir] at hcompletes hfast
  refine ⟨?_, by rw [steppedOnto_tracker, hfast]⟩
  rw [steppedOnto, atCrossing_along (x := x) (by simpa using hweave) (by simp [turns, hdir]) (by simpa using hangle),
    beforeStep_tracker, hcompletes, handSpeed_unchanged (by simpa using hfast), decide_eq_true rfl, doIf_true]
  refine (stringsAtAngle_of_none ?_).trans (by simp)
  rw [noFireAt, (wakePower_lists _).1]
  exact (noFireAt_beforeStep x dt sense d).trans hnone

/-- Fire timer and strings as such a step leaves them to its crossings: those the lapse has left. -/
theorem steppedOnto_goesOn_strings {x : Nat} {a b : Bool} {d : Device} (dt : Lapse) (sense : List StringBits)
    (hweave : d.control.state = .weave) (hgoes : goesOn .forward d = true) (hs : stepsOnto .forward a b x d = true)
    (hnone : noFireAt x d = true) :
    (steppedOnto .forward dt sense d).fire = d.fire ∧
    (steppedOnto .forward dt sense d).strings.strings = (beforeStep dt sense d).strings.strings := by
  rw [(steppedOnto_goesOn dt sense hweave hgoes hs hnone).1, (wakePower_lists _).1]
  simp

/-! ## A step that completes a span in SET (R116, R121) -/

/-- The span in SET is recomputed where the counter lies between C and K, and ends the computation elsewhere. -/
theorem fireSpan_set {c : Configuration} {d : Device} (n : Nat) (hc : d.control.config = some c)
    (hrole : d.control.role = .sectionRole) (hphase : d.fire.phase = .set) :
    fireSpan n d =
      if inArc d.tracker.angle c.c c.k then recompute c (onFire (fun t => { t with recip := recipOf n }) d)
      else onFire (fun t => { t with recip := recipOf n, phase := .past }) d := by
  simp [fireSpan, isSection, hrole, hc, hphase, onFire]

/-- The station with which the strings are computed at a completed span: the lapse has passed, the step is counted, the span's
reciprocal formed. -/
structure SpanTaken (dt : Lapse) (sense : List StringBits) (d p : Device) : Prop where
  recip : p.fire.recip = p.tracker.span.bind recipOf
  phase : p.fire.phase = d.fire.phase
  waves : p.fire.waves = d.fire.waves
  records : p.fire.strings = d.fire.strings
  strings : p.strings = (beforeStep dt sense d).strings
  state : p.control.state = d.control.state
  role : p.control.role = d.control.role
  config : p.control.config = d.control.config

theorem steppedOnto_completes {c : Configuration} {x : Nat} {a b : Bool} {d : Device} (dt : Lapse) (sense : List StringBits)
    (hweave : d.control.state = .weave) (hc : d.control.config = some c) (hrole : d.control.role = .sectionRole)
    (hdir : d.tracker.dir = .forward) (hmoving : d.tracker.speed ≠ .stalled) (hcounts : d.tracker.spanCounts = some 15)
    (hs : stepsOnto .forward a b x d = true) (hphase : d.fire.phase = .set) :
    ∃ p, SpanTaken dt sense d p ∧ p.tracker.angle = x ∧
      steppedOnto .forward dt sense d = stringsAtAngle x (wakePower
        (if inArc x c.c c.k then recompute c p else onFire (fun t => { t with phase := .past }) p)) := by
  obtain ⟨hangle, -⟩ := stepsOnto_angle hs
  have hcompletes : completes .forward (elapseTracker dt.ticks d.tracker) = true := by
    simp [completes, turns, hmoving, hdir, hcounts]
  obtain ⟨hspan, -⟩ := stepTracker_completes d.control.config (t := elapseTracker dt.ticks d.tracker) (by simpa using hmoving)
    (by simpa using hcounts)
  generalize spanOf (elapseTracker dt.ticks d.tracker) = n at hspan
  simp only [elapseTracker_frame, hdir] at hspan
  generalize hq : doIf (decide (d.tracker.speed ≠ .fast) &&
    decide ((stepTracker d.control.config .forward (elapseTracker dt.ticks d.tracker)).speed = .fast)) (setFlag .fast)
    (onTracker (stepTracker d.control.config .forward) (beforeStep dt sense d)) = q
  have hhanded : handSpeed d.tracker.speed true (onTracker (stepTracker d.control.config .forward) (beforeStep dt sense d)) =
      fireSpan n q := by
    simp [handSpeed, hspan, ← hq]
  have hqtracker : q.tracker = stepTracker d.control.config .forward (elapseTracker dt.ticks d.tracker) := by simp [← hq]
  refine ⟨onFire (fun t => { t with recip := recipOf n }) q, ⟨?_, ?_, ?_, ?_, ?_, ?_, ?_, ?_⟩, ?_, ?_⟩
  · simp [hspan, ← hq]
  · simp [← hq]
  · simp [← hq]
  · simp [← hq]
  · simp [← hq]
  · simp [← hq]
  · simp [← hq]
  · simp [← hq]
  · simp [hqtracker, hangle]
  · rw [steppedOnto, atCrossing_along (x := x) (by simpa using hweave) (by simp [turns, hdir]) (by simpa using hangle),
      beforeStep_tracker, hcompletes, decide_eq_true rfl, doIf_true]
    simp only [elapseTracker_frame, beforeStep_frame]
    rw [hhanded, fireSpan_set (c := c) n (by simp [← hq, hc]) (by simp [← hq, hrole]) (by simp [← hq, hphase])]
    simp [hqtracker, hangle, onFire]

end Sys2Proof.Machine
end

section
/-! SUPPORT. A span completed in SET: the strings computed anew, those whose angle has been passed fired at once (R116, R119 to R121,
R131). -/

namespace Sys2Proof.Machine

/-! ## A recomputation, string by string (R119, R120) -/

/-- The record of a string not reported as fired after a recomputation. -/
theorem recompute_record {c : Configuration} {d : Device} {i : Nat} {r : FireString} (hi : i < stringCount d)
    (hr : d.fire.strings[i]? = some r) (hf : r.fired = false) :
    ∃ y, (recompute c d).fire.strings[i]? = some y ∧ y.lead = r.lead ∧ y.angle = some (firingAt d c false i r).angle ∧
      y.basis = some (firingAt d c false i r).basis ∧ y.advance = (firingAt d c false i r).advance := by
  have hunfired : unfired d i = true := by simp [unfired, hi, hr, hf]
  have hcomputed : (computeStrings c false d).fire.strings[i]? = some (withFiring (firingAt d c false i r) r) := by
    simp [computeStrings_fire, hr, hunfired]
  obtain ⟨y, hy, hlead, hangle, hbasis, hadvance, -⟩ := (fallDue_onlyReports _ (computeStrings c false d)).string hcomputed
  exact ⟨y, hy, hlead, hangle, hbasis, hadvance⟩

theorem recompute_kept (c : Configuration) (d : Device) :
    (recompute c d).fire.phase = d.fire.phase ∧ (recompute c d).fire.waves = d.fire.waves ∧
    (recompute c d).fire.recip = d.fire.recip := by
  have hfire : (recompute c d).fire = _ := fallDue_fire _ _
  simp only [hfire, computeStrings_fire, true_and]

/-- A PENDING string after a recomputation: it holds its new angle, and fires or waits where that has been passed. -/
theorem recompute_pending {c : Configuration} {d : Device} {i : Nat} {r : FireString} {z : SelString} (hi : i < stringCount d)
    (hr : d.fire.strings[i]? = some r) (hf : r.fired = false) (hz : d.strings.strings[i]? = some z)
    (hpending : z.chain = .pending) (hwaiting : z.waiting = false) :
    (recompute c d).strings.strings[i]? = some
      (if inArc d.tracker.angle (firingAt d c false i r).angle c.k && !d.strings.blank then
        if readyToFire d z then fireString { z with fireAngle := some (firingAt d c false i r).angle }
        else { z with fireAngle := some (firingAt d c false i r).angle, waiting := true }
      else { z with fireAngle := some (firingAt d c false i r).angle }) := by
  have hhanded : (computeStrings c false d).strings.strings[i]? =
      some { z with fireAngle := some (firingAt d c false i r).angle } := by
    rw [computeStrings_getElem? hi hr hf hz]
    simp [handString, hpending]
  rw [recompute, firePassed, fallDue_getElem? (by simpa using hi) hhanded]
  simp [fallsDue, hpending, hwaiting, readyToFire]

/-! ## The crossings that leave the computation alone (R7, R112) -/

/-- A close made in another phase than IDLE hands the fire timer nothing (R112). -/
theorem rosterClose_not_idle {d : Device} (h : d.fire.phase ≠ .idle) :
    (rosterClose d).fire = d.fire ∧ (rosterClose d).strings = d.strings := by
  have hclose (n : Snapshot) (x : Device) (hx : x.fire.phase ≠ .idle) : fireClose n x = x := by
    unfold fireClose
    split <;> simp [hx]
  unfold rosterClose
  dsimp only
  split
  · split
    · rw [closeSection, hclose _ _ (by simpa using h)]
      simp
    · simp [closeWeft]
  · simp

theorem stringsForwardW_fire (d : Device) : (stringsForwardW d).fire = d.fire := by
  unfold stringsForwardW
  cases hturning : turningTest d
  · rfl
  · have hmode : d.strings.mode = .test := by
      simp only [turningTest, Bool.and_eq_true, decide_eq_true_eq] at hturning
      exact hturning.1
    simp [doIf_true, fallDue, fireWhere, firesByAngle, hmode, doIf_false]

section
variable {c : Configuration} {x : Nat} {d : Device} (hb : x ≠ c.b) (hk : x ≠ c.k) (hphase : d.fire.phase ≠ .idle)
include hb hk hphase

/-- Away from B and K the crossings of a forward step leave a computation as it stands. -/
theorem forwardCrossings_fire : (forwardCrossings c .sectionRole x d).fire = d.fire := by
  have hclose (y : Device) (hy : y.fire = d.fire) : (doIf (decide (x = c.c)) rosterClose y).fire = y.fire := by
    exact doIf_keeps (·.fire) _ _ _ (rosterClose_not_idle (by rwa [hy])).1
  have hturning (y : Device) : (doIf (decide (x = c.w)) stringsForwardW y).fire = y.fire :=
    doIf_keeps (·.fire) _ _ _ (stringsForwardW_fire y)
  have hguard : (doIf (decide (x = guardEnd c)) forwardGuardEnd d).fire = d.fire := by simp
  simp [forwardCrossings, hb, hk, doIf_false, hturning, hclose _ hguard]

/-- Away from D too they keep each string's latency. -/
theorem forwardCrossings_latencies (hd : x ≠ c.d) : latencies (forwardCrossings c .sectionRole x d) = latencies d := by
  have hclose (y : Device) (hy : y.fire = d.fire) : latencies (doIf (decide (x = c.c)) rosterClose y) = latencies y := by
    exact doIf_latencies _ (by rw [latencies, (rosterClose_not_idle (by rwa [hy])).2]; rfl)
  have hturning (y : Device) : latencies (doIf (decide (x = c.w)) stringsForwardW y) = latencies y :=
    doIf_latencies _ (doIf_latencies _ (fallDue_latencies _ y))
  have hguard : (doIf (decide (x = guardEnd c)) forwardGuardEnd d).fire = d.fire := by simp
  simp [forwardCrossings, hb, hk, hd, doIf_false, hturning, hclose _ hguard]
  simp [latencies]

/-- With no test pick they leave the strings as they are. -/
theorem forwardCrossings_strings (hd : x ≠ c.d) (hmode : d.strings.mode ≠ .test) :
    (forwardCrossings c .sectionRole x d).strings = d.strings := by
  have hclose (y : Device) (hy : y.fire = d.fire) : (doIf (decide (x = c.c)) rosterClose y).strings = y.strings := by
    exact doIf_keeps (·.strings) _ _ _ (rosterClose_not_idle (by rwa [hy])).2
  have hturning (y : Device) (hy : y.strings.mode ≠ .test) : (doIf (decide (x = c.w)) stringsForwardW y).strings = y.strings := by
    refine doIf_keeps (·.strings) _ _ _ ?_
    simp [stringsForwardW, turningTest, hy, doIf_false]
  have hguard : (doIf (decide (x = guardEnd c)) forwardGuardEnd d).fire = d.fire := by simp
  have hguarded : (doIf (decide (x = guardEnd c)) forwardGuardEnd d).strings = d.strings := by simp
  have hclosed := (hclose _ hguard).trans hguarded
  simp [forwardCrossings, hb, hk, hd, doIf_false, hturning _ (hclosed ▸ hmode), hclosed]

end

/-! ## The step that completes a span in SET -/

/-- D lies past K, outside the arc from C to K (R171). -/
theorem ne_d_of_inArc {c : Configuration} {x : Nat} (h : soundConfig .sectionRole c = true) (hx : inArc x c.c c.k = true) :
    x ≠ c.d := by
  obtain ⟨-, -, hw, hk, hd⟩ := section_angles_rise h
  have hrevolution := arc_lt c.b c.d
  rintro rfl
  simp only [inArc_iff, arc_eq] at *
  omega

/-- An angle other than K has been passed at itself. -/
theorem inArc_self_of_ne {x k : Nat} (hx : x < 4096) (hk : k < 4096) (h : x ≠ k) : inArc x x k = true := by
  refine inArc_start ?_
  rw [arc_eq]
  omega

theorem section_k_lt {c : Configuration} (h : soundConfig .sectionRole c = true) : c.k < 4096 := by
  simp only [soundConfig, fieldsInRange, roleAngles, Bool.and_eq_true, decide_eq_true_eq, List.all_cons] at h
  omega

end Sys2Proof.Machine
end

section
/-! SUPPORT. What a step hands on after the fire timer has computed the strings, and what a span completed in SET leaves (R119 to R121). -/

namespace Sys2Proof.Machine

/-! ## A computation handed on -/

/-- The rest of a forward step after the fire timer has taken its part: power wakes, the strings at the angle fire, the crossings of
the angle are raised (R1). -/
def handedOn (c : Configuration) (x : Nat) (m : Device) : Device :=
  forwardCrossings c .sectionRole x (stringsAtAngle x (wakePower m))

theorem fired_not_idle (x : Nat) {m : Device} (h : m.fire.phase ≠ .idle) :
    (stringsAtAngle x (wakePower m)).fire.phase ≠ .idle := by
  obtain ⟨hkept, -⟩ := (stringsAtAngle_onlyReports x (wakePower m)).kept
  rw [hkept]
  simpa using h

section
variable {c : Configuration} {x : Nat} {m : Device} (hb : x ≠ c.b) (hk : x ≠ c.k) (hphase : m.fire.phase ≠ .idle)
include hb hk hphase

theorem handedOn_reports : OnlyReports m.fire (handedOn c x m).fire := by
  rw [handedOn, forwardCrossings_fire hb hk (fired_not_idle x hphase)]
  simpa using stringsAtAngle_onlyReports x (wakePower m)

theorem handedOn_latencies (hd : x ≠ c.d) : latencies (handedOn c x m) = latencies m := by
  rw [handedOn, forwardCrossings_latencies hb hk (fired_not_idle x hphase) hd, stringsAtAngle_latencies,
    wakePower_latencies]

/-- A string that holds another angle, or is not PENDING, ends the step as the computation left it. -/
theorem handedOn_getElem? {i : Nat} {z : SelString} (hd : x ≠ c.d) (hmode : m.strings.mode ≠ .test) (hi : i < stringCount m)
    (hz : m.strings.strings[i]? = some z) (hnot : z.chain ≠ .pending ∨ z.fireAngle ≠ some x) :
    (handedOn c x m).strings.strings[i]? = some z := by
  rw [handedOn, forwardCrossings_strings hb hk (fired_not_idle x hphase) hd (by simpa using hmode)]
  have hcount : stringCount (wakePower m) = stringCount m := stringCount_eq (by simp) (by simp)
  exact stringsAtAngle_getElem?_of_not_due (by rwa [hcount]) (by rwa [(wakePower_lists m).1]) hnot

end

theorem handedOn_tracker (c : Configuration) (x : Nat) (m : Device) : (handedOn c x m).tracker = m.tracker := by
  simp [handedOn]

/-- A span completed outside the arc from C to K ends the computation and keeps every angle (R121). -/
theorem pastSpan_fire {c : Configuration} {x : Nat} {p t : Device} (hb : x ≠ c.b) (hk : x ≠ c.k)
    (ht : t = handedOn c x (onFire (fun f => { f with phase := .past }) p)) :
    t.tracker = p.tracker ∧ t.fire.phase = .past ∧ t.fire.waves = p.fire.waves ∧ t.fire.recip = p.fire.recip ∧
    t.fire.strings.map (·.angle) = p.fire.strings.map (·.angle) := by
  subst ht
  obtain ⟨hphase, hwaves, hrecip, -, hangles⟩ :=
    (handedOn_reports hb hk (m := onFire (fun f => { f with phase := .past }) p) (by simp)).kept
  exact ⟨handedOn_tracker _ _ _, hphase, hwaves, hrecip, hangles⟩

/-- One completed inside it keeps phase, waves and the strings that have fired (R121). -/
theorem recomputed_fire {c : Configuration} {x : Nat} {p t : Device} (hb : x ≠ c.b) (hk : x ≠ c.k) (hphase : p.fire.phase = .set)
    (ht : t = handedOn c x (recompute c p)) :
    t.tracker = p.tracker ∧ t.fire.phase = .set ∧ t.fire.waves = p.fire.waves ∧ t.fire.recip = p.fire.recip ∧
    ∀ (i : Nat) (r : FireString), p.fire.strings[i]? = some r → r.fired = true → t.fire.strings[i]? = some r := by
  subst ht
  obtain ⟨hset, hwaves, hrecip⟩ := recompute_kept c p
  have hreports := handedOn_reports hb hk (m := recompute c p) (by simp [hset, hphase])
  obtain ⟨hset', hwaves', hrecip', -⟩ := hreports.kept
  exact ⟨(handedOn_tracker _ _ _).trans (by simp), (hset'.trans hset).trans hphase, hwaves'.trans hwaves, hrecip'.trans hrecip,
    fun i r hr hf => hreports.fired (recompute_fire_of_fired c hr hf) hf⟩

/-! ## The strings of a span completed in SET (R119 to R121) -/

/-- The record of a string not yet fired: its lead, and the firing of the new span. -/
theorem recomputed_record {c : Configuration} {x i : Nat} {p : Device} {r : FireString} (hb : x ≠ c.b) (hk : x ≠ c.k)
    (hphase : p.fire.phase = .set) (hi : i < stringCount p) (hr : p.fire.strings[i]? = some r) (hf : r.fired = false) :
    ∃ y, (handedOn c x (recompute c p)).fire.strings[i]? = some y ∧ y.lead = r.lead ∧
      y.angle = some (firingAt p c false i r).angle ∧ y.basis = some (firingAt p c false i r).basis ∧
      y.advance = (firingAt p c false i r).advance := by
  obtain ⟨hset, -, -⟩ := recompute_kept c p
  obtain ⟨y, hy, hlead, hnew, hbasis, hadvance⟩ := recompute_record (c := c) hi hr hf
  obtain ⟨w, hw, hlead', hnew', hbasis', hadvance', -⟩ := (handedOn_reports hb hk (by simp [hset, hphase])).string hy
  exact ⟨w, hw, hlead'.trans hlead, hnew'.trans hnew, hbasis'.trans hbasis, hadvance'.trans hadvance⟩

section
variable {c : Configuration} {x : Nat} {p : Device} (hsound : soundConfig .sectionRole c = true) (hb : x ≠ c.b)
  (hk : x ≠ c.k) (hphase : p.fire.phase = .set) (harc : inArc x c.c c.k = true)
include hsound hb hk hphase harc

theorem recomputed_firingAt : firingAt (handedOn c x (recompute c p)) = firingAt p := by
  obtain ⟨hset, -, hrecip⟩ := recompute_kept c p
  have hbusy : (recompute c p).fire.phase ≠ .idle := by simp [hset, hphase]
  obtain ⟨-, -, hkept, -⟩ := (handedOn_reports hb hk hbusy).kept
  exact firingAt_congr (hkept.trans hrecip) (by simp [handedOn_tracker])
    ((handedOn_latencies hb hk hbusy (ne_d_of_inArc hsound harc)).trans (recompute_latencies c p))

section
variable {i : Nat} {r : FireString} {z : SelString} (hi : i < stringCount p) (hr : p.fire.strings[i]? = some r)
  (hf : r.fired = false) (hz : p.strings.strings[i]? = some z) (hpending : z.chain = .pending) (hwaiting : z.waiting = false)
  (hmode : p.strings.mode ≠ .test) (hangle : p.tracker.angle = x)
include hangle hi hr hf hz hpending hwaiting hmode

/-- A PENDING string whose angle has been passed fires at once where it is ready (R120, R131). -/
theorem recomputed_fires (hpassed : inArc x (firingAt p c false i r).angle c.k = true) (hready : readyToFire p z = true) :
    (handedOn c x (recompute c p)).strings.strings[i]? =
      some (fireString { z with fireAngle := some (firingAt p c false i r).angle }) := by
  have hblank : p.strings.blank = false := by
    simp only [readyToFire, Bool.and_eq_true, Bool.not_eq_true'] at hready
    exact hready.1.2
  refine handedOn_getElem? hb hk (by simp [(recompute_kept c p).1, hphase]) (ne_d_of_inArc hsound harc) (by simpa using hmode)
    (by rwa [stringCount_eq (d := p) (by simp) (by simp)]) ?_ (.inl (by simp [fireString]))
  rw [recompute_pending hi hr hf hz hpending hwaiting, hangle]
  simp [hpassed, hready, hblank]

/-- One whose angle lies ahead holds it, and the step's own angle is not it. -/
theorem recomputed_holds (hlt : x < 4096) (hahead : inArc x (firingAt p c false i r).angle c.k = false) :
    (handedOn c x (recompute c p)).strings.strings[i]? = some { z with fireAngle := some (firingAt p c false i r).angle } := by
  have hother : (firingAt p c false i r).angle ≠ x := by
    intro he
    rw [he, inArc_self_of_ne hlt (section_k_lt hsound) hk] at hahead
    cases hahead
  refine handedOn_getElem? hb hk (by simp [(recompute_kept c p).1, hphase]) (ne_d_of_inArc hsound harc) (by simpa using hmode)
    (by rwa [stringCount_eq (d := p) (by simp) (by simp)]) ?_ (.inr (by simpa using hother))
  rw [recompute_pending hi hr hf hz hpending hwaiting, hangle]
  simp [hahead]

end

end

end Sys2Proof.Machine
end

section
/-! SUPPORT. The hand-over to the fire timer at the close: waves, leads, and the angle of every string (R112 to R119, R131). -/

namespace Sys2Proof.Machine

/-! ## The hand-over (R112 to R115) -/

theorem clearFired_of_none {d : Device} (h : (d.fire.strings.all fun r => !r.fired) = true) : clearFired d = d := by
  have hlist : d.fire.strings.map (fun r => { r with fired := false }) = d.fire.strings := by
    refine (List.map_congr_left fun r hr => ?_).trans (List.map_id _)
    have hf : r.fired = false := by simpa using List.all_eq_true.mp h r hr
    cases r
    simp_all
  simp only [clearFired, onFire, hlist]

/-- The hand-over in IDLE with no string reported as fired: waves and leads, then the computation. -/
theorem fireClose_eq {c : Configuration} {d : Device} (n : Snapshot) (hc : d.control.config = some c) (hidle : d.fire.phase = .idle)
    (hnone : (d.fire.strings.all fun r => !r.fired) = true) :
    fireClose n d = onFire (fun t => { t with phase := if d.fire.angleHold then .held else .set })
      (computeStrings c d.fire.angleHold (takeWaves c n d)) := by
  simp only [fireClose, hc, hidle, if_true, doIf_of_fixed fun _ => clearFired_of_none hnone]

/-- The wave figures of a snapshot by the announced counts `f` of its peers (R113, R114). -/
theorem wavesOf_eq {f : SnapshotEntry → Nat} (hf : announced = f) (m : Nat) (s : Snapshot) :
    (wavesOf m s).hooks = s.ownLift + (s.entries.map f).sum ∧
    (wavesOf m s).total = (if (wavesOf m s).hooks = 0 then 1 else ((wavesOf m s).hooks - 1) / m + 1) ∧
    (wavesOf m s).place = ((s.entries.filter fun e => decide (e.station < s.number)).map f).sum ∧
    (wavesOf m s).wave = min ((wavesOf m s).place / m) ((wavesOf m s).total - 1) := by
  subst hf
  exact ⟨rfl, rfl, rfl, rfl⟩

/-- The lead of the string numbered `i` by the waves of a snapshot (R115). -/
def leadAt (c : Configuration) (n : Snapshot) (d : Device) (i : Nat) : Nat :=
  leadTicks (wavesOf c.m n) c.p (((d.strings.strings[i]?).bind (·.latency)).getD 0)

@[simp] theorem stringCount_takeWaves (c : Configuration) (n : Snapshot) (d : Device) :
    stringCount (takeWaves c n d) = stringCount d := rfl

/-- The record of a string once the waves have been taken, and the firing that the computation then gives it. -/
theorem takeWaves_record {d : Device} {i : Nat} {r : FireString} (c : Configuration) (n : Snapshot) (hi : i < stringCount d)
    (hr : d.fire.strings[i]? = some r) :
    ∃ t, (takeWaves c n d).fire.strings[i]? = some t ∧ t.lead = some (leadAt c n d i) ∧ t.fired = r.fired ∧
      ∀ held, firingAt (takeWaves c n d) c held i t =
        firingOf d c held (leadAt c n d i) (((d.strings.strings[i]?).bind (·.latency)).getD 0) :=
  ⟨{ r with lead := some (leadAt c n d i) }, by simp [takeWaves, onFire, hr, hi, leadAt], rfl, rfl, fun _ => rfl⟩

theorem firingOf_congr {d t : Device} (hrecip : t.fire.recip = d.fire.recip)
    (hfast : t.tracker.speed = .fast ↔ d.tracker.speed = .fast) : firingOf t = firingOf d := by
  funext c held lead latency
  simp only [firingOf, hrecip, hfast]

/-! ## The flags of a computation (R118) -/

/-- A computed string that is crowded or too fast for its latency is reported. -/
theorem computeStrings_flags {c : Configuration} {held : Bool} {d : Device} {i : Nat} {r : FireString} (hi : i < stringCount d)
    (hr : d.fire.strings[i]? = some r) (hf : r.fired = false) :
    ((firingAt d c held i r).crowded = true → flagOf .crowded (computeStrings c held d).control = true) ∧
    ((firingAt d c held i r).overspeed = true → flagOf .overspeed (computeStrings c held d).control = true) := by
  have hunfired : unfired d i = true := by simp [unfired, hi, hr, hf]
  have hmem : firingAt d c held i r ∈ firings d c held := by
    refine List.mem_flatten.mpr ⟨[firingAt d c held i r], List.mem_of_getElem? (i := i) ?_, List.mem_singleton_self _⟩
    simp [hr, hunfired]
  unfold computeStrings
  dsimp only
  refine ⟨fun hcrowded => ?_, fun hoverspeed => ?_⟩
  · have hany : (firings d c held).any (·.crowded) = true := List.any_eq_true.mpr ⟨_, hmem, hcrowded⟩
    rw [hany, doIf_flagOf_of_forall (fun x => by simp), doIf_true]
    simp
  · have hany : (firings d c held).any (·.overspeed) = true := List.any_eq_true.mpr ⟨_, hmem, hoverspeed⟩
    rw [hany, doIf_true]
    simp

/-! ## The strings after the hand-over (R119, R131) -/

/-- What the hand-over of a snapshot leaves of fire timer, strings and flags. -/
structure HandedOver (c : Configuration) (n : Snapshot) (d t : Device) : Prop where
  phase : t.fire.phase = if d.fire.angleHold then .held else .set
  waves : t.fire.waves = some (wavesOf c.m n)
  records : t.fire.strings.length = d.fire.strings.length
  strings : t.strings.strings.length = d.strings.strings.length
  record : ∀ i f, i < stringCount d → i < d.fire.strings.length →
    f = firingOf d c d.fire.angleHold (leadAt c n d i) (((d.strings.strings[i]?).bind (·.latency)).getD 0) →
    t.fire.strings[i]? = some ⟨some (leadAt c n d i), f.advance, some f.angle, some f.basis, false⟩ ∧
    (∀ z, d.strings.strings[i]? = some z → t.strings.strings[i]? = some (handString f.angle z)) ∧
    (f.crowded = true → flagOf .crowded t.control = true) ∧ (f.overspeed = true → flagOf .overspeed t.control = true)

theorem fireClose_handedOver {c : Configuration} {d : Device} (n : Snapshot) (hc : d.control.config = some c)
    (hidle : d.fire.phase = .idle) (hnone : (d.fire.strings.all fun r => !r.fired) = true) :
    HandedOver c n d (fireClose n d) := by
  rw [fireClose_eq n hc hidle hnone]
  refine ⟨rfl, ?_, ?_, ?_, ?_⟩
  · simp [computeStrings_fire, takeWaves]
  · simp [computeStrings_fire, takeWaves]
  · simp [computeStrings, mapStrings]
  · rintro i f hi hlt rfl
    obtain ⟨r, hr⟩ : ∃ r, d.fire.strings[i]? = some r := ⟨_, List.getElem?_eq_getElem hlt⟩
    have hf : r.fired = false := by simpa using List.all_eq_true.mp hnone r (List.mem_of_getElem? hr)
    obtain ⟨t, ht, hlead, hsame, hfiring⟩ := takeWaves_record c n hi hr
    replace hf := hsame.trans hf
    have hunfired : unfired (takeWaves c n d) i = true := by simp [unfired, hi, ht, hf]
    rw [← hfiring]
    refine ⟨?_, fun z hz => ?_, ?_⟩
    · simp [computeStrings_fire, ht, hunfired, withFiring, hlead, hf]
    · exact computeStrings_getElem? (d := takeWaves c n d) hi ht hf hz
    · exact computeStrings_flags (d := takeWaves c n d) hi ht hf

/-- The hand-over depends on the fire timer, the strings and the speed state alone. -/
theorem HandedOver.of_found {c : Configuration} {n : Snapshot} {d x t : Device} (h : HandedOver c n x t) (hfire : x.fire = d.fire)
    (hstrings : x.strings.strings = d.strings.strings) (hcount : stringCount x = stringCount d)
    (hfast : x.tracker.speed = .fast ↔ d.tracker.speed = .fast) : HandedOver c n d t := by
  have hfiring := firingOf_congr (congrArg FireTimer.recip hfire) hfast
  obtain ⟨hphase, hwaves, hrecords, hlength, hrecord⟩ := h
  simp only [leadAt, hfiring, hfire, hstrings, hcount] at hphase hrecords hlength hrecord
  exact ⟨hphase, hwaves, hrecords, hlength, hrecord⟩

/-! ## The close of the pick at the fire timer (R104, R112) -/

/-- The close hands its snapshot to the fire timer, the strings as the close found them. -/
theorem rosterClose_handedOver {c : Configuration} {d : Device} (hweave : d.control.state = .weave)
    (hopen : d.roster.windowOpen = true) (hrole : d.control.role = .sectionRole) (hc : d.control.config = some c)
    (hidle : d.fire.phase = .idle) (hnone : (d.fire.strings.all fun r => !r.fired) = true) :
    ∃ n, (rosterClose d).roster.snapshot = some n ∧ HandedOver c n d (rosterClose d) := by
  obtain ⟨-, hcontrol, -⟩ := closing_kept d
  have hfire : (closing d).fire = d.fire := by simp [closing]
  obtain ⟨hroster, -⟩ := rosterClose_open hweave hopen hc
  refine ⟨takeSnapshot (discardBeacon true d), by rw [hroster]; simp [hrole], ?_⟩
  rw [rosterClose_section hweave hopen hrole]
  have hover := fireClose_handedOver (c := c) (d := checkWeftCode (judgeAgreement (countMisses (closing d))))
    (takeSnapshot (discardBeacon true d)) (by simp [hcontrol, hc]) (by simpa [hfire] using hidle) (by simpa [hfire] using hnone)
  have hclosed : HandedOver c (takeSnapshot (discardBeacon true d)) d _ :=
    hover.of_found (by simp [hfire]) (by simp [closing]) (stringCount_eq (by simp [hcontrol]) (by simp [hcontrol]))
      (by simp [closing])
  obtain ⟨hphase, hwaves, hrecords, hlength, hrecord⟩ := hclosed
  exact ⟨hphase, hwaves, hrecords, hlength, hrecord⟩

/-! ## The step onto C that goes on -/

/-- The step of a close hands over the strings as its lapse left them. -/
theorem steppedOnto_handedOver {c : Configuration} {a b : Bool} {d : Device} (dt : Lapse) (sense : List StringBits)
    (hweave : d.control.state = .weave) (hrole : d.control.role = .sectionRole) (hc : d.control.config = some c)
    (hgoes : goesOn .forward d = true) (hs : stepsOnto .forward a b c.c d = true) (hopen : d.roster.windowOpen = true)
    (hidle : d.fire.phase = .idle) (hnone : (d.fire.strings.all fun r => !r.fired) = true) (hfree : noFireAt c.c d = true) :
    ∃ n, (rosterClose (steppedOnto .forward dt sense d)).roster.snapshot = some n ∧
      HandedOver c n (beforeStep dt sense d) (rosterClose (steppedOnto .forward dt sense d)) := by
  obtain ⟨-, hspeed⟩ := steppedOnto_goesOn dt sense hweave hgoes hs hfree
  obtain ⟨hfire, hstrings⟩ := steppedOnto_goesOn_strings dt sense hweave hgoes hs hfree
  obtain ⟨-, -, hroster, -, -, hrole', hc', -⟩ := steppedOnto_frame .forward dt sense d
  obtain ⟨hweave', -⟩ := steppedOnto_weave (dir := .forward) (dt := dt) (sense := sense) hweave
  obtain ⟨n, hsnapshot, hover⟩ := rosterClose_handedOver hweave' (hroster ▸ hopen) (hrole'.trans hrole) (hc'.trans hc)
    (hfire ▸ hidle) (hfire ▸ hnone)
  exact ⟨n, hsnapshot, hover.of_found (by simpa using hfire) hstrings (stringCount_eq (by simp) (by simp)) (by simpa using hspeed)⟩

/-- One string after the hand-over, said of the station before the lapse. -/
theorem HandedOver.string {c : Configuration} {n : Snapshot} {d t : Device} {dt : Lapse} {sense : List StringBits} {i lead : Nat}
    {x : SelString} {f : Firing} (h : HandedOver c n (beforeStep dt sense d) t) (hi : i < stringCount d)
    (hx : d.strings.strings[i]? = some x) (hlt : i < d.fire.strings.length)
    (hlead : lead = leadTicks (wavesOf c.m n) c.p (x.latency.getD 0))
    (hf : f = firingOf d c d.fire.angleHold lead (x.latency.getD 0)) :
    t.fire.strings[i]? = some ⟨some lead, f.advance, some f.angle, some f.basis, false⟩ ∧
    (x.chain = .resting ∨ x.chain = .pending → t.strings.strings[i]? = some { x with
      chain := .pending, fireAngle := some f.angle, drive := elapseDrive (inrushTicks d) dt.ticks x.drive }) ∧
    (f.crowded = true → flagOf .crowded t.control = true) ∧ (f.overspeed = true → flagOf .overspeed t.control = true) := by
  have hx' := beforeStep_getElem? dt sense hx
  have hlead' : leadAt c n (beforeStep dt sense d) i = lead := by simp [leadAt, hx', hlead]
  have hfiring : firingOf (beforeStep dt sense d) = firingOf d := firingOf_congr (by simp) (by simp)
  have hcount : stringCount (beforeStep dt sense d) = stringCount d := stringCount_eq (by simp) (by simp)
  obtain ⟨hrecord, hstring, hflags⟩ := h.record i f (hcount.symm ▸ hi) (by simpa using hlt) (by
    rw [hlead', hfiring, beforeStep_fire, hx', hf]; rfl)
  refine ⟨hlead' ▸ hrecord, fun hchain => ?_, hflags⟩
  rw [hstring _ hx']
  rcases hchain with h | h <;> simp [handString, h]

end Sys2Proof.Machine
end

section
/-! SUPPORT. A turn that leaves FAST in SET outside a forward pick (R119, R122; log 47). -/

namespace Sys2Proof.Machine

/-! ## What a step's rest leaves of the strings handed W -/

/-- Waking power changes no string. -/
theorem FiresByW.wakes {c : Configuration} {x : Nat} {d t : Device} (h : FiresByW c x d t) : FiresByW c x d (wakePower t) := by
  simpa only [FiresByW, wakePower_frame, (wakePower_lists t).1] using h

/-- The strings handed W, at a step onto another angle (R120). -/
theorem FiresByW.atAngle {c : Configuration} {x : Nat} {d t : Device} (h : FiresByW c x d t)
    (hcount : stringCount t = stringCount d) (hw : x ≠ c.w) : FiresByW c x d (stringsAtAngle x t) := by
  obtain ⟨hphase, hwaves, hrecords, hlength, hstrings⟩ := h
  have hreports := stringsAtAngle_onlyReports x t
  obtain ⟨hphase', hwaves', -, hrecords', -⟩ := hreports.kept
  have hlength' := strings_length_congr (stringsAtAngle_latencies x t)
  refine ⟨hphase'.trans hphase, hwaves'.trans hwaves, hrecords'.trans hrecords, hlength'.trans hlength, fun i r hi hr => ?_⟩
  obtain ⟨hfired, hunfired⟩ := hstrings i r hi hr
  have hkeeps {z : SelString} (hz : t.strings.strings[i]? = some z) (hnot : z.chain ≠ .pending ∨ z.fireAngle = some c.w) :
      (stringsAtAngle x t).strings.strings[i]? = some z :=
    stringsAtAngle_getElem?_of_not_due (hcount.symm ▸ hi) hz (hnot.imp_right fun h => by simpa [h] using hw.symm)
  refine ⟨fun hf => hreports.fired (hfired hf) hf, fun hf => ?_⟩
  obtain ⟨⟨y, hy, hlead, hangle, hbasis⟩, hpending⟩ := hunfired hf
  obtain ⟨y', hy', hlead', hangle', hbasis', -, hreported⟩ := hreports.string hy
  refine ⟨⟨y', hy', hlead'.trans hlead, hangle'.trans hangle, hbasis'.trans hbasis⟩, fun z hz hchain hdrive hwaiting => ?_⟩
  obtain ⟨hholds, hwaits, hfires⟩ := hpending z hz hchain hdrive hwaiting
  refine ⟨fun hnot => hkeeps (hholds hnot) (.inr rfl), fun hpassed hblank hunready => hkeeps (hwaits hpassed hblank hunready) (.inr rfl),
    fun hpassed hblank hpattern hpower => ?_⟩
  obtain ⟨hz', hreport⟩ := hfires hpassed hblank hpattern hpower
  refine ⟨hkeeps hz' (.inl (by simp)), fun hmode => ?_⟩
  have hyfired : y.fired = true := by simpa [hy] using hreport hmode
  simp [hy', hreported hyfired]

/-- The lapse before the step changes no dropped string, and neither turns power ON nor OFF. -/
theorem FiresByW.lapse {c : Configuration} {x : Nat} {d t : Device} {dt : Lapse} {sense : List StringBits}
    (h : FiresByW c x (beforeStep dt sense d) t) : FiresByW c x d t := by
  have hcount : stringCount (beforeStep dt sense d) = stringCount d := stringCount_eq (by simp) (by simp)
  have hpower : (beforeStep dt sense d).strings.power = .on ↔ d.strings.power = .on := by
    rw [beforeStep_stringDriver]
    exact elapsePower_on _ _
  have hblank : (beforeStep dt sense d).strings.blank = d.strings.blank := by rw [beforeStep_stringDriver]
  have hmode : (beforeStep dt sense d).strings.mode = d.strings.mode := by simp
  have hlength : (beforeStep dt sense d).strings.strings.length = d.strings.strings.length := by
    rw [beforeStep_stringDriver, List.length_map]
  obtain ⟨hphase, hwaves, hrecords, hlengths, hstrings⟩ := h
  simp only [beforeStep_fire, hcount, hblank, hmode, hlength, ne_eq, hpower] at hwaves hrecords hlengths hstrings
  refine ⟨hphase, hwaves, hrecords, hlengths, fun i r hi hr => ?_⟩
  obtain ⟨hfired, hunfired⟩ := hstrings i r hi hr
  refine ⟨hfired, fun hf => ?_⟩
  obtain ⟨hrecord, hpending⟩ := hunfired hf
  exact ⟨hrecord, fun z hz hchain hdrive => hpending z (beforeStep_dropped dt sense hz hdrive) hchain hdrive⟩

/-! ## The step -/

/-- A turn in the pick mode NONE tells the fire timer nothing (R123, R135). -/
theorem turnPick_none {d : Device} (h : d.strings.mode = .none) : turnPick d = d := by
  simp [turnPick, stringsTurn, h, doIf]

theorem handSpeed_leaves_fast {d : Device} (h : d.tracker.speed ≠ .fast) : handSpeed .fast false d = fireLeavesFast d := by
  simp [handSpeed, h, doIf]

/-- A turn in WEAVE that leaves FAST in SET, outside any pick, hands every string W (R119, R122; log 47). -/
theorem steppedOnto_leaves_fast {dir : Direction} {c : Configuration} {x : Nat} {a b : Bool} {d : Device} (dt : Lapse)
    (sense : List StringBits) (hweave : d.control.state = .weave) (hc : d.control.config = some c)
    (hmode : d.strings.mode = .none) (hfast : d.tracker.speed = .fast) (hphase : d.fire.phase = .set)
    (hturns : turns dir d.tracker = true) (hs : stepsOnto dir a b x d = true) (hw : x ≠ c.w) :
    FiresByW c x d (steppedOnto dir dt sense d) := by
  obtain ⟨hangle, -⟩ := stepsOnto_angle hs
  have hdir : dir ≠ d.tracker.dir := by simpa [turns] using hturns
  generalize hp : beforeStep dt sense d = p
  have hpangle : stepAngle dir p.tracker.angle = x := by simp [← hp, hangle]
  have hpturns : turns dir p.tracker = true := by simp [← hp, turns, hdir]
  have hpmode : p.strings.mode = .none := by simp [← hp, hmode]
  have hpweave : p.control.state = .weave := by simp [← hp, hweave]
  have hpfast : p.tracker.speed = .fast := by simp [← hp, hfast]
  have hpdir : dir ≠ p.tracker.dir := by simpa [← hp] using hdir
  obtain ⟨-, -, -, hslow, -⟩ := stepTracker_turn p.control.config hpdir
  have hcompletes : completes dir p.tracker = false := by simp [completes, hpturns]
  have hstep : stepHanded dir p = wakePower (fireLeavesFast (onTracker (stepTracker p.control.config dir) p)) := by
    rw [stepHanded_weave hpweave, hpturns, doIf_true, turnPick_none (by simpa using hpmode), hcompletes, hpfast,
      handSpeed_leaves_fast (by simp [hslow])]
  have hfires : FiresByW c x p (stepHanded dir p) := by
    have hleft := fireLeavesFast_firesByW (f := stepTracker p.control.config dir) (c := c) (d := p) (by simp [← hp, hc])
      (by simp [← hp, hphase]) hpweave (by simp [hslow])
    rw [(stepTracker_frame _ _ _).1, hpangle] at hleft
    exact hstep ▸ hleft.wakes
  have hhanded : (stepHanded dir p).tracker.angle = x := by simp [hstep, hpangle]
  refine FiresByW.lapse (dt := dt) (sense := sense) ?_
  rw [steppedOnto, hp, atCrossing, hhanded]
  cases hforward : decide (dir = .forward)
  · exact hfires
  · exact hfires.atAngle (stringCount_eq (by simp [hstep]) (by simp [hstep])) hw

/-- Away from the angles of the strings a step raises no crossing of the section role. -/
theorem crossingsOf_elsewhere {dir : Direction} {c : Configuration} {x : Nat} (d : Device) (hb : x ≠ c.b) (hc : x ≠ c.c)
    (hw : x ≠ c.w) (hk : x ≠ c.k) (hd : x ≠ c.d) (hg : x ≠ guardEnd c) : crossingsOf dir c .sectionRole x d = d := by
  cases dir <;> simp [crossingsOf, forwardCrossings, reverseCrossings, hb, hc, hw, hk, hd, hg, doIf_false]

end Sys2Proof.Machine
end

section
/-! The statements about the firing-time arithmetic, settled. -/

namespace Sys2Proof.Machine

/-- Settles O45: the quotient by `advanceOf_eq`, the saturated advance by `window_arc`. -/
theorem advanceOfALead : Obligations.AdvanceOfALead := by
  intro r lead
  refine ⟨?_, (advanceOf_bounds r lead).1, (advanceOf_bounds r lead).2, advance_product_lt, fun c h hsaturated => ?_⟩
  · rintro a rfl
    rw [advanceOf_eq]
    omega
  · rw [hsaturated]
    exact (window_arc h).2

/-- Settles O46: the window by `firingOf_inWindow`, the reciprocal by `recipOf_exists`. -/
theorem fireAngleLiesInTheWindow : Obligations.FireAngleLiesInTheWindow := by
  refine ⟨fun d c held lead latency h => ⟨firingOf_inWindow h d held lead latency, fun hangle => ?_⟩, fun s hs hmax => ?_,
    fun d c r lead latency hr hfast => ?_, fun d c held lead latency => firingOf_byAngle c lead latency⟩
  · rw [firingOf_byAngle c lead latency hangle, byAngle]
  · obtain ⟨n, hn, hlow, hhigh, hrecip⟩ := recipOf_exists hs hmax
    have hq : 524288 ≤ 2 ^ 39 / (s * 2 ^ n) := (Nat.le_div_iff_mul_le (by omega)).mpr (by omega)
    exact ⟨_, hrecip, Nat.le_of_lt_succ hn, rfl, hlow, Nat.le_of_lt_succ hhigh, le_min hq (by decide), min_le_right _ _, rfl⟩
  · rw [firingOf_fast c lead latency hr hfast]
    exact ⟨byPrediction_fits latency, byPrediction_clamped latency⟩

/-- Settles O49: the close by `steppedOnto_handedOver` and `HandedOver.string`, the completed span by
`steppedOnto_completes` with `recomputed_record`, `recomputed_fires` and `recomputed_holds`, the turn by `steppedOnto_leaves_fast`. -/
theorem fireTimerComputesTheAngles : Obligations.FireTimerComputesTheAngles := by
  unfold Obligations.FireTimerComputesTheAngles
  refine ⟨fun a b dt sense s c hr hweave hrole hgoes hs hopen hidle hnone hfree => ?_,
    fun a b dt sense s c x hr hweave hrole hdir hmoving hcounts hs hb hk hphase => ?_,
    fun dir a b dt sense s c x hr hweave hrole hmode hfast hphase hturns hs hb hc hw hk hd hg => ?_⟩
  all_goals
    obtain ⟨-, hconfig, hsound, -⟩ := (referencedBy_iff c s.dev).mp hr
    have hexec := exec_onto dt sense hr hs
    rw [hrole] at hexec hsound
  · obtain ⟨n, hsnapshot, hover⟩ := steppedOnto_handedOver dt sense hweave hrole hconfig hgoes hs hopen hidle hnone hfree
    have hclose (p : Device) : crossingsOf .forward c .sectionRole c.c p = rosterClose p := forwardCrossings_at_c hsound p
    rw [hclose] at hexec
    refine ⟨_, hexec, rfl, by simpa using hover.phase, by simpa using hover.records, ?_, fun sn v hsn hv => ?_,
      fun v hv i x hi hx hlt lead f hlead hf => ?_, by simp [hover.waves]⟩
    · exact hover.strings.trans (strings_length_congr (beforeStep_latencies dt sense s.dev))
    · obtain rfl : sn = n := Option.some.inj (hsn.symm.trans hsnapshot)
      obtain rfl : v = wavesOf c.m sn := Option.some.inj (hv.symm.trans hover.waves)
      refine wavesOf_eq (funext fun e => ?_) c.m sn
      obtain ⟨_, role, _, _, cls⟩ := e
      cases role <;> cases cls <;> rfl
    · obtain rfl : v = wavesOf c.m n := Option.some.inj (hv.symm.trans hover.waves)
      exact hover.string hi hx hlt hlead hf
  · obtain ⟨p, hp, hangle, hstep⟩ := steppedOnto_completes (c := c) dt sense hweave hconfig hrole hdir hmoving hcounts hs hphase
    obtain ⟨hrecip, hset, hwaves, hrecords, hstrings, hstate, hrole', hconfig'⟩ := hp
    have hcount : stringCount p = stringCount s.dev := stringCount_eq hrole' hconfig'
    rw [hphase] at hset
    cases harc : inArc x c.c c.k with
    | false =>
      rw [harc, if_neg Bool.false_ne_true] at hstep
      obtain ⟨htracker, hpast, hwaves', hrecip', hangles⟩ := pastSpan_fire (p := p) hb hk rfl
      rw [hstep] at hexec
      refine ⟨_, hexec, rfl, (hrecip'.trans hrecip).trans (by rw [← htracker]; rfl), hwaves'.trans hwaves,
        fun _ => ⟨hpast, hangles.trans (by rw [hrecords])⟩, fun h => absurd h Bool.false_ne_true⟩
    | true =>
      rw [harc, if_pos rfl] at hstep
      obtain ⟨htracker, hset', hwaves', hrecip', hfired⟩ := recomputed_fire (p := p) hb hk hset rfl
      have hfiring := recomputed_firingAt hsound hb hk hset harc
      obtain ⟨-, hlt⟩ := stepsOnto_angle hs
      rw [hstep] at hexec
      refine ⟨{ s with dev := handedOn c x (recompute c p) }, hexec, rfl, (hrecip'.trans hrecip).trans (by rw [htracker]),
        hwaves'.trans hwaves, fun h => absurd h.symm Bool.false_ne_true, fun _ => ⟨hset', ?_, ?_⟩⟩
      all_goals rw [hfiring, ← hrecords, ← hcount]
      · exact fun i r hi hr => ⟨hfired i r hr, recomputed_record hb hk hset hi hr⟩
      · intro i r hi hr z hz hf hpending hoff hwaiting _ htest
        have hz' : p.strings.strings[i]? = some z := hstrings ▸ beforeStep_dropped dt sense hz hoff
        have hmode : p.strings.mode ≠ .test := by
          rw [hstrings]
          simpa [testPickSound, hweave] using htest
        refine ⟨fun hpassed hpattern hblank hpower _ => ?_,
          recomputed_holds hsound hb hk hset harc hi hr hf hz' hpending hwaiting hmode hangle hlt⟩
        have hready : readyToFire p z = true := by
          simp [readyToFire, mayEnergise, hpattern, hstrings, beforeStep_stringDriver, hblank, hpower, elapsePower, hstate, hweave]
        rw [recomputed_fires hsound hb hk hset harc hi hr hf hz' hpending hwaiting hmode hangle hpassed hready]
        simp [fireString, hwaiting]
  · have hfires := steppedOnto_leaves_fast dt sense hweave hconfig hmode hfast hphase hturns hs hw
    exact ⟨_, hexec, rfl, by rwa [crossingsOf_elsewhere _ hb hc hw hk hd hg]⟩

end Sys2Proof.Machine
end

section
/-! SUPPORT. What keeps the outputs safe (R126): the strings and the fire timer energise no output where none may be energised, and
leave the pick mode TEST to the station state TEST (R128, R139, R140). -/

namespace Sys2Proof.Machine

/-! ## The two invariants along an operation -/

/-- No output of any string is energised. -/
def AllDropped (d : Device) : Prop := ∀ x ∈ d.strings.strings, x.drive = .off

/-- From `d` to `t`, with a sound training run at `d`: the training run stays sound, no output comes to be energised where none may
be (R126), and the pick mode TEST stays inside TEST (R128). -/
structure KeepsOutputs (d t : Device) : Prop where
  training : trainingSound d = true → trainingSound t = true
  energised : trainingSound d = true → (mayEnergise d = false → AllDropped d) → mayEnergise t = false → AllDropped t
  testPick : trainingSound d = true → testPickSound d = true → testPickSound t = true

theorem outputsSafe_iff (d : Device) :
    outputsSafe d = true ↔ trainingSound d = true ∧ (mayEnergise d = false → AllDropped d) := by
  cases h : mayEnergise d <;> simp [outputsSafe, AllDropped, h]

theorem testPickSound_iff (d : Device) : testPickSound d = true ↔ (d.strings.mode = .test → d.control.state = .test) := by
  simp [testPickSound, imp_iff_not_or]

theorem KeepsOutputs.refl (d : Device) : KeepsOutputs d d := ⟨id, fun _ => id, fun _ => id⟩

theorem KeepsOutputs.trans {d e t : Device} (h₁ : KeepsOutputs d e) (h₂ : KeepsOutputs e t) : KeepsOutputs d t :=
  ⟨fun hs => h₂.training (h₁.training hs), fun hs hd => h₂.energised (h₁.training hs) (h₁.energised hs hd),
    fun hs hm => h₂.testPick (h₁.training hs) (h₁.testPick hs hm)⟩

/-- A training run that is sound may be taken for granted. -/
theorem KeepsOutputs.of_sound {d t : Device} (h : trainingSound d = true → KeepsOutputs d t) : KeepsOutputs d t :=
  ⟨fun hs => (h hs).training hs, fun hs => (h hs).energised hs, fun hs => (h hs).testPick hs⟩

theorem mayEnergise_congr {d t : Device} (hstate : t.control.state = d.control.state) (hpower : t.strings.power = d.strings.power) :
    mayEnergise t = mayEnergise d := by
  simp [mayEnergise, hstate, hpower]

/-- Where station state, power and training run stand, what leaves dropped strings dropped keeps the outputs safe; a test pick may be
opened in TEST alone. -/
theorem KeepsOutputs.of_drives {d t : Device}
    (he : t.trainer.phase = d.trainer.phase ∧ t.control.state = d.control.state ∧ t.strings.power = d.strings.power)
    (hmode : t.strings.mode = .test → d.strings.mode = .test ∨ d.control.state = .test)
    (hoff : mayEnergise d = false → AllDropped d → AllDropped t) : KeepsOutputs d t := by
  obtain ⟨hphase, hstate, hpower⟩ := he
  refine ⟨fun hs => trainingSound_congr hs hphase hstate fun _ h => hpower ▸ h, fun _ hd hoff' => ?_, fun _ hm => ?_⟩
  · rw [mayEnergise_congr hstate hpower] at hoff'
    exact hoff hoff' (hd hoff')
  · rw [testPickSound_iff] at *
    rw [hstate]
    exact fun ht => (hmode ht).elim hm id

/-- What leaves the string driver as it is keeps the outputs safe. -/
theorem KeepsOutputs.frame {a d t : Device} (h : KeepsOutputs a d)
    (he : t.trainer.phase = d.trainer.phase ∧ t.control.state = d.control.state ∧ t.strings = d.strings) : KeepsOutputs a t := by
  obtain ⟨hphase, hstate, hstrings⟩ := he
  refine h.trans (.of_drives ⟨hphase, hstate, by rw [hstrings]⟩ (by rw [hstrings]; exact .inl) ?_)
  rw [AllDropped, AllDropped, hstrings]
  exact fun _ => id

/-- What leaves a sound training run, energises nothing where nothing may be energised, and no test pick outside TEST, is safe. -/
theorem KeepsOutputs.of_safe {a d t : Device} (h : KeepsOutputs a d) (htrain : trainingSound d = true → trainingSound t = true)
    (hoff : mayEnergise t = false → AllDropped t)
    (hmode : t.strings.mode = .test → d.strings.mode = .test ∧ d.control.state ≠ .test) : KeepsOutputs a t := by
  refine h.trans ⟨htrain, fun _ _ => hoff, fun _ hm => ?_⟩
  rw [testPickSound_iff] at *
  intro ht
  obtain ⟨hd, hs⟩ := hmode ht
  exact absurd (hm hd) hs

section
variable {a d : Device} (h : KeepsOutputs a d)
include h

theorem doIf_keepsOutputs (c : Bool) {f : Device → Device} (hf : KeepsOutputs a d → KeepsOutputs a (f d)) :
    KeepsOutputs a (doIf c f d) := by
  cases c
  · exact h
  · exact hf h

omit h in
theorem ite_keepsOutputs {c : Prop} [Decidable c] {x y : Device} (hx : c → KeepsOutputs a x) (hy : KeepsOutputs a y) :
    KeepsOutputs a (if c then x else y) := by
  split
  · next hc => exact hx hc
  · exact hy

/-! ## The string driver (ch. 8) -/

/-- A change of the string driver that leaves power, pick mode and the strings as they are, or ends the pick. -/
theorem onStrings_keepsOutputs {f : StringDriver → StringDriver}
    (hf : (f d.strings).power = d.strings.power ∧ (f d.strings).strings = d.strings.strings)
    (hmode : (f d.strings).mode = .test → d.strings.mode = .test ∨ d.control.state = .test) : KeepsOutputs a (onStrings f d) := by
  refine h.trans (.of_drives ⟨rfl, rfl, hf.1⟩ hmode ?_)
  rw [AllDropped, AllDropped, onStrings_strings, hf.2]
  exact fun _ => id

/-- A change of the strings that energises no dropped one. -/
theorem mapStrings_keepsOutputs {f : Nat → SelString → SelString}
    (hf : mayEnergise d = false → ∀ i s, s.drive = .off → (f i s).drive = .off) : KeepsOutputs a (mapStrings f d) := by
  refine h.trans (.of_drives (by simp) (by simpa using fun hm => .inl hm) fun hmay hd x hx => ?_)
  simp only [mapStrings, onStrings_strings, List.mem_mapIdx] at hx
  obtain ⟨i, hi, rfl⟩ := hx
  have hoff := hd _ (List.getElem_mem hi)
  split
  · exact hf hmay i _ hoff
  · exact hoff

theorem mapAllStrings_keepsOutputs {f : SelString → SelString} (hf : ∀ s, s.drive = .off → (f s).drive = .off) :
    KeepsOutputs a (mapAllStrings f d) := by
  refine h.trans (.of_drives (by simp) (by simpa using fun hm => .inl hm) fun _ hd x hx => ?_)
  obtain ⟨y, hy, rfl⟩ := List.mem_map.mp hx
  exact hf y (hd y hy)

theorem dropAll_keepsOutputs : KeepsOutputs a (dropAll d) := mapAllStrings_keepsOutputs h fun _ _ => rfl

theorem restAll_keepsOutputs : KeepsOutputs a (restAll d) := mapAllStrings_keepsOutputs h fun _ _ => rfl

theorem freshStrings_keepsOutputs : KeepsOutputs a (freshStrings d) := mapAllStrings_keepsOutputs h fun _ hoff => hoff

/-- Strings fire only where an output may be energised. -/
theorem fireWhere_keepsOutputs {p : Nat → SelString → Bool} (hp : ∀ i s, p i s = true → mayEnergise d = true) :
    KeepsOutputs a (fireWhere p d) := by
  refine mapStrings_keepsOutputs (doIf_keepsOutputs h _ fun h => h.frame (by simp)) fun hmay i s hoff => ?_
  rw [mayEnergise_congr (d := d) (by simp) (by simp)] at hmay
  split
  · next hps => rw [hp i s hps] at hmay; cases hmay
  · exact hoff

omit h in
theorem readyToFire_mayEnergise {s : SelString} (hs : readyToFire d s = true) : mayEnergise d = true :=
  (Bool.and_eq_true_iff.mp hs).2

theorem fallDue_keepsOutputs (p : Nat → SelString → Bool) : KeepsOutputs a (fallDue p d) := by
  rw [fallDue_eq]
  refine mapStrings_keepsOutputs (fireWhere_keepsOutputs h fun i s hs => ?_) fun _ i s hoff => ?_
  · exact readyToFire_mayEnergise (Bool.and_eq_true_iff.mp hs).2
  · split <;> exact hoff

theorem fireWaiting_keepsOutputs : KeepsOutputs a (fireWaiting d) := by
  refine fireWhere_keepsOutputs h fun _ s hs => readyToFire_mayEnergise (s := s) ?_
  simp only [mayFireWaiting, Bool.and_eq_true] at hs
  exact hs.1.1.2

theorem takeFaults_keepsOutputs (fs : List FaultEntry) : KeepsOutputs a (takeFaults fs d) :=
  h.trans (.of_drives (by simp) (by simpa using fun hm => .inl hm) (by simp [AllDropped]))

theorem shiftAll_keepsOutputs (field : Nat → StringBits) : KeepsOutputs a (shiftAll field d) := by
  refine fireWaiting_keepsOutputs (takeFaults_keepsOutputs (mapStrings_keepsOutputs h fun _ _ s hoff => ?_) _)
  exact hoff

theorem missTest_keepsOutputs : KeepsOutputs a (missTest d) := by
  have hmade : KeepsOutputs a (onStrings (fun g => { g with missTested := true }) d) := onStrings_keepsOutputs h ⟨rfl, rfl⟩ .inl
  refine ite_keepsOutputs (fun _ => hmade) (doIf_keepsOutputs (mapStrings_keepsOutputs hmade fun _ i s hoff => ?_) _ fun h => ?_)
  · split <;> exact hoff
  · exact h.frame (by simp)

theorem outstandingMissTest_keepsOutputs : KeepsOutputs a (outstandingMissTest d) := doIf_keepsOutputs h _ missTest_keepsOutputs

theorem captureAll_keepsOutputs : KeepsOutputs a (captureAll d) := by
  refine onStrings_keepsOutputs (mapStrings_keepsOutputs h fun _ i s hoff => ?_) ⟨rfl, rfl⟩ .inl
  unfold captureString
  split <;> exact hoff

theorem stringsForwardK_keepsOutputs : KeepsOutputs a (stringsForwardK d) :=
  doIf_keepsOutputs h _ fun h => doIf_keepsOutputs (captureAll_keepsOutputs h) _ missTest_keepsOutputs

theorem stringsForwardD_keepsOutputs : KeepsOutputs a (stringsForwardD d) :=
  doIf_keepsOutputs h _ fun h =>
    onStrings_keepsOutputs (restAll_keepsOutputs (outstandingMissTest_keepsOutputs h)) ⟨rfl, rfl⟩ nofun

theorem stringsForwardW_keepsOutputs : KeepsOutputs a (stringsForwardW d) :=
  doIf_keepsOutputs h _ fun h => fallDue_keepsOutputs h _

theorem stringsAtAngle_keepsOutputs (x : Nat) : KeepsOutputs a (stringsAtAngle x d) :=
  doIf_keepsOutputs h _ fun h => fallDue_keepsOutputs h _

theorem openForwardPick_keepsOutputs : KeepsOutputs a (openForwardPick d) :=
  onStrings_keepsOutputs (freshStrings_keepsOutputs (outstandingMissTest_keepsOutputs (dropAll_keepsOutputs h))) ⟨rfl, rfl⟩ nofun

theorem openReversePick_keepsOutputs : KeepsOutputs a (openReversePick d) :=
  onStrings_keepsOutputs (freshStrings_keepsOutputs (outstandingMissTest_keepsOutputs (dropAll_keepsOutputs h))) ⟨rfl, rfl⟩ nofun

theorem stringsRetracted_keepsOutputs : KeepsOutputs a (stringsRetracted d) := by
  refine onStrings_keepsOutputs (mapAllStrings_keepsOutputs h fun s hoff => ?_) ⟨rfl, rfl⟩ .inl
  exact hoff

theorem stringsReverseD_keepsOutputs : KeepsOutputs a (stringsReverseD d) := by
  refine doIf_keepsOutputs h _ fun h => mapStrings_keepsOutputs (fireWhere_keepsOutputs h fun i s hs => ?_) fun _ i s hoff => ?_
  · exact readyToFire_mayEnergise (Bool.and_eq_true_iff.mp hs).2
  · split <;> exact hoff

theorem stringsReverseK_keepsOutputs : KeepsOutputs a (stringsReverseK d) := by
  refine doIf_keepsOutputs h _ fun h => doIf_keepsOutputs (mapStrings_keepsOutputs (captureAll_keepsOutputs h) fun _ i s hoff => ?_) _
    fun h => h.frame (by simp)
  split <;> exact hoff

theorem stringsReverseW_keepsOutputs : KeepsOutputs a (stringsReverseW d) :=
  doIf_keepsOutputs h _ fun h => onStrings_keepsOutputs (restAll_keepsOutputs h) ⟨rfl, rfl⟩ nofun

omit h in
theorem takeBack_drive (c : Chain) (s : SelString) : (takeBack c s).drive = .off := by
  unfold takeBack
  split <;> rfl

theorem stringsTurn_keepsOutputs : KeepsOutputs a (stringsTurn d) := by
  have hback (c : Chain) :
      KeepsOutputs a (onStrings (fun g => { g with captureDone := false }) (mapAllStrings (takeBack c) d)) :=
    onStrings_keepsOutputs (mapAllStrings_keepsOutputs h fun s _ => takeBack_drive c s) ⟨rfl, rfl⟩ .inl
  unfold stringsTurn
  split
  · exact hback _
  · exact hback _
  · exact doIf_keepsOutputs h _ fun _ => hback _
  · exact h

theorem nextStep_keepsOutputs : KeepsOutputs a (nextStep d) := onStrings_keepsOutputs h ⟨rfl, rfl⟩ .inl

/-- A test pick is opened in TEST alone (R140). -/
theorem openTestPick_keepsOutputs (w : Nat) (htest : d.control.state = .test) : KeepsOutputs a (openTestPick w d) := by
  unfold openTestPick
  dsimp only
  generalize hp : onStrings _ (mapStrings _ _) = p
  have hopened : KeepsOutputs a p := by
    subst hp
    refine onStrings_keepsOutputs (mapStrings_keepsOutputs (freshStrings_keepsOutputs (dropAll_keepsOutputs h)) fun _ _ s hoff => ?_)
      ⟨rfl, rfl⟩ fun _ => .inr (by simpa using htest)
    exact hoff
  split
  · exact nextStep_keepsOutputs (hopened.frame (by simp))
  · exact nextStep_keepsOutputs (shiftAll_keepsOutputs hopened _)
  · exact hopened

omit h in
theorem stringsLeave_dropped (d : Device) : AllDropped (stringsLeave d) := fun x hx => (stringsLeave_rest d x hx).1

theorem stepFires_keepsOutputs : KeepsOutputs a (stepFires d) :=
  ite_keepsOutputs
    (fun hmay => onStrings_keepsOutputs (fireWhere_keepsOutputs h fun _ _ _ => hmay) ⟨rfl, rfl⟩ .inl)
    (onStrings_keepsOutputs h ⟨rfl, rfl⟩ .inl)

/-- Hold enable takes over from inrush enable alone (R126). -/
theorem inrushEnds_keepsOutputs (i : Nat) : KeepsOutputs a (inrushEnds i d) := by
  refine h.trans (.of_drives (by simp) (by simpa using fun hm => .inl hm) fun _ hd x hx => ?_)
  simp only [inrushEnds, onStrings_strings, List.mem_mapIdx] at hx
  obtain ⟨j, hj, rfl⟩ := hx
  have hoff := hd _ (List.getElem_mem hj)
  split
  · split
    · next n hn => rw [hoff] at hn; cases hn
    · exact hoff
  · exact hoff

/-! ## String power (R127, R128) -/

theorem wakePower_keepsOutputs : KeepsOutputs a (wakePower d) := by
  unfold wakePower
  split
  · next hw =>
    have hoff : d.strings.power = .off := by simpa using (Bool.and_eq_true_iff.mp hw).1
    have hmay : mayEnergise d = false := by simp [mayEnergise, hoff]
    refine h.trans ⟨fun hs => trainingSound_congr hs rfl rfl fun _ hon => ?_, fun _ hd _ => hd hmay, fun _ => id⟩
    rw [hoff] at hon
    cases hon
  · exact h

omit h in
theorem powerOff_dropped (d : Device) : AllDropped (powerOff d) := powerOff_drive d

/-- Power goes OFF outside TRAIN. -/
theorem powerOff_keepsOutputs (htrain : d.control.state ≠ .train) : KeepsOutputs a (powerOff d) :=
  h.trans ⟨fun hs => trainingSound_of_idle (by simpa using trainer_idle hs htrain), fun _ _ _ => powerOff_dropped d,
    fun _ hm => by simpa [testPickSound_iff] using hm⟩

theorem dwellTest_keepsOutputs : KeepsOutputs a (dwellTest d) := by
  by_cases ht : d.control.state = .train
  · rw [dwellTest_idle (.inl ⟨by simp [ht], by simp [ht]⟩)]
    exact h
  · obtain e | e := dwellTest_cases d <;> rw [e]
    · exact h
    · exact powerOff_keepsOutputs h ht

omit h in
theorem dwellTest_dropped (hd : AllDropped d) : AllDropped (dwellTest d) := by
  obtain e | e := dwellTest_cases d <;> rw [e]
  · exact hd
  · exact powerOff_dropped d

/-! ## The fire timer (ch. 7) -/

omit h in
theorem handString_drive (x : Nat) (s : SelString) : (handString x s).drive = s.drive := by
  unfold handString
  split <;> rfl

theorem computeStrings_keepsOutputs (c : Configuration) (held : Bool) : KeepsOutputs a (computeStrings c held d) := by
  refine doIf_keepsOutputs (doIf_keepsOutputs (mapStrings_keepsOutputs (h.frame ?_) fun _ i s hoff => ?_) _ fun h => ?_) _ fun h => ?_
  case refine_2 =>
    split
    · split
      · exact hoff
      · exact (handString_drive _ s).trans hoff
    · exact hoff
  · simp
  · exact h.frame (by simp)
  · exact h.frame (by simp)

theorem recompute_keepsOutputs (c : Configuration) : KeepsOutputs a (recompute c d) :=
  fallDue_keepsOutputs (computeStrings_keepsOutputs h c false) _

theorem fireClose_keepsOutputs (s : Snapshot) : KeepsOutputs a (fireClose s d) := by
  unfold fireClose
  split
  · next c _ =>
    have hwaves : KeepsOutputs a (takeWaves c s (doIf d.fire.angleHold clearFired d)) := h.frame (by simp)
    exact ite_keepsOutputs (fun _ => (computeStrings_keepsOutputs hwaves c d.fire.angleHold).frame (by simp)) h
  · exact h

theorem enterHeld_keepsOutputs : KeepsOutputs a (enterHeld d) := by
  unfold enterHeld
  split
  · next c _ =>
    have hcleared : KeepsOutputs a (clearFired d) := h.frame (by simp)
    exact (computeStrings_keepsOutputs hcleared c true).frame (by simp)
  · exact h

theorem fireTurn_keepsOutputs : KeepsOutputs a (fireTurn d) := by
  unfold fireTurn
  split
  · exact h.frame (by simp)
  · exact enterHeld_keepsOutputs h
  · exact enterHeld_keepsOutputs h
  · exact h

theorem fireSpan_keepsOutputs (s : Nat) : KeepsOutputs a (fireSpan s d) := by
  have hformed : KeepsOutputs a (onFire (fun t => { t with recip := recipOf s }) d) := h.frame (by simp)
  refine ite_keepsOutputs (fun _ => ?_) h
  dsimp only
  split
  · exact ite_keepsOutputs (fun _ => ite_keepsOutputs (fun _ => recompute_keepsOutputs hformed _) (hformed.frame (by simp))) hformed
  · exact hformed

theorem fireLeavesFast_keepsOutputs : KeepsOutputs a (fireLeavesFast d) := by
  unfold fireLeavesFast
  split
  · exact ite_keepsOutputs (fun _ => recompute_keepsOutputs h _) h
  · exact h

theorem turnPick_keepsOutputs : KeepsOutputs a (turnPick d) :=
  doIf_keepsOutputs (stringsTurn_keepsOutputs h) _ fireTurn_keepsOutputs

end

end Sys2Proof.Machine
end

section
/-! SUPPORT. The outputs stay safe along the operations of the blocks: the shaft and its crossings, the line, the roster and the
store, the station states and latency training (R126, R128, R139, R140, R141, R148). -/

namespace Sys2Proof.Machine

/-! ## Strings dropped by an operation -/

theorem leaveWeave_dropped (d : Device) : AllDropped (leaveWeave d) := by
  simpa [leaveWeave, AllDropped] using stringsLeave_dropped _

theorem leaveTest_dropped (d : Device) : AllDropped (leaveTest d) := stringsLeave_dropped _

theorem restAll_dropped (d : Device) : AllDropped (restAll d) := fun x hx => (restAll_off d x hx).1

theorem enterReady_dropped {d : Device} (hd : AllDropped d) : AllDropped (enterReady d) := dwellTest_dropped hd

theorem abandonTraining_dropped (d : Device) : AllDropped (abandonTraining d) := by
  simpa [abandonTraining, trainerIdle, AllDropped] using restAll_dropped d

theorem trainComplete_dropped (d : Device) : AllDropped (trainComplete d) := by
  refine enterReady_dropped ?_
  simpa [trainerIdle, AllDropped] using restAll_dropped _

theorem enterFault_dropped (d : Device) : AllDropped (enterFault d) := powerOff_dropped _

theorem resetTo_dropped (number : Nat) (role : Role) (phase : BitVec 2) (d : Device) : AllDropped (resetTo number role phase d) := by
  have hreset : ∀ x ∈ StringDriver.reset.strings, x.drive = .off := by decide
  exact hreset

/-- The pre-checks end with a trial, in TRAIN with power ON, or with every string dropped. -/
theorem preCheck_energised (n : Nat) {d : Device} (hs : d.control.state = .train) (hp : d.strings.power = .on)
    (hmay : mayEnergise (preCheck n d) = false) : AllDropped (preCheck n d) := by
  induction n generalizing d with
  | zero => exact trainComplete_dropped d
  | succ n ih =>
    unfold preCheck at hmay ⊢
    dsimp only at hmay ⊢
    split at hmay
    · next hbit =>
      rw [if_pos hbit]
      split at hmay
      · next hnext =>
        rw [if_pos hnext]
        exact ih (by simpa using hs) (by simpa using hp) hmay
      · next hlast =>
        rw [if_neg hlast]
        exact trainComplete_dropped _
    · simp [mayEnergise, hs, hp] at hmay

section
variable {a d : Device} (h : KeepsOutputs a d)
include h

/-! ## Station states entered and left (R169) -/

/-- Outside WEAVE, TEST and TRAIN every string is dropped, no test pick is under way and the trainer is IDLE, so that any state may
follow. -/
theorem setState_keepsOutputs (st : StationState) (hs : d.control.state ∈ [.dormant, .load, .ready, .fault]) :
    KeepsOutputs a (setState st d) := by
  have hmay : mayEnergise d = false := by
    simp only [List.mem_cons, List.not_mem_nil, or_false] at hs
    obtain hs | hs | hs | hs := hs <;> simp [mayEnergise, hs]
  have htrain : d.control.state ≠ .train := fun e => by simp [e] at hs
  have htest : d.control.state ≠ .test := fun e => by simp [e] at hs
  refine h.trans ⟨fun ht => trainingSound_of_idle (trainer_idle (d := d) ht htrain), fun _ hd _ => hd hmay, fun _ hm => ?_⟩
  rw [testPickSound_iff] at *
  exact fun hmode => absurd (hm hmode) htest

theorem enterReady_keepsOutputs (hs : d.control.state ∈ [.dormant, .load, .ready, .fault]) : KeepsOutputs a (enterReady d) :=
  dwellTest_keepsOutputs (setState_keepsOutputs h .ready hs)

theorem disarmStation_keepsOutputs (hs : d.control.state = .weave) : KeepsOutputs a (disarmStation d) :=
  h.of_safe (fun ht => trainingSound_of_idle (by simpa using trainer_idle ht (by simp [hs])))
    (fun _ => enterReady_dropped (leaveWeave_dropped d)) (by simp [disarmStation, enterReady, leaveWeave, stringsLeave])

theorem runTestEnd_keepsOutputs (p : List Byte) (hs : d.control.state = .test) : KeepsOutputs a (runTestEnd p d) := by
  have hleft : KeepsOutputs a (enterReady (leaveTest d)) :=
    h.of_safe (fun ht => trainingSound_of_idle (by simpa using trainer_idle ht (by simp [hs])))
      (fun _ => enterReady_dropped (leaveTest_dropped d)) (by simp [enterReady, leaveTest, stringsLeave])
  exact ite_keepsOutputs (fun _ => hleft.frame (by simp)) (h.frame (by simp))

theorem enterFault_keepsOutputs : KeepsOutputs a (enterFault d) :=
  h.of_safe (fun ht => trainingSound_of_idle (enterFault_idle ht)) (fun _ => enterFault_dropped d)
    (by simp [enterFault, stringsLeave])

/-! ## Latency training (ch. 9) -/

/-- In TRAIN with power ON outputs may be energised, and no test pick is under way. -/
theorem KeepsOutputs.inTraining {t : Device} (hs : d.control.state = .train) (ht : t.control.state = .train ∧ t.strings.power = .on)
    (hmode : t.strings.mode = d.strings.mode) : KeepsOutputs a t := by
  obtain ⟨hstate, hpower⟩ := ht
  refine h.of_safe (fun _ => ?_) (fun hmay => ?_) fun hm => ⟨hmode ▸ hm, by simp [hs]⟩
  · simp [trainingSound_iff, hstate, hpower]
  · simp [mayEnergise, hstate, hpower] at hmay

theorem trainComplete_keepsOutputs (hs : d.control.state = .train) : KeepsOutputs a (trainComplete d) :=
  h.of_safe (fun _ => trainingSound_of_idle (by simp)) (fun _ => trainComplete_dropped d) (by simp [hs])

theorem preCheck_keepsOutputs (n : Nat) (hs : d.control.state = .train) (hp : d.strings.power = .on) :
    KeepsOutputs a (preCheck n d) :=
  h.of_safe (fun _ => preCheck_trainingSound n hs hp) (preCheck_energised n hs hp) (by simp [hs])

theorem endString_keepsOutputs (f : SelString → SelString) (hs : d.control.state = .train) (hp : d.strings.power = .on) :
    KeepsOutputs a (endString f d) := by
  have hcurrent : KeepsOutputs a (onCurrent f d) := h.inTraining hs (by simp [hs, hp]) (by simp)
  unfold endString nextTrained
  split
  · exact preCheck_keepsOutputs (hcurrent.frame (by simp)) 8 (by simpa using hs) (by simpa using hp)
  · exact trainComplete_keepsOutputs hcurrent (by simpa using hs)

theorem sampleTrial_keepsOutputs (held : Bool) : KeepsOutputs a (sampleTrial held d) := by
  refine h.trans (.of_sound fun hd => ?_)
  obtain ⟨htrain, hon⟩ := (trainingSound_iff d).mp hd
  refine ite_keepsOutputs (fun hphase => ?_) (.refl d)
  have hs : d.control.state = .train := htrain (by simp [hphase])
  exact (KeepsOutputs.refl d).inTraining hs (by simp [hs, hon (by simp [hphase]) (by simp [hphase])]) (by simp)

theorem endRest_keepsOutputs (armature : BitVec 8) : KeepsOutputs a (endRest armature d) := by
  refine h.trans (.of_sound fun hd => ?_)
  obtain ⟨htrain, hon⟩ := (trainingSound_iff d).mp hd
  refine ite_keepsOutputs (fun hphase => ?_) (.refl d)
  have hs : d.control.state = .train := htrain (by simp [hphase])
  have hp : d.strings.power = .on := hon (by simp [hphase]) (by simp [hphase])
  have hread : KeepsOutputs d (onPins (fun p => { p with armature := armature }) d) := (KeepsOutputs.refl d).frame (by simp)
  have hstart (f : Trainer → Trainer) :
      KeepsOutputs d (startTrial (onTrainer f (onPins (fun p => { p with armature := armature }) d))) :=
    (KeepsOutputs.refl d).inTraining hs (by simp [hs, hp]) (by simp)
  exact ite_keepsOutputs (fun _ => endString_keepsOutputs hread _ hs hp)
    (ite_keepsOutputs (fun _ => hstart _)
      (ite_keepsOutputs (fun _ => endString_keepsOutputs hread _ hs hp)
        (ite_keepsOutputs (fun _ => hstart _) (endString_keepsOutputs hread _ hs hp))))

/-- TRAIN drops every string, ends the pick, and begins its pre-checks with power ON or waits for power (R143). -/
theorem startTraining_keepsOutputs (armature : BitVec 8) (hs : d.control.state = .ready) :
    KeepsOutputs a (startTraining armature d) := by
  unfold startTraining
  dsimp only
  have hready := setState_keepsOutputs h .train (by simp [hs])
  generalize hm : mapAllStrings _ _ = m
  have hrest : KeepsOutputs a m := by
    subst hm
    exact mapAllStrings_keepsOutputs (hready.frame (by simp)) fun _ _ => rfl
  have hstate : m.control.state = .train := by simp [← hm]
  have hwoken : KeepsOutputs a (wakePower (onStrings (fun g => { g with mode := .none }) m)) :=
    wakePower_keepsOutputs (onStrings_keepsOutputs hrest ⟨rfl, rfl⟩ nofun)
  refine ite_keepsOutputs (fun hp => ?_) ?_
  · exact preCheck_keepsOutputs (hwoken.frame (by simp)) 8 (by simpa using hstate) hp
  · refine hwoken.trans ⟨fun _ => ?_, fun _ => id, fun _ => id⟩
    simp [trainingSound_iff, hstate]

/-! ## Power and the stepped operation (R127, R141) -/

/-- While power wakes every string is dropped. -/
theorem setPower_on_keepsOutputs {n : Nat} (hp : d.strings.power = .waking n) : KeepsOutputs a (setPower .on d) := by
  have hmay : mayEnergise d = false := by simp [mayEnergise, hp]
  exact h.trans ⟨fun hs => trainingSound_congr hs rfl rfl fun _ _ => rfl, fun _ hd _ => hd hmay, fun _ => id⟩

theorem powerComesOn_keepsOutputs (armature : BitVec 8) : KeepsOutputs a (powerComesOn armature d) := by
  unfold powerComesOn
  split
  · next hp =>
    dsimp only
    have hfired : KeepsOutputs a (fireWaiting (onPins (fun p => { p with armature := armature }) (setPower .on d))) :=
      fireWaiting_keepsOutputs ((setPower_on_keepsOutputs h hp).frame (by simp))
    generalize hf : fireWaiting _ = f at *
    have hon : f.strings.power = .on := by simp [← hf, setPower]
    have hgo {t : Device} (ht : KeepsOutputs a t) (hpower : t.strings.power = .on) :
        KeepsOutputs a (dwellTest (if t.trainer.phase = .waking then preCheck 8 t else t)) := by
      refine dwellTest_keepsOutputs (ht.trans (.of_sound fun hsound => ite_keepsOutputs (fun hw => ?_) (.refl t)))
      exact preCheck_keepsOutputs (.refl t) 8 (((trainingSound_iff t).mp hsound).1 (by simp [hw])) hpower
    split
    · exact hgo (stepFires_keepsOutputs hfired) (by simpa using hon)
    · exact hgo hfired hon
  · exact h

theorem stepCaptured_keepsOutputs (sense : List StringBits) : KeepsOutputs a (stepCaptured sense d) := by
  unfold stepCaptured
  split
  · have hread : KeepsOutputs a (onPins (fun p => { p with sense := sense }) d) := h.frame (by simp)
    dsimp only
    generalize hr : restAll _ = r
    have hrest : KeepsOutputs a r := hr ▸ restAll_keepsOutputs (captureAll_keepsOutputs hread)
    have hended : KeepsOutputs a (onStrings (fun g => { g with mode := .none, test := { g.test with op := .idle } }) r) :=
      onStrings_keepsOutputs hrest ⟨rfl, rfl⟩ nofun
    exact (nextStep_keepsOutputs hended).frame (by simp)
  · exact h

/-! ## The design store (R66 to R70) -/

theorem handRow_keepsOutputs (weft : Nat) (field : List Byte) : KeepsOutputs a (handRow weft field d) :=
  ite_keepsOutputs (fun _ => shiftAll_keepsOutputs h _) (h.frame (by simp))

theorem soundPick_keepsOutputs (row : Nat) (reverse : Bool) (override : Option Nat) (r : RowRead) :
    KeepsOutputs a (soundPick row reverse override r d) := by
  have hhanded : KeepsOutputs a (handPick (override.getD r.weft.toNat) (liftCount r.field)
      (fillResult ⟨row, r.weft.toNat, liftCount r.field, r.field, true⟩ d)) := h.frame (by simp)
  have hrow := handRow_keepsOutputs hhanded r.weft.toNat r.field
  exact hrow.frame (by simp [soundPick])

theorem clearEchoMarks_keepsOutputs : KeepsOutputs a (clearEchoMarks d) := by
  refine mapAllStrings_keepsOutputs h fun s hoff => ?_
  exact hoff

theorem damagedPick_keepsOutputs (row : Nat) (reverse : Bool) (override : Option Nat) :
    KeepsOutputs a (damagedPick row reverse override d) := by
  unfold damagedPick
  dsimp only
  generalize zeroField _ = field
  generalize hp : handPick _ _ _ = p
  have hhanded : KeepsOutputs a p := h.frame (by simp [← hp])
  have hblank : KeepsOutputs a (if isSection p then setBlank (clearEchoMarks p) else p) :=
    ite_keepsOutputs (fun _ => onStrings_keepsOutputs (clearEchoMarks_keepsOutputs hhanded) ⟨rfl, rfl⟩ .inl) hhanded
  exact (handRow_keepsOutputs hblank (override.getD 15) field).frame (by simp)

theorem stepFetched_keepsOutputs : KeepsOutputs a (stepFetched d) := by
  unfold stepFetched
  split
  · exact stepFires_keepsOutputs h
  · exact h

theorem testFetched_keepsOutputs (row : Nat) (sound : Bool) (r : RowRead) : KeepsOutputs a (testFetched row sound r d) := by
  refine ite_keepsOutputs (fun _ => ?_) ?_
  · exact stepFetched_keepsOutputs (shiftAll_keepsOutputs (h.frame (by simp)) _)
  · exact stepFetched_keepsOutputs (shiftAll_keepsOutputs (clearEchoMarks_keepsOutputs (h.frame (by simp))) _)

theorem fetchCompletes_keepsOutputs (upset : List Host.Cell) : KeepsOutputs a (fetchCompletes upset d) := by
  have hupset : KeepsOutputs a (onStore (fun s => { s with mem := Memory.writeCells s.mem upset }) d) := h.frame (by simp)
  unfold fetchCompletes
  dsimp only
  split
  · exact hupset
  · split
    · exact ite_keepsOutputs (fun _ => soundPick_keepsOutputs hupset _ _ _ _) (damagedPick_keepsOutputs hupset _ _ _)
    · exact testFetched_keepsOutputs hupset _ _ _

/-! ## The head line and the roster (ch. 5, 6) -/

theorem rosterClose_keepsOutputs : KeepsOutputs a (rosterClose d) := by
  have hlate : KeepsOutputs a (discardBeacon true d) := h.frame (by simp)
  unfold rosterClose
  dsimp only
  refine ite_keepsOutputs (fun _ => ?_) hlate
  split
  · unfold closeSection
    dsimp only
    generalize hj : checkWeftCode _ = j
    have hjudged : KeepsOutputs a j := hlate.frame (by simp [← hj])
    exact (fireClose_keepsOutputs hjudged (takeSnapshot (discardBeacon true d))).frame (by simp)
  · exact hlate.frame (by simp)

theorem lineHold_keepsOutputs : KeepsOutputs a (lineHold d) := by
  refine ite_keepsOutputs (fun _ => ?_) h
  split
  · unfold retract
    dsimp only
    generalize hb : beaconRetracted _ = b
    exact stringsRetracted_keepsOutputs (h.frame (by simp [← hb]))
  · exact h.frame (by simp)

theorem detectHold_keepsOutputs : KeepsOutputs a (detectHold d) := by
  have hmeasured : KeepsOutputs a (setReceiver .hunt (measuredDominant 22 d)) := h.frame (by simp)
  exact doIf_keepsOutputs hmeasured _ fun hd => lineHold_keepsOutputs (hd.frame (by simp))

theorem duplicateFound_keepsOutputs : KeepsOutputs a (duplicateFound d) := by
  have hd : KeepsOutputs a (setFlag .duplicateStation d) := h.frame (by simp)
  unfold duplicateFound
  dsimp only
  split
  · exact hd
  · exact hd
  · exact enterFault_keepsOutputs (hd.frame (by simp))

theorem takeBeaconFrame_keepsOutputs : KeepsOutputs a (takeBeaconFrame d) := by
  unfold takeBeaconFrame
  split
  · exact h
  · next rest _ =>
    have hd : KeepsOutputs a (onLine (fun l => { l with queue := rest }) d) := h.frame (by simp)
    refine ite_keepsOutputs (fun _ => ite_keepsOutputs (fun _ => hd)
      (ite_keepsOutputs (fun _ => duplicateFound_keepsOutputs hd) ?_)) h
    split
    · exact hd.frame (by simp)
    · exact hd

/-! ## Resets and power (R178 to R180) -/

theorem resetTo_keepsOutputs (number : Nat) (role : Role) (phase : BitVec 2) (e : Device) :
    KeepsOutputs a (resetTo number role phase e) :=
  h.of_safe (fun _ => rfl) (fun _ => resetTo_dropped number role phase e) nofun

theorem powerOnReset_keepsOutputs (number : Nat) (role : Role) (x y backupHeld : Bool) (backup : Option RetainedRecord)
    (sram : List Host.Cell) : KeepsOutputs a (powerOnReset number role x y backupHeld backup sram d) :=
  (resetTo_keepsOutputs h number role (phaseOf x y) (onStore (fun s => { s with mem := Memory.writeCells [] sram }) d)).frame
    (by simp [powerOnReset])

theorem replyLeaves_keepsOutputs : KeepsOutputs a (replyLeaves d) :=
  ite_keepsOutputs (fun _ => resetTo_keepsOutputs h _ _ _ d) (h.frame (by simp))

theorem frameSent_keepsOutputs : KeepsOutputs a (frameSent d) := by
  unfold frameSent
  split
  · dsimp only
    split
    · exact h.frame (by simp)
    · exact replyLeaves_keepsOutputs (h.frame (by simp))
  · exact h

theorem attemptAbandoned_keepsOutputs : KeepsOutputs a (attemptAbandoned d) := by
  unfold attemptAbandoned
  split
  · dsimp only
    refine ite_keepsOutputs (fun _ => ?_) (h.frame (by simp))
    split
    · exact h.frame (by simp)
    · exact replyLeaves_keepsOutputs (h.frame (by simp))
  · exact h

/-! ## The shaft (ch. 1) -/

theorem elapse_keepsOutputs (dt : Nat) (others : List LineRun) : KeepsOutputs a (elapse dt others d) := by
  refine h.trans ⟨fun hs => ?_, fun _ hd hmay x hx => ?_, fun _ hm => by simpa [testPickSound_iff] using hm⟩
  · exact trainingSound_congr hs (elapseTrainer_phase dt d.trainer) (by simp) fun _ hp => by simp [elapse_strings, elapsePower_on, hp]
  · obtain ⟨y, hy, rfl⟩ := List.mem_map.mp hx
    refine (elapseDrive_off _ dt _).mpr (hd ?_ y hy)
    simpa [mayEnergise, elapse_strings, elapsePower_on] using hmay

theorem pass_keepsOutputs (p : Lapse) : KeepsOutputs a (pass p d) := by
  have helapsed := elapse_keepsOutputs h p.ticks p.line
  unfold pass
  dsimp only
  split
  · exact helapsed.frame (by simp)
  · exact helapsed

theorem forwardB_keepsOutputs (c : Configuration) : KeepsOutputs a (forwardB c d) := by
  unfold forwardB
  split
  · have hseq : KeepsOutputs a (seqForwardB d) := h.frame (by simp)
    exact doIf_keepsOutputs hseq _ fun hd => (openForwardPick_keepsOutputs hd).frame (by simp)
  · next hs => exact doIf_keepsOutputs h _ fun hd => openTestPick_keepsOutputs hd c.w hs
  · exact h

theorem reverseB_keepsOutputs : KeepsOutputs a (reverseB d) := by
  have hseq : KeepsOutputs a (seqReverseB d) := h.frame (by simp)
  exact ite_keepsOutputs (fun _ => doIf_keepsOutputs hseq _ fun hd => (openReversePick_keepsOutputs hd).frame (by simp)) h

theorem forwardCrossings_keepsOutputs (c : Configuration) (role : Role) (x : Nat) : KeepsOutputs a (forwardCrossings c role x d) := by
  unfold forwardCrossings
  dsimp only
  have hguard : KeepsOutputs a (doIf (decide (x = guardEnd c)) forwardGuardEnd (doIf (decide (x = c.b)) (forwardB c) d)) :=
    (doIf_keepsOutputs h (decide (x = c.b)) fun hd => forwardB_keepsOutputs hd c).frame (by simp)
  split
  · exact doIf_keepsOutputs (doIf_keepsOutputs (doIf_keepsOutputs (doIf_keepsOutputs hguard _ rosterClose_keepsOutputs) _
      stringsForwardW_keepsOutputs) _ fun hd => (stringsForwardK_keepsOutputs hd).frame (by simp [forwardK])) _
      stringsForwardD_keepsOutputs
  · have hfinger : KeepsOutputs a (doIf (decide (x = c.fa)) forwardFa _) :=
      doIf_keepsOutputs hguard _ fun hd => rosterClose_keepsOutputs (hd.frame (by simp))
    exact hfinger.frame (by simp)

theorem reverseCrossings_keepsOutputs (c : Configuration) (role : Role) (x : Nat) : KeepsOutputs a (reverseCrossings c role x d) := by
  have hb := doIf_keepsOutputs h (decide (x = c.b)) reverseB_keepsOutputs
  unfold reverseCrossings
  dsimp only
  split
  · exact doIf_keepsOutputs (doIf_keepsOutputs (doIf_keepsOutputs hb _ stringsReverseD_keepsOutputs) _ stringsReverseK_keepsOutputs) _
      stringsReverseW_keepsOutputs
  · exact hb.frame (by simp)

theorem crossings_keepsOutputs (dir : Direction) : KeepsOutputs a (crossings dir d) := by
  unfold crossings
  split
  · exact h
  · refine ite_keepsOutputs (fun _ => ?_) h
    split
    · exact forwardCrossings_keepsOutputs h _ _ _
    · exact reverseCrossings_keepsOutputs h _ _ _

theorem unsettling_keepsOutputs (f : Tracker → Tracker) : KeepsOutputs a (unsettling f d) :=
  doIf_keepsOutputs (h.frame (by simp)) _ fireLeavesFast_keepsOutputs

theorem takeIndexEdge_keepsOutputs : KeepsOutputs a (takeIndexEdge d) := by
  unfold takeIndexEdge
  split
  · exact h
  · next c _ =>
    refine ite_keepsOutputs (fun _ => ?_) (unsettling_keepsOutputs h _)
    have hdist : KeepsOutputs a (onTracker (fun t => { t with indexDist := 0 }) d) := h.frame (by simp)
    exact ite_keepsOutputs (fun _ => hdist) (ite_keepsOutputs (fun _ => hdist.frame (by simp))
      ((unsettling_keepsOutputs hdist fun t => { t with angle := c.index }).frame (by simp)))

theorem checkDistance_keepsOutputs : KeepsOutputs a (checkDistance d) := h.frame (by simp)

theorem handSpeed_keepsOutputs (before : Speed) (completed : Bool) : KeepsOutputs a (handSpeed before completed d) := by
  have hflag : KeepsOutputs a (doIf (decide (before ≠ .fast) && decide (d.tracker.speed = .fast)) (setFlag .fast) d) :=
    h.frame (by simp)
  unfold handSpeed
  dsimp only
  refine ite_keepsOutputs (fun _ => ?_) (doIf_keepsOutputs hflag _ fireLeavesFast_keepsOutputs)
  split
  · exact fireSpan_keepsOutputs hflag _
  · exact hflag

theorem handMotion_keepsOutputs : KeepsOutputs a (handMotion d) := by
  unfold handMotion
  split
  · exact wakePower_keepsOutputs h
  · exact wakePower_keepsOutputs h
  · exact wakePower_keepsOutputs h
  · next hs =>
    exact h.of_safe (fun _ => trainingSound_of_idle (by simp)) (fun _ => enterReady_dropped (abandonTraining_dropped d)) (by simp [hs])
  · exact h

theorem takeStep_keepsOutputs (dir : Direction) (index : Bool) : KeepsOutputs a (takeStep dir index d) := by
  have htracked : KeepsOutputs a (onTracker (stepTracker d.control.config dir) d) := h.frame (by simp)
  have hmotion := handMotion_keepsOutputs
    (handSpeed_keepsOutputs (doIf_keepsOutputs htracked (turns dir d.tracker) turnPick_keepsOutputs) d.tracker.speed
      (completes dir d.tracker))
  unfold takeStep handStep
  dsimp only
  exact doIf_keepsOutputs (checkDistance_keepsOutputs (crossings_keepsOutputs
    (doIf_keepsOutputs hmotion _ fun hd => stringsAtAngle_keepsOutputs hd _) dir)) _ takeIndexEdge_keepsOutputs

theorem shaftStep_keepsOutputs (x y index : Bool) (dt : Lapse) (sense : List StringBits) :
    KeepsOutputs a (shaftStep x y index dt sense d) := by
  unfold shaftStep
  split
  · exact takeStep_keepsOutputs ((pass_keepsOutputs h dt).frame (by simp)) _ _
  · exact h

theorem glitch_keepsOutputs (dt : Lapse) : KeepsOutputs a (glitch dt d) := (pass_keepsOutputs h dt).frame (by simp [glitch])

theorem stalls_keepsOutputs : KeepsOutputs a (stalls d) :=
  ite_keepsOutputs (fun _ => h) (doIf_keepsOutputs (h.frame (by simp)) _ fireLeavesFast_keepsOutputs)

theorem stationaryRises_keepsOutputs : KeepsOutputs a (stationaryRises d) :=
  ite_keepsOutputs (fun _ => dwellTest_keepsOutputs (h.frame (by simp))) h

end

end Sys2Proof.Machine
end

section
/-! SUPPORT. The outputs stay safe along the terminal's requests, every command and every step (R126, R128, R139 to R143). -/

namespace Sys2Proof.Machine

/-! ## The terminal's requests (ch. 12) -/

section
variable {a d : Device} (h : KeepsOutputs a d)
include h

theorem discarded_keepsOutputs : KeepsOutputs a (discarded d) := h

theorem answer_keepsOutputs (r : Request) (res : Result) : KeepsOutputs a (answer r res d) := h.frame (by simp)

theorem withLength_keepsOutputs (r : Request) (n : Nat) (f : Device → Device) (p : List Byte)
    (hf : KeepsOutputs a (f d)) : KeepsOutputs a (withLength r n f p d) :=
  ite_keepsOutputs (fun _ => hf) (answer_keepsOutputs h r .range)

/-- What a request row does to a frame that it drops or refuses keeps the outputs safe; so does the request where its broadcast and
its own effect, in the states that take it, do (R79, R80, R170). -/
theorem takeRequest_keepsOutputs {r : Request} {broadcast : Device → Device} {run : List Byte → Device → Device}
    (hb : ∀ {d}, KeepsOutputs a d → KeepsOutputs a (broadcast d))
    (hr : ∀ {p d}, KeepsOutputs a d → d.control.state ∈ takenIn r → KeepsOutputs a (run p d)) :
    KeepsOutputs a (takeRequest r broadcast run d) := by
  have hpop : KeepsOutputs a (popQueue d) := h.frame (by simp)
  refine ite_keepsOutputs (fun _ => ite_keepsOutputs (fun _ => hb hpop)
    (ite_keepsOutputs (fun _ => hpop.frame (by simp)) ?_)) h
  split
  · exact answer_keepsOutputs hpop _ _
  · next hs => exact hr hpop ((acceptance_eq_none_iff _ _).mp hs)

theorem runConfigure_keepsOutputs (p : List Byte) (hs : d.control.state = .dormant) : KeepsOutputs a (runConfigure p d) := by
  have hstored (c : Configuration) : KeepsOutputs a (storeConfig c d) := by
    have hconfigured : KeepsOutputs a (onControl (fun k => { k with config := some c }) d) := h.frame (by simp)
    have hload := setState_keepsOutputs hconfigured .load (by simp [hs])
    refine mapStrings_keepsOutputs (doIf_keepsOutputs hload _ fun hd => powerOff_keepsOutputs hd (by simp)) fun _ _ s hoff => ?_
    exact hoff
  have hanswer := answer_keepsOutputs h .configure
  exact ite_keepsOutputs (fun _ => hanswer _) (ite_keepsOutputs (fun _ => hanswer _) (ite_keepsOutputs (fun _ => hanswer _)
    (ite_keepsOutputs (fun _ => hanswer _) ((hstored (clamped d.control.role (configFields d.control.role p))).frame (by simp)))))

theorem runLoadDone_keepsOutputs (p : List Byte) (hs : d.control.state = .load) : KeepsOutputs a (runLoadDone p d) := by
  refine withLength_keepsOutputs h _ _ _ p ?_
  split
  · exact h.frame (by simp)
  · have hset : KeepsOutputs a (doIf (isWeft d) (onWeft fun w => { w with toggles := 0#8 }) (setPosition (startPosition d) d)) :=
      h.frame (by simp)
    exact answer_keepsOutputs (enterReady_keepsOutputs hset (by simp [hs])) _ _

theorem armStation_keepsOutputs (hs : d.control.state = .ready) : KeepsOutputs a (armStation d) := by
  have hvoid : KeepsOutputs a (onSeq (fun q => { q with void := true }) d) := h.frame (by simp)
  exact dwellTest_keepsOutputs (setState_keepsOutputs hvoid .weave (by simp [hs]))

theorem broadcastArm_keepsOutputs : KeepsOutputs a (broadcastArm d) :=
  ite_keepsOutputs (fun hs => armStation_keepsOutputs h (of_decide_eq_true hs)) h

theorem broadcastDisarm_keepsOutputs : KeepsOutputs a (broadcastDisarm d) :=
  ite_keepsOutputs (fun hs => disarmStation_keepsOutputs h (of_decide_eq_true (Bool.and_eq_true_iff.mp hs).1)) h

theorem runDisarm_keepsOutputs (p : List Byte) (hs : d.control.state = .weave) : KeepsOutputs a (runDisarm p d) :=
  withLength_keepsOutputs h _ _ _ p
    (ite_keepsOutputs (fun _ => answer_keepsOutputs (disarmStation_keepsOutputs h hs) _ _) (answer_keepsOutputs h _ _))

theorem beginTest_keepsOutputs (t : TestPattern) (row : Nat) (hs : d.control.state = .ready) : KeepsOutputs a (beginTest t row d) := by
  unfold beginTest
  generalize hb : onStrings _ _ = b
  have hfresh : KeepsOutputs a b := by
    subst hb
    exact onStrings_keepsOutputs (freshStrings_keepsOutputs (dropAll_keepsOutputs h)) ⟨rfl, rfl⟩ .inl
  exact setState_keepsOutputs hfresh .test (by simp [← hb, hs])

theorem runTestBegin_keepsOutputs (p : List Byte) (hs : d.control.state = .ready) : KeepsOutputs a (runTestBegin p d) := by
  refine ite_keepsOutputs (fun _ => answer_keepsOutputs h _ _) ?_
  split
  · exact answer_keepsOutputs h _ _
  · exact ite_keepsOutputs (fun _ => answer_keepsOutputs h _ _) (answer_keepsOutputs (beginTest_keepsOutputs h _ _ hs) _ _)

theorem startStep_keepsOutputs (hs : d.control.state = .test) : KeepsOutputs a (startStep d) := by
  unfold startStep
  dsimp only
  generalize hw : wakePower _ = w
  have hwoken : KeepsOutputs a w := by
    subst hw
    exact wakePower_keepsOutputs (onStrings_keepsOutputs (freshStrings_keepsOutputs (dropAll_keepsOutputs h)) ⟨rfl, rfl⟩
      fun _ => .inr (by simpa using hs))
  split
  · exact hwoken.frame (by simp)
  · exact stepFires_keepsOutputs (shiftAll_keepsOutputs hwoken _)
  · exact hwoken

theorem runTestStep_keepsOutputs (p : List Byte) (hs : d.control.state = .test) : KeepsOutputs a (runTestStep p d) :=
  withLength_keepsOutputs h _ _ _ p
    (ite_keepsOutputs (fun _ => answer_keepsOutputs h _ _)
      (ite_keepsOutputs (fun _ => answer_keepsOutputs h _ _) (startStep_keepsOutputs h hs)))

theorem runTrain_keepsOutputs (armature : BitVec 8) (p : List Byte) (hs : d.control.state = .ready) :
    KeepsOutputs a (runTrain armature p d) :=
  ite_keepsOutputs (fun _ => answer_keepsOutputs h _ _)
    (withLength_keepsOutputs h _ _ _ p
      (ite_keepsOutputs (fun _ => answer_keepsOutputs (startTraining_keepsOutputs h armature hs) _ _) (answer_keepsOutputs h _ _)))

theorem runFaultListClear_keepsOutputs (p : List Byte) : KeepsOutputs a (runFaultListClear p d) :=
  ite_keepsOutputs (fun _ => answer_keepsOutputs h _ _)
    (withLength_keepsOutputs h _ _ _ p (answer_keepsOutputs (onStrings_keepsOutputs h ⟨rfl, rfl⟩ .inl) _ _))

end

/-! ## Every command, every step -/

/-- What a command's effect keeps safe, the command keeps safe, with main power or without it. -/
theorem completed_keepsOutputs {f : Device → Device} (hf : ∀ {a d}, KeepsOutputs a d → KeepsOutputs a (f d)) {s t : State}
    (hs : completed f s = .next t) : KeepsOutputs s.dev t.dev := by
  cases hp : s.dev.control.powered with
  | true =>
    obtain rfl := Host.Outcome.next.inj ((completed_powered hp).symm.trans hs)
    exact hf (.refl s.dev)
  | false =>
    obtain rfl := Host.Outcome.next.inj ((completed_unpowered hp).symm.trans hs)
    exact .refl s.dev

/-- A request that nothing does when addressed to all nodes. -/
theorem request_keepsOutputs {r : Request} {run : List Byte → Device → Device}
    (hr : ∀ {a p d}, KeepsOutputs a d → d.control.state ∈ takenIn r → KeepsOutputs a (run p d)) {s t : State}
    (hs : completed (takeRequest r discarded run) s = .next t) : KeepsOutputs s.dev t.dev :=
  completed_keepsOutputs (fun hd => takeRequest_keepsOutputs hd discarded_keepsOutputs hr) hs

theorem exec_keepsOutputs (i : Instr) {s t : State} (hs : exec i s = .next t) : KeepsOutputs s.dev t.dev := by
  cases i
  case countingStep => exact completed_keepsOutputs (fun h => shaftStep_keepsOutputs h _ _ _ _ _) hs
  case encoderGlitch => exact completed_keepsOutputs (fun h => glitch_keepsOutputs h _) hs
  case indexEdge => exact completed_keepsOutputs takeIndexEdge_keepsOutputs hs
  case stallExpiry => exact completed_keepsOutputs stalls_keepsOutputs hs
  case stationarySecond => exact completed_keepsOutputs stationaryRises_keepsOutputs hs
  case fetchComplete => exact completed_keepsOutputs (fun h => fetchCompletes_keepsOutputs h _) hs
  case holdDetected => exact completed_keepsOutputs detectHold_keepsOutputs hs
  case attemptAbandoned => exact completed_keepsOutputs attemptAbandoned_keepsOutputs hs
  case frameSent => exact completed_keepsOutputs frameSent_keepsOutputs hs
  case resetReplyTimeout =>
    exact completed_keepsOutputs (fun h => ite_keepsOutputs (fun _ => resetTo_keepsOutputs h _ _ _ _) h) hs
  case beaconTaken => exact completed_keepsOutputs takeBeaconFrame_keepsOutputs hs
  case testStepCapture => exact completed_keepsOutputs (fun h => stepCaptured_keepsOutputs h _) hs
  case trialSample => exact completed_keepsOutputs (fun h => sampleTrial_keepsOutputs h _) hs
  case restEnd => exact completed_keepsOutputs (fun h => endRest_keepsOutputs h _) hs
  case wakeTimeEnd => exact completed_keepsOutputs (fun h => powerComesOn_keepsOutputs h _) hs
  case inrushEnd => exact completed_keepsOutputs (fun h => inrushEnds_keepsOutputs h _) hs
  case resetPin => exact completed_keepsOutputs (fun h => resetTo_keepsOutputs h _ _ _ _) hs
  case powerOn =>
    obtain rfl := Host.Outcome.next.inj hs
    exact powerOnReset_keepsOutputs (.refl s.dev) _ _ _ _ _ _ _
  case powerFail => exact completed_keepsOutputs (fun h => h.frame (by simp [powerFails, completeAllWrites_state])) hs
  case retainedWriteDone => exact completed_keepsOutputs (fun h => h.frame (by simp [retainedWritten, completeWrite_state])) hs
  case pulseEnd | frameMark | frameReceived | receiveGap | lineStuck | lineClear | frameStart | frameDiscarded
      | weftDetectorPulse | feederStopInput =>
    exact completed_keepsOutputs (fun h => h.frame (by simp)) hs
  case configure => exact request_keepsOutputs (fun h hst => runConfigure_keepsOutputs h _ (by simpa [takenIn] using hst)) hs
  case loadDone => exact request_keepsOutputs (fun h hst => runLoadDone_keepsOutputs h _ (by simpa [takenIn] using hst)) hs
  case testBegin => exact request_keepsOutputs (fun h hst => runTestBegin_keepsOutputs h _ (by simpa [takenIn] using hst)) hs
  case testStep => exact request_keepsOutputs (fun h hst => runTestStep_keepsOutputs h _ (by simpa [takenIn] using hst)) hs
  case testEnd => exact request_keepsOutputs (fun h hst => runTestEnd_keepsOutputs h _ (by simpa [takenIn] using hst)) hs
  case train => exact request_keepsOutputs (fun h hst => runTrain_keepsOutputs h _ _ (by simpa [takenIn] using hst)) hs
  case faultListClear => exact request_keepsOutputs (fun h _ => runFaultListClear_keepsOutputs h _) hs
  case arm =>
    refine completed_keepsOutputs (fun h => takeRequest_keepsOutputs h broadcastArm_keepsOutputs fun hd hst => ?_) hs
    exact withLength_keepsOutputs hd _ _ _ _ (answer_keepsOutputs (armStation_keepsOutputs hd (by simpa [takenIn] using hst)) _ _)
  case disarm =>
    refine completed_keepsOutputs (fun h => takeRequest_keepsOutputs h broadcastDisarm_keepsOutputs fun hd hst => ?_) hs
    exact runDisarm_keepsOutputs hd _ (by simpa [takenIn] using hst)
  case reset =>
    refine completed_keepsOutputs (fun h => takeRequest_keepsOutputs h (fun hd => resetTo_keepsOutputs hd _ _ _ _) fun hd _ => ?_) hs
    exact hd.frame (by simp)
  case rowWrite | rowRead | runWrite | matchWrite | weftMapWrite | positionSet | positionResume | status | flagsTake | faultListRead
      | historyRead | rosterRead | noticeMask =>
    exact request_keepsOutputs (fun h _ => h.frame (by simp)) hs

theorem step_keepsOutputs {s t : State} (hs : step s = .next t) : KeepsOutputs s.dev t.dev := by
  unfold step at hs
  split at hs
  · obtain rfl := Host.Outcome.next.inj hs
    unfold idleTick
    split
    · exact (elapse_keepsOutputs (.refl s.dev) 1 (idleLine s.dev)).frame (by simp [tickDevice])
    · exact .refl s.dev
  · next i rest _ => exact exec_keepsOutputs i (s := { s with pending := rest }) hs

end Sys2Proof.Machine
end

section
/-! SUPPORT. What the shared operations of the string driver do to a string, to its number and to its place (R126, R128, R132), and
the capture of a stepped test (R141). -/

namespace Sys2Proof.Machine

/-! ## Strings at rest -/

theorem restAll_getElem? (d : Device) (i : Nat) :
    (restAll d).strings.strings[i]? = (d.strings.strings[i]?).map fun x => { x with chain := .resting, drive := .off } := by
  simp [restAll, mapAllStrings_strings]

@[simp] theorem restAll_length (d : Device) : (restAll d).strings.strings.length = d.strings.strings.length := by
  simp [restAll, mapAllStrings_strings]

theorem captureAll_getElem? (d : Device) (i : Nat) :
    (captureAll d).strings.strings[i]? = (d.strings.strings[i]?).map fun x =>
      if i < stringCount d then captureString d.seq.pos (d.pins.sense.getD i 0#128) x else x :=
  mapStrings_getElem? _ d i

theorem captureString_fired {x : SelString} (pos : Position) (sense : StringBits) (h : x.chain = .fired) :
    captureString pos sense x =
      { x with chain := .captured, echo := true, expected := some x.outReg, capturePos := some pos, shiftReg := sense } := by
  simp [captureString, h]

theorem captureString_of_ne {x : SelString} (pos : Position) (sense : StringBits) (h : x.chain ≠ .fired) :
    captureString pos sense x = x := if_neg h

/-! ## The completion reply (R81) -/

theorem completeWith_free {f : Frame} {d : Device} (hslot : d.line.replySlot = none) (hwaits : d.line.completion = none) :
    completeWith f d = { d with line := { d.line with replySlot := some ⟨f, 0⟩ } } := by
  simp [completeWith, hslot, hwaits, placeReply, onLine]

theorem completeWith_taken {f : Frame} {d : Device} (h : d.line.replySlot ≠ none ∨ d.line.completion ≠ none) :
    completeWith f d = { d with line := { d.line with completion := some f } } := by
  refine if_neg ?_
  simpa [← Option.isSome_iff_ne_none, imp_iff_not_or] using h

/-! ## The capture of a stepped operation (R141 steps 5 to 7) -/

/-- What the capture of a stepped operation leaves before its reply: every string at rest, the step IDLE and numbered on. -/
def stepTaken (sense : List StringBits) (d : Device) : Device :=
  nextStep (onStrings (fun g => { g with mode := .none, test := { g.test with op := .idle } })
    (restAll (captureAll (onPins (fun p => { p with sense := sense }) d))))

theorem stepCaptured_eq {n : Nat} (sense : List StringBits) {d : Device} (h : d.strings.test.op = .inFlight (.energised n)) :
    stepCaptured sense d =
      completeWith (replyFrame d .testStep .done noDetail (be16 d.strings.test.step)) (stepTaken sense d) := by
  unfold stepCaptured
  rw [h]
  rfl

@[simp] theorem stepTaken_frame (sense : List StringBits) (d : Device) :
    (stepTaken sense d).tracker = d.tracker ∧ (stepTaken sense d).seq = d.seq ∧ (stepTaken sense d).store = d.store ∧
    (stepTaken sense d).line = d.line ∧ (stepTaken sense d).roster = d.roster ∧ (stepTaken sense d).control = d.control := by
  simp [stepTaken]

theorem stepTaken_test (sense : List StringBits) (d : Device) :
    (stepTaken sense d).strings.test = { d.strings.test with step := (d.strings.test.step + 1) % 65536, op := .idle } := rfl

theorem stepTaken_mode (sense : List StringBits) (d : Device) : (stepTaken sense d).strings.mode = .none := rfl

theorem stepTaken_length (sense : List StringBits) (d : Device) :
    (stepTaken sense d).strings.strings.length = d.strings.strings.length := by
  simp [stepTaken, nextStep, restAll, captureAll, mapStrings, mapAllStrings]

theorem stepTaken_getElem? (sense : List StringBits) (d : Device) (i : Nat) :
    (stepTaken sense d).strings.strings[i]? = (d.strings.strings[i]?).map fun x =>
      { (if i < stringCount d then captureString d.seq.pos (sense.getD i 0#128) x else x) with chain := .resting, drive := .off } := by
  rw [show (stepTaken sense d).strings.strings = (restAll (captureAll (onPins (fun p => { p with sense := sense }) d))).strings.strings
    from rfl, restAll_getElem?, captureAll_getElem?]
  exact Option.map_map _ _ _

theorem stepTaken_rest (sense : List StringBits) (d : Device) :
    ∀ x ∈ (stepTaken sense d).strings.strings, x.drive = .off ∧ x.chain = .resting := restAll_off _

end Sys2Proof.Machine
end

section
/-! SUPPORT. TEST begun and ended (R139): what the two requests do to the strings, and the refusals of TEST BEGIN. -/

namespace Sys2Proof.Machine

/-- After what leaves the line and the station number as they are, a reply leaves the line `answered`. -/
theorem answer_line {r : Request} {res : Result} {x d : Device} (hline : x.line = (popQueue d).line)
    (hnumber : x.control.number = d.control.number) : (answer r res x).line = answered r res noDetail [] d := by
  simp [answer, placeReply, replyFrame, answered, onLine, hline, hnumber, popQueue_line]

/-! ## TEST BEGIN -/

/-- A string made ready for a new pick or step: RESTING and dropped, its pattern, latched and waiting marks clear, no fire angle. -/
def freshString (x : SelString) : SelString :=
  { x with chain := .resting, pattern := false, latched := false, waiting := false, fireAngle := none, drive := .off }

theorem freshStrings_dropAll_strings (d : Device) :
    (freshStrings (dropAll d)).strings = { d.strings with strings := d.strings.strings.map freshString } := by
  simp [freshStrings, dropAll, mapAllStrings_strings, dropString, freshString]

theorem beginTest_eq (k : TestPattern) (row : Nat) (d : Device) :
    beginTest k row d = { d with
      control := { d.control with state := .test }
      strings := { (freshStrings (dropAll d)).strings with test := ⟨some k, row, 0, .idle⟩ } } := rfl

theorem patternOf_none {n : Nat} (h : 4 < n) : patternOf n = none := by
  obtain ⟨m, rfl⟩ := Nat.exists_eq_add_of_le h
  simp [patternOf, Nat.add_comm]

theorem runTestBegin_weft (p : List Byte) {d : Device} (h : d.control.role = .weftRole) :
    runTestBegin p d = answer .testBegin .role d := by
  simp [runTestBegin, isWeft, h]

theorem runTestBegin_accepted {p : List Byte} {k : TestPattern} {d : Device} (hrole : d.control.role = .sectionRole)
    (hlength : p.length = 3) (hk : patternOf (fieldAt p 0 1) = some k) (hrow : k = .row → fieldAt p 1 2 ≤ 16383) :
    runTestBegin p d = answer .testBegin .done (beginTest k (fieldAt p 1 2) d) := by
  rw [runTestBegin, if_neg (by simp [isWeft, hrole]), hk]
  exact if_neg (by simpa [hlength] using hrow)

theorem runTestBegin_refused {p : List Byte} {d : Device} (hrole : d.control.role = .sectionRole)
    (h : p.length ≠ 3 ∨ 4 < fieldAt p 0 1 ∨ (fieldAt p 0 1 = 4 ∧ 16383 < fieldAt p 1 2)) :
    runTestBegin p d = answer .testBegin .range d := by
  rw [runTestBegin, if_neg (by simp [isWeft, hrole])]
  split
  · rfl
  · next k hk =>
    refine if_pos (h.imp_right fun h => ?_)
    obtain hcode | ⟨hcode, hrow⟩ := h
    · rw [patternOf_none hcode] at hk
      cases hk
    · rw [hcode] at hk
      exact ⟨(Option.some.inj hk).symm, hrow⟩

/-! ## TEST END -/

theorem leaveTest_fetch (d : Device) (row e : Nat) : (leaveTest d).store.fetch ≠ .fetching row .test e := by
  have hstore : (leaveTest d).store = (endTestFetch d).store := by simp [leaveTest]
  rw [hstore]
  exact endTestFetch_fetch d row e

theorem leaveTest_strings (d : Device) :
    (leaveTest d).strings = { d.strings with
      mode := .none, blank := false, captureDone := false, missTested := true
      strings := (restAll d).strings.strings
      test := { d.strings.test with op := .idle } } := by
  simp [leaveTest, stringsLeave, restAll, mapAllStrings_strings]

theorem enterReady_test (d : Device) : (enterReady d).strings.test = d.strings.test := by
  obtain e | e := dwellTest_cases (setState .ready d) <;> rw [enterReady, e]
  · rfl
  · rfl

theorem enterReady_length (d : Device) : (enterReady d).strings.strings.length = d.strings.strings.length := by
  obtain e | e := dwellTest_cases (setState .ready d) <;> rw [enterReady, e]
  · rfl
  · simp [powerOff_strings, setState]

end Sys2Proof.Machine
end

section
/-! SUPPORT. What a shift leaves of the string driver beside the strings themselves, the faults that its comparison finds, and what
taking them does to the fault list, the flags and the pick (R44, R130, R137). -/

namespace Sys2Proof.Machine

/-! ## The string driver beside its strings -/

/-- A change of the strings leaves the rest of the string driver. -/
theorem mapStrings_driver (f : Nat → SelString → SelString) (d : Device) :
    (mapStrings f d).strings = { d.strings with strings := (mapStrings f d).strings.strings } := rfl

theorem fireWhere_driver (p : Nat → SelString → Bool) (d : Device) :
    (fireWhere p d).strings = { d.strings with strings := (fireWhere p d).strings.strings } := by
  rw [fireWhere, mapStrings_driver]
  simp

theorem fireWaiting_driver (d : Device) :
    (fireWaiting d).strings = { d.strings with strings := (fireWaiting d).strings.strings } := fireWhere_driver _ d

theorem takeFault_driver (d : Device) (f : FaultEntry) : (takeFault d f).strings = { d.strings with
    faults := (takeFault d f).strings.faults, overflow := (takeFault d f).strings.overflow } := by
  unfold takeFault
  dsimp only
  split
  · rfl
  · split <;> rfl

theorem foldl_takeFault_driver (fs : List FaultEntry) (d : Device) : (fs.foldl takeFault d).strings = { d.strings with
    faults := (fs.foldl takeFault d).strings.faults, overflow := (fs.foldl takeFault d).strings.overflow } := by
  induction fs generalizing d with
  | nil => rfl
  | cons f fs ih => rw [List.foldl_cons, ih, takeFault_driver]

/-! ## The comparison (R130) -/

/-- The fault of one place of a string with an expected pattern (R130 step 1). -/
def faultAt (i : Nat) (x : SelString) (ex : StringBits) (p : Nat) : FaultEntry :=
  ⟨i * 128 + p, if ex.getLsbD p then .openFault else .stuckOn, x.capturePos.getD Position.reset, 1⟩

/-- A comparison lists the places where the two patterns differ. -/
theorem compareString_eq (i : Nat) {x : SelString} {ex : StringBits} (hecho : x.echo = true) (hex : x.expected = some ex) :
    compareString i x =
      ((List.range 128).filter fun p => ex.getLsbD p != x.shiftReg.getLsbD p).map (faultAt i x ex) := by
  have hplace (p : Nat) : (if ex.getLsbD p && !x.shiftReg.getLsbD p then
        some (⟨i * 128 + p, .openFault, x.capturePos.getD Position.reset, 1⟩ : FaultEntry)
      else if !ex.getLsbD p && x.shiftReg.getLsbD p then
        some ⟨i * 128 + p, .stuckOn, x.capturePos.getD Position.reset, 1⟩
      else none) = if ex.getLsbD p != x.shiftReg.getLsbD p then some (faultAt i x ex p) else none := by
    cases he : ex.getLsbD p <;> cases hs : x.shiftReg.getLsbD p <;> simp [faultAt, he]
  simp only [compareString, hecho, hex, hplace]
  induction List.range 128 with
  | nil => rfl
  | cons p ps ih =>
    rw [List.filterMap_cons, List.filter_cons, ih]
    cases ex.getLsbD p != x.shiftReg.getLsbD p <;> rfl

theorem mem_compareString {i : Nat} {x : SelString} {f : FaultEntry} :
    f ∈ compareString i x ↔ ∃ ex p, x.echo = true ∧ x.expected = some ex ∧ p < 128 ∧ f = faultAt i x ex p ∧
      ex.getLsbD p ≠ x.shiftReg.getLsbD p := by
  refine ⟨fun hf => ?_, fun ⟨ex, p, hecho, hex, hp, hfault, hdiffer⟩ => ?_⟩
  · cases hecho : x.echo with
    | false => simp [compareString_of_no_echo i hecho] at hf
    | true =>
      cases hex : x.expected with
      | none => simp [compareString, hex] at hf
      | some ex =>
        rw [compareString_eq i hecho hex] at hf
        obtain ⟨p, hp, rfl⟩ := List.mem_map.mp hf
        rw [List.mem_filter, List.mem_range, bne_iff_ne] at hp
        exact ⟨ex, p, rfl, rfl, hp.1, rfl, hp.2⟩
  · rw [compareString_eq i hecho hex]
    exact List.mem_map.mpr ⟨p, List.mem_filter.mpr ⟨List.mem_range.mpr hp, bne_iff_ne.mpr hdiffer⟩, hfault.symm⟩

/-- The faults of one string stand at its own hooks. -/
theorem compareString_hook {i : Nat} {x : SelString} {f : FaultEntry} (hf : f ∈ compareString i x) :
    i * 128 ≤ f.hook ∧ f.hook < (i + 1) * 128 := by
  obtain ⟨ex, p, -, -, hp, rfl, -⟩ := mem_compareString.mp hf
  simp only [faultAt]
  omega

theorem compareString_pairwise (i : Nat) (x : SelString) : (compareString i x).Pairwise fun f g => f.hook < g.hook := by
  cases hecho : x.echo with
  | false => simp [compareString_of_no_echo i hecho]
  | true =>
    cases hex : x.expected with
    | none => simp [compareString, hex]
    | some ex =>
      rw [compareString_eq i hecho hex, List.pairwise_map]
      exact (List.pairwise_lt_range.filter _).imp fun h => by simpa [faultAt] using h

theorem mem_compareAll {d : Device} {f : FaultEntry} :
    f ∈ compareAll d ↔ ∃ i x, i < stringCount d ∧ d.strings.strings[i]? = some x ∧ f ∈ compareString i x := by
  simp only [compareAll, List.mem_flatten, List.mem_mapIdx]
  refine ⟨fun ⟨_, ⟨i, hi, he⟩, hf⟩ => ?_, fun ⟨i, x, hi, hx, hf⟩ => ?_⟩
  · have hlt : i < stringCount d ∧ i < d.strings.strings.length := by simpa using hi
    refine ⟨i, _, hlt.1, List.getElem?_eq_getElem hlt.2, ?_⟩
    rwa [← he, List.getElem_take] at hf
  · obtain ⟨hlt, rfl⟩ := List.getElem?_eq_some_iff.mp hx
    exact ⟨_, ⟨i, by simpa using ⟨hi, hlt⟩, rfl⟩, by rwa [List.getElem_take]⟩

/-- The faults of a comparison rise by hook: within a string by place, and from one string to the next. -/
theorem compareAll_pairwise (d : Device) : (compareAll d).Pairwise fun f g => f.hook < g.hook := by
  rw [compareAll, List.pairwise_flatten]
  refine ⟨fun l hl => ?_, List.pairwise_iff_getElem.mpr fun i j hi hj hij f hf g hg => ?_⟩
  · obtain ⟨i, hi, rfl⟩ := List.mem_mapIdx.mp hl
    exact compareString_pairwise i _
  · rw [List.getElem_mapIdx] at hf hg
    have hf' := (compareString_hook hf).2
    have hg' := (compareString_hook hg).1
    have : (i + 1) * 128 ≤ j * 128 := Nat.mul_le_mul_right _ hij
    omega

theorem compareAll_congr {d t : Device} (hstrings : t.strings.strings = d.strings.strings)
    (hcount : stringCount t = stringCount d) : compareAll t = compareAll d := by
  rw [compareAll, compareAll, hstrings, hcount]

/-! ## Faults taken (R137) -/

theorem sameFault_iff (a b : FaultEntry) : sameFault a b = true ↔ a.hook = b.hook ∧ a.kind = b.kind := by
  simp [sameFault]

theorem takeFault_listed {d : Device} {f : FaultEntry} (h : ∃ e ∈ d.strings.faults, e.hook = f.hook ∧ e.kind = f.kind) :
    (takeFault d f).strings = { d.strings with
      faults := d.strings.faults.map fun e =>
        if f.hook = e.hook ∧ f.kind = e.kind then { e with occurrences := min (e.occurrences + 1) 255 } else e } := by
  obtain ⟨e, he, hhook, hkind⟩ := h
  have hany : d.strings.faults.any (sameFault f) = true :=
    List.any_eq_true.mpr ⟨e, he, (sameFault_iff f e).mpr ⟨hhook.symm, hkind.symm⟩⟩
  simp [takeFault, hany, sameFault_iff, satInc]

theorem not_listed {d : Device} {f : FaultEntry} (h : ∀ e ∈ d.strings.faults, ¬(e.hook = f.hook ∧ e.kind = f.kind)) :
    d.strings.faults.any (sameFault f) = false := by
  rw [List.any_eq_false]
  intro e he hsame
  obtain ⟨hhook, hkind⟩ := (sameFault_iff f e).mp hsame
  exact h e he ⟨hhook.symm, hkind.symm⟩

theorem takeFault_added {d : Device} {f : FaultEntry} (h : ∀ e ∈ d.strings.faults, ¬(e.hook = f.hook ∧ e.kind = f.kind))
    (hroom : d.strings.faults.length < 32) : (takeFault d f).strings = { d.strings with faults := d.strings.faults ++ [f] } := by
  simp [takeFault, not_listed h, hroom]

theorem takeFault_full {d : Device} {f : FaultEntry} (h : ∀ e ∈ d.strings.faults, ¬(e.hook = f.hook ∧ e.kind = f.kind))
    (hfull : 32 ≤ d.strings.faults.length) :
    (takeFault d f).strings = { d.strings with overflow := min (d.strings.overflow + 1) 65535 } ∧
      flagOf .faultListFull (takeFault d f).control = true := by
  simp [takeFault, not_listed h, Nat.not_lt.mpr hfull, inc16, satInc]

theorem takeFault_flag (d : Device) (f : FaultEntry) : flagOf .selectorFault (takeFault d f).control = true := by
  unfold takeFault
  dsimp only
  split
  · simp
  · split <;> simp

theorem takeFault_stays {f : Flag} {d : Device} (e : FaultEntry) (h : flagOf f d.control = true) :
    flagOf f (takeFault d e).control = true := by
  unfold takeFault
  dsimp only
  split
  · simp [h]
  · split <;> simp [h]

/-- A comparison that finds a fault sets SELECTOR FAULT. -/
theorem foldl_takeFault_flag {fs : List FaultEntry} (h : fs ≠ []) (d : Device) :
    flagOf .selectorFault (fs.foldl takeFault d).control = true := by
  have hstays : ∀ (fs : List FaultEntry) (d : Device), flagOf .selectorFault d.control = true →
      flagOf .selectorFault (fs.foldl takeFault d).control = true := by
    intro fs
    induction fs with
    | nil => exact fun d hd => hd
    | cons f fs ih => exact fun d hd => ih _ (takeFault_stays f hd)
  obtain ⟨f, fs, rfl⟩ := List.exists_cons_of_ne_nil h
  exact hstays fs _ (takeFault_flag d f)

/-- Two stations with the same fault list and overflow count have them the same after a fault. -/
theorem takeFault_lists_congr {d t : Device} (f : FaultEntry)
    (h : t.strings.faults = d.strings.faults ∧ t.strings.overflow = d.strings.overflow) :
    (takeFault t f).strings.faults = (takeFault d f).strings.faults ∧
      (takeFault t f).strings.overflow = (takeFault d f).strings.overflow := by
  obtain ⟨hfaults, hoverflow⟩ := h
  unfold takeFault
  dsimp only
  simp only [setFlag_frame, hfaults]
  split
  · simp [hfaults, hoverflow]
  · split <;> simp [hfaults, hoverflow]

theorem foldl_takeFault_lists_congr (fs : List FaultEntry) {d t : Device}
    (h : t.strings.faults = d.strings.faults ∧ t.strings.overflow = d.strings.overflow) :
    (fs.foldl takeFault t).strings.faults = (fs.foldl takeFault d).strings.faults ∧
      (fs.foldl takeFault t).strings.overflow = (fs.foldl takeFault d).strings.overflow := by
  induction fs generalizing d t with
  | nil => exact h
  | cons f fs ih => exact ih (takeFault_lists_congr f h)

/-- Whether a comparison event has added an entry or raised the overflow count (R137). -/
def faultsGrew (d t : Device) : Bool :=
  decide (d.strings.faults.length < t.strings.faults.length) || decide (d.strings.overflow < t.strings.overflow)

theorem takeFaults_eq (fs : List FaultEntry) (d : Device) :
    takeFaults fs d = doIf (faultsGrew d (fs.foldl takeFault d)) ownHold (fs.foldl takeFault d) := rfl

/-- An own hold in WEAVE voids the pick, and a pulse is under way after it unless the line is STUCK (R44, R86). -/
theorem ownHold_voids {d : Device} (h : d.control.state = .weave) :
    (ownHold d).seq.void = true ∧ (d.line.stuck = false → ∃ n, (ownHold d).line.tx = .pulse n) := by
  rw [ownHold_weave h]
  exact ⟨by simp, fun hstuck => (requestPulse_clear (d := { d with seq := { d.seq with void := true } }) hstuck).1⟩

/-! ## What a shift does beside the strings (R130, R137) -/

/-- What a comparison leaves (R137): the faults taken, SELECTOR FAULT where there is one, and a hold where the list or the overflow count
has grown. -/
structure FaultsTaken (fs : List FaultEntry) (d t : Device) : Prop where
  faults : t.strings.faults = (fs.foldl takeFault d).strings.faults
  overflow : t.strings.overflow = (fs.foldl takeFault d).strings.overflow
  flag : fs ≠ [] → flagOf .selectorFault t.control = true
  held : faultsGrew d t = true → d.control.state = .weave →
    t.seq.void = true ∧ (d.line.stuck = false → ∃ n, t.line.tx = .pulse n)
  kept : faultsGrew d t = false → t.seq.void = d.seq.void

theorem faultsGrew_congr {d e t u : Device}
    (hd : e.strings.faults = d.strings.faults ∧ e.strings.overflow = d.strings.overflow)
    (ht : u.strings.faults = t.strings.faults ∧ u.strings.overflow = t.strings.overflow) : faultsGrew e u = faultsGrew d t := by
  rw [faultsGrew, faultsGrew, hd.1, hd.2, ht.1, ht.2]

theorem takeFaults_driver (fs : List FaultEntry) (d : Device) : (takeFaults fs d).strings = { d.strings with
    faults := (fs.foldl takeFault d).strings.faults, overflow := (fs.foldl takeFault d).strings.overflow } := by
  rw [← foldl_takeFault_driver, takeFaults_eq]
  simp

theorem takeFaults_taken (fs : List FaultEntry) (d : Device) : FaultsTaken fs d (takeFaults fs d) := by
  have hstate : (fs.foldl takeFault d).control.state = d.control.state := foldl_keeps (·.control.state) takeFault (by simp) fs d
  have hstuck : (fs.foldl takeFault d).line.stuck = d.line.stuck := foldl_keeps (·.line.stuck) takeFault (by simp) fs d
  have hvoid : (fs.foldl takeFault d).seq.void = d.seq.void := foldl_keeps (·.seq.void) takeFault (by simp) fs d
  have hgrew : faultsGrew d (takeFaults fs d) = faultsGrew d (fs.foldl takeFault d) :=
    faultsGrew_congr ⟨rfl, rfl⟩ (by simp [takeFaults_driver])
  refine ⟨by rw [takeFaults_driver], by rw [takeFaults_driver], fun hfs => ?_, fun hg hweave => ?_, fun hg => ?_⟩
  · rw [takeFaults_eq, doIf_flagOf _ _ _ _ (ownHold_flagOf (by decide) _)]
    exact foldl_takeFault_flag hfs d
  · rw [takeFaults_eq, ← hgrew, hg]
    simpa [doIf_true, hstuck] using ownHold_voids (hstate.trans hweave)
  · rw [takeFaults_eq, ← hgrew, hg]
    exact hvoid

/-- The same faults, taken before an operation that leaves the fault list and between stations that have it the same. -/
theorem FaultsTaken.congr {fs : List FaultEntry} {d t e u : Device} (h : FaultsTaken fs d t)
    (hd : e.strings.faults = d.strings.faults ∧ e.strings.overflow = d.strings.overflow ∧
      e.control.state = d.control.state ∧ e.seq.void = d.seq.void ∧ e.line.stuck = d.line.stuck)
    (ht : u.strings.faults = t.strings.faults ∧ u.strings.overflow = t.strings.overflow ∧ u.control = t.control ∧
      u.seq.void = t.seq.void ∧ ((∃ n, t.line.tx = .pulse n) → ∃ n, u.line.tx = .pulse n)) : FaultsTaken fs e u := by
  obtain ⟨hfaults, hoverflow, hstate, hvoid, hstuck⟩ := hd
  obtain ⟨hfaults', hoverflow', hcontrol', hvoid', hpulse'⟩ := ht
  have hlists := foldl_takeFault_lists_congr fs ⟨hfaults, hoverflow⟩
  have hgrew : faultsGrew e u = faultsGrew d t := faultsGrew_congr ⟨hfaults, hoverflow⟩ ⟨hfaults', hoverflow'⟩
  refine ⟨?_, ?_, ?_, ?_, ?_⟩
  · rw [hfaults', h.faults, hlists.1]
  · rw [hoverflow', h.overflow, hlists.2]
  · rw [hcontrol']
    exact h.flag
  · rw [hgrew, hstate, hvoid', hstuck]
    exact fun hg hweave => (h.held hg hweave).imp_right fun hp hclear => hpulse' (hp hclear)
  · rw [hgrew, hvoid', hvoid]
    exact h.kept

theorem fireWaiting_overflow (d : Device) : (fireWaiting d).strings.overflow = d.strings.overflow := by rw [fireWaiting_driver]

theorem shiftAll_taken (field : Nat → StringBits) (d : Device) : FaultsTaken (compareAll d) d (shiftAll field d) :=
  (takeFaults_taken (compareAll d) (mapStrings (fun i s => { s with echo := false, shiftReg := field i, pattern := true }) d)).congr
    ⟨rfl, rfl, rfl, rfl, rfl⟩ (by simp [shiftAll, fireWaiting_overflow])

/-- A shift leaves of the string driver all but the strings, the fault list and its overflow count. -/
theorem shiftAll_driver (field : Nat → StringBits) (d : Device) : (shiftAll field d).strings = { d.strings with
    strings := (shiftAll field d).strings.strings
    faults := (shiftAll field d).strings.faults
    overflow := (shiftAll field d).strings.overflow } := by
  unfold shiftAll
  rw [fireWaiting_driver, takeFaults_driver, mapStrings_driver]

/-! ## A completed fetch (R66, R70) -/

/-- What the fetch tells the line controller leaves a pulse under way (R95). -/
theorem tellLine_pulse (rev : Bool) {d : Device} (h : ∃ n, d.line.tx = .pulse n) : ∃ n, (tellLine rev d).line.tx = .pulse n := by
  obtain ⟨n, hn⟩ := h
  refine ⟨n, ?_⟩
  unfold tellLine
  split
  · exact hn
  · unfold beaconRowReady
    split
    · next g hdue =>
      unfold buildBeacon
      split
      · exact discardBeacon_pulse (d := onLine (fun l => { l with beaconDue := .due true g }) d) hn
      · exact hn
    · exact hn

/-- With power ON a stepped operation fires every string and is energised (R141 step 4). -/
theorem stepFires_on {d : Device} (h : mayEnergise d = true) : (stepFires d).strings = { d.strings with
    strings := (fireWhere (fun _ _ => true) d).strings.strings
    test := { d.strings.test with op := .inFlight (.energised 0) } } := by
  rw [stepFires, if_pos h, onStrings_strings, fireWhere_driver]

/-- Without it the step waits for power. -/
theorem stepFires_off {d : Device} (h : mayEnergise d = false) :
    stepFires d = { d with strings := { d.strings with test := { d.strings.test with op := .inFlight .power } } } := by
  rw [stepFires, if_neg (by simp [h])]
  rfl

theorem stepFires_overflow (d : Device) : (stepFires d).strings.overflow = d.strings.overflow := by
  cases h : mayEnergise d with
  | true => rw [stepFires_on h]
  | false => rw [stepFires_off h]

theorem stepFetched_overflow (d : Device) : (stepFetched d).strings.overflow = d.strings.overflow := by
  unfold stepFetched
  split
  · exact stepFires_overflow d
  · rfl

theorem fetchCompletes_test {d : Device} {row e : Nat} (hf : d.store.fetch = .fetching row .test e) :
    fetchCompletes [] d = testFetched row (isWritten d row && (readRow d row).sound) (readRow d row) d := by
  have hmem : onStore (fun s => { s with mem := Memory.writeCells s.mem [] }) d = d := rfl
  unfold fetchCompletes
  rw [hmem]
  simp only [hf]

/-- A sound fetch of a section station, for a pick or for a test step, takes the faults of the strings as they stood. -/
theorem fetchCompletes_taken {d : Device} {row e : Nat} {p : FetchPurpose} (hrole : d.control.role = .sectionRole)
    (hf : d.store.fetch = .fetching row p e) (hw : row ∈ d.store.written) (hs : (readRow d row).sound = true) :
    FaultsTaken (compareAll d) d (fetchCompletes [] d) := by
  cases p with
  | pick rev o =>
    have hhanded : compareAll (soundHanded row o (readRow d row) d) = compareAll d := compareAll_congr rfl rfl
    have htaken := shiftAll_taken (stringBits (readRow d row).field) (soundHanded row o (readRow d row) d)
    rw [fetchCompletes_sound hf hw hs, soundPick_section row rev o _ hrole, ← hhanded]
    exact htaken.congr ⟨rfl, rfl, rfl, rfl, rfl⟩ (by simpa using tellLine_pulse rev)
  | test =>
    generalize hr : readRow d row = r at *
    have hhanded : compareAll (fillResult ⟨row, r.weft.toNat, liftCount r.field, r.field, true⟩ d) = compareAll d :=
      compareAll_congr rfl rfl
    have htaken := shiftAll_taken (stringBits r.field) (fillResult ⟨row, r.weft.toNat, liftCount r.field, r.field, true⟩ d)
    rw [fetchCompletes_test hf, isWritten, decide_eq_true hw, hr, hs, ← hhanded]
    exact htaken.congr ⟨rfl, rfl, rfl, rfl, rfl⟩ (by simp [testFetched, stepFetched_overflow])

end Sys2Proof.Machine
end

section
/-! SUPPORT. A shift string by string, and the steps of a stepped test (R126, R130, R131, R141): its start, its fetch, its firing. -/

namespace Sys2Proof.Machine

/-! ## A shift, string by string (R130, R131) -/

/-- Lists that agree in which places are filled have the same length. -/
theorem length_eq_of_getElem?_map {α β : Type} {l : List α} {m : List β} {f : Nat → α → β}
    (h : ∀ i, m[i]? = (l[i]?).map (f i)) : m.length = l.length := by
  have hnone (i : Nat) : m.length ≤ i ↔ l.length ≤ i := by
    rw [← List.getElem?_eq_none_iff, h, Option.map_eq_none_iff, List.getElem?_eq_none_iff]
  exact le_antisymm ((hnone _).mpr le_rfl) ((hnone _).mp le_rfl)

/-- A string that has taken its bits (R130). -/
def shifted (b : StringBits) (x : SelString) : SelString := { x with echo := false, shiftReg := b, pattern := true }

/-- A string fired again is as it was fired: its latched mark is set (R126). -/
theorem fireString_fireString (x : SelString) : fireString (fireString x) = fireString x := rfl

theorem mayEnergise_iff (d : Device) :
    mayEnergise d = true ↔ d.strings.power = .on ∧ d.control.state ∈ [.weave, .test, .train] := by
  simp [mayEnergise, or_assoc]

/-- Without string power ON nothing fires (R126). -/
theorem mayFireWaiting_unpowered {d : Device} (h : d.strings.power ≠ .on) (x : SelString) : mayFireWaiting d x = false := by
  simp [mayFireWaiting, readyToFire, mayEnergise, h]

theorem mayFireWaiting_of_not_waiting (d : Device) {x : SelString} (h : x.waiting = false) : mayFireWaiting d x = false := by
  simp [mayFireWaiting, h]

theorem readyToFire_congr {d t : Device} (hstate : t.control.state = d.control.state)
    (hdriver : t.strings.power = d.strings.power ∧ t.strings.blank = d.strings.blank) (x : SelString) :
    readyToFire t x = readyToFire d x := by
  rw [readyToFire, readyToFire, mayEnergise_congr hstate hdriver.1, hdriver.2]

theorem mayFireWaiting_congr {d t : Device} (hstate : t.control.state = d.control.state)
    (hdriver : t.strings.power = d.strings.power ∧ t.strings.blank = d.strings.blank ∧
      t.strings.captureDone = d.strings.captureDone ∧ t.strings.mode = d.strings.mode) (x : SelString) :
    mayFireWaiting t x = mayFireWaiting d x := by
  obtain ⟨hpower, hblank, hdone, hmode⟩ := hdriver
  rw [mayFireWaiting, mayFireWaiting, readyToFire_congr hstate ⟨hpower, hblank⟩, hdone, hmode]

/-- A shifted string is one that has taken its bits, fired at once where it waited for nothing else. -/
theorem shiftAll_getElem? (field : Nat → StringBits) (d : Device) (i : Nat) :
    (shiftAll field d).strings.strings[i]? = (d.strings.strings[i]?).map fun x =>
      if i < stringCount d then
        if mayFireWaiting d (shifted (field i) x) then fireString (shifted (field i) x) else shifted (field i) x
      else x := by
  generalize hs : takeFaults (compareAll d)
    (mapStrings (fun i s => { s with echo := false, shiftReg := field i, pattern := true }) d) = t
  have hcount : stringCount t = stringCount d := stringCount_congr (by simp [← hs]) (by simp [← hs])
  have hmay (x : SelString) : mayFireWaiting t x = mayFireWaiting d x := by
    refine mayFireWaiting_congr (by simp [← hs]) ?_ x
    rw [← hs, takeFaults_driver, mapStrings_driver]
    exact ⟨rfl, rfl, rfl, rfl⟩
  have hstrings : t.strings.strings[i]? = (d.strings.strings[i]?).map fun x => if i < stringCount d then shifted (field i) x else x := by
    rw [← hs, takeFaults_strings, mapStrings_getElem?]
    rfl
  rw [shiftAll, hs, fireWaiting, fireWhere_getElem?, hstrings, hcount, Option.map_map]
  congr 1
  funext x
  by_cases hi : i < stringCount d <;> simp [hi, hmay]

/-- A string that does not wait takes its bits and does not fire. -/
theorem shiftAll_of_not_waiting (field : Nat → StringBits) {d : Device} (h : ∀ x ∈ d.strings.strings, x.waiting = false) (i : Nat) :
    (shiftAll field d).strings.strings[i]? =
      (d.strings.strings[i]?).map fun x => if i < stringCount d then shifted (field i) x else x := by
  rw [shiftAll_getElem?]
  refine Option.map_congr fun x hx => ?_
  have hwait : (shifted (field i) x).waiting = false := h x (List.mem_of_getElem? hx)
  rw [mayFireWaiting_of_not_waiting d hwait]
  rfl

/-- Without string power ON no shifted string fires. -/
theorem shiftAll_unpowered (field : Nat → StringBits) {d : Device} (h : d.strings.power ≠ .on) (i : Nat) :
    (shiftAll field d).strings.strings[i]? =
      (d.strings.strings[i]?).map fun x => if i < stringCount d then shifted (field i) x else x := by
  rw [shiftAll_getElem?]
  simp only [mayFireWaiting_unpowered h]
  rfl

/-- Every string fired after a shift has fired with its bits, whether it waited or not. -/
theorem fireAll_shiftAll_getElem? (field : Nat → StringBits) (d : Device) (i : Nat) :
    (fireWhere (fun _ _ => true) (shiftAll field d)).strings.strings[i]? =
      (d.strings.strings[i]?).map fun x => if i < stringCount d then fireString (shifted (field i) x) else x := by
  have hcount : stringCount (shiftAll field d) = stringCount d := stringCount_congr (by simp) (by simp)
  rw [fireWhere_getElem?, shiftAll_getElem?, Option.map_map, hcount]
  congr 1
  funext x
  by_cases hi : i < stringCount d
  · simp only [Function.comp_apply, hi, if_true, and_self]
    split
    · exact fireString_fireString _
    · rfl
  · simp [hi]

/-! ## A shift outside WEAVE (R44, R137) -/

/-- Outside WEAVE a comparison asks for no hold that changes anything. -/
theorem takeFaults_outside (fs : List FaultEntry) {d : Device} (h : d.control.state ≠ .weave) :
    takeFaults fs d = fs.foldl takeFault d := by
  have hstate : (fs.foldl takeFault d).control.state = d.control.state := foldl_keeps (·.control.state) takeFault (by simp) fs d
  rw [takeFaults_eq, doIf]
  split
  · exact ownHold_outside (hstate ▸ h)
  · rfl

theorem shiftAll_outside (field : Nat → StringBits) {d : Device} (h : d.control.state ≠ .weave) :
    (shiftAll field d).seq = d.seq ∧ (shiftAll field d).line = d.line := by
  simp only [shiftAll, fireWaiting_frame]
  rw [takeFaults_outside _ (by simpa using h)]
  exact ⟨foldl_keeps (·.seq) takeFault (by simp) _ _, foldl_keeps (·.line) takeFault (by simp) _ _⟩

theorem takeFault_flagOf {f : Flag} (hf : f ≠ .selectorFault) (hfull : f ≠ .faultListFull) (d : Device) (e : FaultEntry) :
    flagOf f (takeFault d e).control = flagOf f d.control := by
  unfold takeFault
  dsimp only
  split
  · simp [hf]
  · split <;> simp [hf, hfull]

/-- A shift sets no flag but those of the fault list and, by its hold, HOLD SENT. -/
theorem shiftAll_flagOf {f : Flag} (hf : f ≠ .selectorFault) (hfull : f ≠ .faultListFull) (hsent : f ≠ .holdSent)
    (field : Nat → StringBits) (d : Device) : flagOf f (shiftAll field d).control = flagOf f d.control := by
  simp only [shiftAll, fireWaiting_frame]
  rw [takeFaults_eq, doIf_flagOf _ _ _ _ (ownHold_flagOf hsent _)]
  exact foldl_keeps (flagOf f ·.control) takeFault (takeFault_flagOf hf hfull) _ _

/-! ## The start of a step (R141 steps 1 to 3) -/

theorem stepFetched_waiting {d : Device} (h : d.strings.test.op = .inFlight .fetch) : stepFetched d = stepFires d := by
  simp [stepFetched, h]

/-- The strings as an accepted TEST STEP leaves them, and string power woken, before its pattern is shifted or fetched. -/
def stepBegun (d : Device) : Device :=
  wakePower (onStrings (fun g => { g with
    mode := .test, blank := false, captureDone := false, missTested := true
    test := { g.test with op := .inFlight .fetch } }) (freshStrings (dropAll d)))

theorem stepBegun_test (d : Device) : (stepBegun d).strings.test = { d.strings.test with op := .inFlight .fetch } := by
  unfold stepBegun wakePower
  split <;> rfl

theorem startStep_row {d : Device} (h : d.strings.test.pattern = some .row) :
    startStep d = startTestFetch d.strings.test.row (stepBegun d) := by
  unfold startStep
  dsimp only
  rw [← stepBegun, stepBegun_test, h]

/-- A pattern other than ROW is shifted at once, as a fetched row is at its completion. -/
theorem startStep_pattern {d : Device} {k : TestPattern} (h : d.strings.test.pattern = some k) (hk : k ≠ .row) :
    startStep d = stepFetched (shiftAll (fun _ => testBits k d.strings.test.step) (stepBegun d)) := by
  rw [stepFetched_waiting (by rw [shiftAll_driver, stepBegun_test])]
  unfold startStep
  dsimp only
  rw [← stepBegun, stepBegun_test, h]
  cases k with
  | row => exact absurd rfl hk
  | _ => rfl

/-- String power woken by a section station: WAKING from OFF, else as it was (R127). -/
theorem stepBegun_strings {d : Device} (h : d.control.role = .sectionRole) : (stepBegun d).strings = { d.strings with
    power := if d.strings.power = .off then .waking 0 else d.strings.power
    mode := .test, blank := false, captureDone := false, missTested := true
    strings := (freshStrings (dropAll d)).strings.strings
    test := { d.strings.test with op := .inFlight .fetch } } := by
  by_cases hp : d.strings.power = .off
  · simp [stepBegun, wakePower, isSection, h, hp, setPower, freshStrings_dropAll_strings]
  · simp [stepBegun, wakePower, hp, freshStrings_dropAll_strings]

@[simp] theorem stepBegun_frame (d : Device) :
    (stepBegun d).tracker = d.tracker ∧ (stepBegun d).seq = d.seq ∧ (stepBegun d).store = d.store ∧
    (stepBegun d).line = d.line ∧ (stepBegun d).roster = d.roster ∧ (stepBegun d).control = d.control := by
  simp [stepBegun]

theorem stepBegun_getElem? {d : Device} (h : d.control.role = .sectionRole) (i : Nat) :
    (stepBegun d).strings.strings[i]? = (d.strings.strings[i]?).map freshString := by
  simp [stepBegun_strings h, freshStrings_dropAll_strings]

/-! ## The refusals of TEST STEP -/

theorem runTestStep_moving {d : Device} (h : d.tracker.speed ≠ .stalled) : runTestStep [] d = answer .testStep .moving d := by
  simp [runTestStep, withLength, stalledNow, h]

theorem runTestStep_busy {d : Device} (h : d.tracker.speed = .stalled) (hop : d.strings.test.op ≠ .idle) :
    runTestStep [] d = answer .testStep .busy d := by
  simp [runTestStep, withLength, stalledNow, stepInFlight, h, hop]

theorem runTestStep_accepted {d : Device} (h : d.tracker.speed = .stalled) (hop : d.strings.test.op = .idle) :
    runTestStep [] d = startStep d := by
  simp [runTestStep, withLength, stalledNow, stepInFlight, h, hop]

/-! ## The fetch of a step (R70, R141) -/

/-- The lift bits that a fetched row of a test step gives: its own where it is sound, zeros where it is damaged (R70). -/
def rowField (row : Nat) (d : Device) (i : Nat) : StringBits :=
  if row ∈ d.store.written ∧ (readRow d row).sound = true then stringBits (readRow d row).field i else 0#128

/-- The station as a fetched row of a test step is shifted, in TEST, where no hold acts (R44, R70): the result filled; for a damaged row
ROW DAMAGED set and the echo marks clear. -/
def rowHanded (row : Nat) (d : Device) : Device :=
  if row ∈ d.store.written ∧ (readRow d row).sound = true then
    fillResult ⟨row, (readRow d row).weft.toNat, liftCount (readRow d row).field, (readRow d row).field, true⟩ d
  else clearEchoMarks (fillResult ⟨row, 15, 0, zeroField (markDamaged row d), false⟩ (markDamaged row d))

theorem fetchCompletes_row {d : Device} {row e : Nat} (hstate : d.control.state = .test)
    (hf : d.store.fetch = .fetching row .test e) :
    fetchCompletes [] d = stepFetched (shiftAll (rowField row d) (rowHanded row d)) := by
  rw [fetchCompletes_test hf]
  by_cases hgood : row ∈ d.store.written ∧ (readRow d row).sound = true
  · have hfield : rowField row d = stringBits (readRow d row).field := funext fun i => if_pos hgood
    simp [hfield, rowHanded, hgood, isWritten, testFetched]
  · have hfield : rowField row d = stringBits (zeroField (markDamaged row d)) :=
      funext fun i => (if_neg hgood).trans (stringBits_zero _ i).symm
    have hsound : (isWritten d row && (readRow d row).sound) = false := by simpa [isWritten] using hgood
    have hheld : ownHold (markDamaged row d) = markDamaged row d := ownHold_outside (by simp [hstate])
    rw [hsound, hfield, rowHanded, if_neg hgood]
    simp only [testFetched, hheld]
    rfl

@[simp] theorem rowHanded_frame (row : Nat) (d : Device) :
    (rowHanded row d).seq = d.seq ∧ (rowHanded row d).control.state = d.control.state ∧
    (rowHanded row d).control.role = d.control.role ∧ (rowHanded row d).control.config = d.control.config ∧
    (rowHanded row d).strings.power = d.strings.power ∧ (rowHanded row d).strings.faults = d.strings.faults ∧
    (rowHanded row d).strings.test = d.strings.test := by
  unfold rowHanded
  split
  · simp
  · simp [clearEchoMarks, mapAllStrings_strings]

theorem rowHanded_length (row : Nat) (d : Device) : (rowHanded row d).strings.strings.length = d.strings.strings.length := by
  unfold rowHanded
  split
  · simp
  · simp [clearEchoMarks, mapAllStrings_strings]

/-- The shift clears the echo marks too, so that it leaves a string as if the fetch had left it alone. -/
theorem rowHanded_shifted (row : Nat) (d : Device) (b : StringBits) (i : Nat) :
    ((rowHanded row d).strings.strings[i]?).map (shifted b) = (d.strings.strings[i]?).map (shifted b) := by
  unfold rowHanded
  split
  · simp
  · simp only [clearEchoMarks, mapAllStrings_strings, fillResult, markDamaged, onStore_frame, setFlag_frame, List.getElem?_map,
      Option.map_map]
    rfl

/-- The row of a step is shifted and, with power ON, every string fires with its bits. -/
theorem stepFetched_shiftAll_on (field : Nat → StringBits) {d : Device} (hop : d.strings.test.op = .inFlight .fetch)
    (hmay : mayEnergise d = true) :
    (stepFetched (shiftAll field d)).strings.test = { d.strings.test with op := .inFlight (.energised 0) } ∧
    ∀ i, (stepFetched (shiftAll field d)).strings.strings[i]? =
      (d.strings.strings[i]?).map fun x => if i < stringCount d then fireString (shifted (field i) x) else x := by
  have hdriver := shiftAll_driver field d
  have hmay' : mayEnergise (shiftAll field d) = true := by rwa [mayEnergise_congr (d := d) (by simp) (by simp)]
  rw [stepFetched_waiting (by rw [hdriver]; exact hop), stepFires_on hmay']
  exact ⟨by rw [hdriver], fireAll_shiftAll_getElem? field d⟩

/-- With power not ON the strings take the bits and the step waits for power. -/
theorem stepFetched_shiftAll_off (field : Nat → StringBits) {d : Device} (hop : d.strings.test.op = .inFlight .fetch)
    (hpower : d.strings.power ≠ .on) :
    (stepFetched (shiftAll field d)).strings.test = { d.strings.test with op := .inFlight .power } ∧
    ∀ i, (stepFetched (shiftAll field d)).strings.strings[i]? =
      (d.strings.strings[i]?).map fun x => if i < stringCount d then shifted (field i) x else x := by
  have hdriver := shiftAll_driver field d
  have hmay : mayEnergise (shiftAll field d) = false := by simp [mayEnergise, hpower]
  rw [stepFetched_waiting (by rw [hdriver]; exact hop), stepFires_off hmay]
  exact ⟨by rw [hdriver], shiftAll_unpowered field hpower⟩

/-- What the fetched row of a step leaves beside the strings: ROW DAMAGED is set for a damaged row alone, of which nothing is compared
(R70). -/
theorem fetchCompletes_row_blocks {d : Device} {row e : Nat} (hstate : d.control.state = .test)
    (hf : d.store.fetch = .fetching row .test e) :
    (fetchCompletes [] d).seq = d.seq ∧
    (row ∈ d.store.written → (readRow d row).sound = true →
      flagOf .rowDamaged (fetchCompletes [] d).control = flagOf .rowDamaged d.control) ∧
    (row ∉ d.store.written ∨ (readRow d row).sound = false → flagOf .rowDamaged (fetchCompletes [] d).control = true ∧
      (fetchCompletes [] d).store.lastDamaged = some row ∧ (fetchCompletes [] d).strings.faults = d.strings.faults) := by
  rw [fetchCompletes_row hstate hf]
  obtain ⟨hseq, -⟩ := shiftAll_outside (rowField row d) (d := rowHanded row d) (by simp [hstate])
  have hflag := shiftAll_flagOf (f := .rowDamaged) (by decide) (by decide) (by decide) (rowField row d) (rowHanded row d)
  refine ⟨by simp [hseq], fun hw hs => ?_, fun hbad => ?_⟩
  · simp only [stepFetched_frame, hflag]
    simp [rowHanded, hw, hs]
  · have hgood : ¬(row ∈ d.store.written ∧ (readRow d row).sound = true) := by
      rintro ⟨hw, hs⟩
      simp [hw, hs] at hbad
    have hecho : ∀ x ∈ (rowHanded row d).strings.strings, x.echo = false := by
      simp [rowHanded, hgood, clearEchoMarks, mapAllStrings_strings]
    have hfaults : (shiftAll (rowField row d) (rowHanded row d)).strings.faults = d.strings.faults := by
      simp [shiftAll_of_no_echo _ hecho]
    refine ⟨?_, ?_, by simp [hfaults]⟩
    · simp only [stepFetched_frame, hflag]
      simp [rowHanded, hgood, markDamaged]
    · simp [rowHanded, hgood, fillResult, markDamaged]

/-- The fetched row of a step, string by string, with power ON and without it. -/
theorem fetchCompletes_row_strings {d : Device} {row e : Nat} (hstate : d.control.state = .test)
    (hop : d.strings.test.op = .inFlight .fetch) (hf : d.store.fetch = .fetching row .test e) :
    (fetchCompletes [] d).strings.strings.length = d.strings.strings.length ∧
    (d.strings.power = .on →
      (fetchCompletes [] d).strings.test = { d.strings.test with op := .inFlight (.energised 0) } ∧
      ∀ i, i < stringCount d → (fetchCompletes [] d).strings.strings[i]? =
        (d.strings.strings[i]?).map fun x => fireString (shifted (rowField row d i) x)) ∧
    (d.strings.power ≠ .on →
      (fetchCompletes [] d).strings.test = { d.strings.test with op := .inFlight .power } ∧
      ∀ i, i < stringCount d → (fetchCompletes [] d).strings.strings[i]? =
        (d.strings.strings[i]?).map (shifted (rowField row d i))) := by
  rw [fetchCompletes_row hstate hf]
  have hcount : stringCount (rowHanded row d) = stringCount d := stringCount_congr (by simp) (by simp)
  have hon := stepFetched_shiftAll_on (rowField row d) (d := rowHanded row d) (by simpa using hop)
  have hoff := stepFetched_shiftAll_off (rowField row d) (d := rowHanded row d) (by simpa using hop)
  refine ⟨?_, fun hp => ?_, fun hp => ?_⟩
  · by_cases hp : d.strings.power = .on
    · obtain ⟨-, hstrings⟩ := hon ((mayEnergise_iff _).mpr ⟨by simpa using hp, by simp [hstate]⟩)
      exact (length_eq_of_getElem?_map hstrings).trans (rowHanded_length row d)
    · obtain ⟨-, hstrings⟩ := hoff (by simpa using hp)
      exact (length_eq_of_getElem?_map hstrings).trans (rowHanded_length row d)
  · obtain ⟨htest, hstrings⟩ := hon ((mayEnergise_iff _).mpr ⟨by simpa using hp, by simp [hstate]⟩)
    refine ⟨by simpa using htest, fun i hi => ?_⟩
    have hshifted := congrArg (Option.map fireString) (rowHanded_shifted row d (rowField row d i) i)
    rw [Option.map_map, Option.map_map] at hshifted
    simp only [hstrings, hcount, hi, if_true]
    exact hshifted
  · obtain ⟨htest, hstrings⟩ := hoff (by simpa using hp)
    refine ⟨by simpa using htest, fun i hi => ?_⟩
    rw [hstrings, hcount]
    simpa [hi] using rowHanded_shifted row d (rowField row d i) i

/-! ## An accepted TEST STEP (R141 steps 1 to 4) -/

/-- What an accepted TEST STEP with a pattern other than ROW leaves beside the strings. -/
theorem startStep_blocks {d : Device} {k : TestPattern} (hk : d.strings.test.pattern = some k) (hrow : k ≠ .row)
    (hs : d.control.state = .test) (hrole : d.control.role = .sectionRole) :
    (startStep d).strings.mode = .test ∧ (startStep d).line = d.line ∧ (startStep d).seq = d.seq ∧ (startStep d).store = d.store ∧
    (startStep d).tracker = d.tracker ∧ (startStep d).roster = d.roster ∧ (startStep d).control.state = .test ∧
    (startStep d).strings.power = if d.strings.power = .off then .waking 0 else d.strings.power := by
  have hbegun := stepBegun_strings hrole
  obtain ⟨hseq, hline⟩ := shiftAll_outside (fun _ => testBits k d.strings.test.step) (d := stepBegun d) (by simp [hs])
  rw [startStep_pattern hk hrow]
  simp [hbegun, hseq, hline, hs]

/-- With power ON every string of the station fires with the step's pattern. -/
theorem startStep_on {d : Device} {k : TestPattern} (hk : d.strings.test.pattern = some k) (hrow : k ≠ .row)
    (hs : d.control.state = .test) (hrole : d.control.role = .sectionRole) (hpower : d.strings.power = .on) :
    (startStep d).strings.test = { d.strings.test with op := .inFlight (.energised 0) } ∧
    ∀ i, (startStep d).strings.strings[i]? = (d.strings.strings[i]?).map fun x =>
      if i < stringCount d then fireString (shifted (testBits k d.strings.test.step) (freshString x)) else freshString x := by
  have hbegun := stepBegun_strings hrole
  have hcount : stringCount (stepBegun d) = stringCount d := stringCount_congr (by simp) (by simp)
  obtain ⟨htest, hstrings⟩ := stepFetched_shiftAll_on (fun _ => testBits k d.strings.test.step) (d := stepBegun d) (by rw [hbegun])
    ((mayEnergise_iff _).mpr ⟨by simp [hbegun, hpower], by simp [hs]⟩)
  rw [startStep_pattern hk hrow]
  refine ⟨by rw [htest, hbegun], fun i => ?_⟩
  rw [hstrings, stepBegun_getElem? hrole, hcount, Option.map_map]
  rfl

/-- With power not ON every string of the station holds the step's pattern at rest. -/
theorem startStep_off {d : Device} {k : TestPattern} (hk : d.strings.test.pattern = some k) (hrow : k ≠ .row)
    (hrole : d.control.role = .sectionRole) (hpower : d.strings.power ≠ .on) :
    (startStep d).strings.test = { d.strings.test with op := .inFlight .power } ∧
    ∀ i, (startStep d).strings.strings[i]? = (d.strings.strings[i]?).map fun x =>
      if i < stringCount d then shifted (testBits k d.strings.test.step) (freshString x) else freshString x := by
  have hbegun := stepBegun_strings hrole
  have hcount : stringCount (stepBegun d) = stringCount d := stringCount_congr (by simp) (by simp)
  have hwaking : (stepBegun d).strings.power ≠ .on := by
    rw [hbegun]
    dsimp only
    split
    · nofun
    · exact hpower
  obtain ⟨htest, hstrings⟩ := stepFetched_shiftAll_off (fun _ => testBits k d.strings.test.step) (d := stepBegun d) (by rw [hbegun])
    hwaking
  rw [startStep_pattern hk hrow]
  refine ⟨by rw [htest, hbegun], fun i => ?_⟩
  rw [hstrings, stepBegun_getElem? hrole, hcount, Option.map_map]
  rfl

end Sys2Proof.Machine
end

section
/-! SUPPORT. String power coming ON and the end of a pulse time (R126 to R128, R131, R136, R141). -/

namespace Sys2Proof.Machine

/-! ## The waiting strings (R128, R131, R136) -/

theorem fireWaiting_getElem? (d : Device) (i : Nat) :
    (fireWaiting d).strings.strings[i]? =
      (d.strings.strings[i]?).map fun x => if i < stringCount d ∧ mayFireWaiting d x = true then fireString x else x :=
  fireWhere_getElem? _ d i

/-- Firing changes the strings, and the fire timer where the fires are reported to it. -/
theorem fireWhere_elsewhere (p : Nat → SelString → Bool) (d : Device) :
    fireWhere p d = { d with strings := (fireWhere p d).strings, fire := (fireWhere p d).fire } := by
  unfold fireWhere
  cases firesByAngle d <;> rfl

/-- Fires that are not by the fire timer's angles are not reported to it (R120). -/
theorem fireWhere_fire {p : Nat → SelString → Bool} {d : Device} (h : firesByAngle d = false) : (fireWhere p d).fire = d.fire := by
  rw [fireWhere, h]
  rfl

/-- Where no string fires, nothing changes. -/
theorem fireWhere_of_none {p : Nat → SelString → Bool} {d : Device}
    (h : ∀ (i : Nat) (s : SelString), d.strings.strings[i]? = some s → p i s = false) : fireWhere p d = d := by
  have hreport : reportFired p d = d := by
    have hlist : (d.fire.strings.mapIdx fun i r =>
        if decide (i < stringCount d) && (d.strings.strings[i]?).any (p i) then { r with fired := true } else r) = d.fire.strings := by
      refine List.ext_getElem? fun i => ?_
      have hany : (d.strings.strings[i]?).any (p i) = false := by
        cases hs : d.strings.strings[i]? with
        | none => rfl
        | some s => exact h i s hs
      simp [hany]
    simp only [reportFired, onFire, hlist]
  rw [fireWhere, doIf_of_fixed fun _ => hreport]
  exact mapStrings_of_fixed fun i s hs => by simp [h i s hs]

/-- A waiting string of a pick that is not blank and not yet captured fires in the chain state of its pick (R131, R136). -/
theorem mayFireWaiting_iff (d : Device) (x : SelString) :
    mayFireWaiting d x = true ↔ x.waiting = true ∧ x.pattern = true ∧ d.strings.blank = false ∧ mayEnergise d = true ∧
      d.strings.captureDone = false ∧
      ((d.strings.mode = .forward ∨ d.strings.mode = .test) ∧ x.chain = .pending ∨
        d.strings.mode = .reverse ∧ x.chain = .resting) := by
  cases hm : d.strings.mode <;> simp [mayFireWaiting, readyToFire, hm, and_assoc]

/-! ## Power ON (R127) -/

/-- The station as string power comes ON. -/
def powerIsOn (armature : BitVec 8) (d : Device) : Device :=
  { d with strings := { d.strings with power := .on }, pins := { d.pins with armature := armature } }

theorem powerComesOn_eq (armature : BitVec 8) {d : Device} {n : Nat} (hp : d.strings.power = .waking n)
    (hidle : d.trainer.phase = .idle) (hop : d.strings.test.op ≠ .inFlight .power) :
    powerComesOn armature d = dwellTest (fireWaiting (powerIsOn armature d)) := by
  have htest : (fireWaiting (powerIsOn armature d)).strings.test.op = d.strings.test.op := by
    rw [fireWaiting_driver]
    rfl
  unfold powerComesOn
  rw [hp]
  dsimp only
  rw [show onPins _ (setPower .on d) = powerIsOn armature d from rfl, htest]
  split
  · next h => exact absurd h hop
  · rw [if_neg (by simp [powerIsOn, hidle])]

/-- In TEST a stepped operation that waits for power goes on to its firing (R141). -/
theorem powerComesOn_step (armature : BitVec 8) {d : Device} {n : Nat} (hp : d.strings.power = .waking n)
    (hidle : d.trainer.phase = .idle) (hstate : d.control.state = .test) (hop : d.strings.test.op = .inFlight .power) :
    powerComesOn armature d = stepFires (fireWaiting (powerIsOn armature d)) := by
  have htest : (fireWaiting (powerIsOn armature d)).strings.test.op = .inFlight .power := by
    rw [fireWaiting_driver]
    exact hop
  unfold powerComesOn
  rw [hp]
  dsimp only
  rw [show onPins _ (setPower .on d) = powerIsOn armature d from rfl, htest]
  dsimp only
  rw [if_neg (by simp [powerIsOn, hidle])]
  exact dwellTest_idle (.inl (by simp [powerIsOn, hstate]))

/-- Where the dwell test does nothing, the waiting strings have fired. -/
theorem powerComesOn_fires (armature : BitVec 8) {d : Device} {n : Nat} (hp : d.strings.power = .waking n)
    (hidle : d.trainer.phase = .idle) (hop : d.strings.test.op ≠ .inFlight .power)
    (hstate : d.control.state = .weave ∨ d.control.state = .test) (hdue : d.control.state = .weave → dwellDue d = false) :
    powerComesOn armature d = fireWaiting (powerIsOn armature d) := by
  rw [powerComesOn_eq armature hp hidle hop]
  obtain hweave | htest := hstate
  · exact dwellTest_idle (.inr (by simpa [dwellDue, powerIsOn] using hdue hweave))
  · exact dwellTest_idle (.inl (by simp [powerIsOn, htest]))

theorem powerComesOn_ready (armature : BitVec 8) {d : Device} {n : Nat} (hp : d.strings.power = .waking n)
    (hidle : d.trainer.phase = .idle) (hop : d.strings.test.op ≠ .inFlight .power) (hstate : d.control.state = .ready)
    (hdue : dwellDue d = false) : powerComesOn armature d = powerIsOn armature d := by
  have hnone : fireWaiting (powerIsOn armature d) = powerIsOn armature d := fireWhere_of_none fun i x _ => by
    simp [mayFireWaiting, readyToFire, mayEnergise, powerIsOn, hstate]
  rw [powerComesOn_eq armature hp hidle hop, hnone]
  exact dwellTest_idle (.inr hdue)

/-- Where the shaft has dwelled, power goes OFF at once (R127). -/
theorem powerComesOn_dwelled (armature : BitVec 8) {d : Device} {n : Nat} (hp : d.strings.power = .waking n)
    (hidle : d.trainer.phase = .idle) (hop : d.strings.test.op ≠ .inFlight .power)
    (hstate : d.control.state = .ready ∨ d.control.state = .weave) (hdue : dwellDue d = true) :
    powerComesOn armature d = powerOff (fireWaiting (powerIsOn armature d)) := by
  rw [powerComesOn_eq armature hp hidle hop, dwellTest_eq, if_pos]
  exact ⟨⟨by simpa [powerIsOn] using hstate, by simpa [dwellDue, powerIsOn] using hdue⟩, by simp [powerIsOn]⟩

theorem mayEnergise_powerIsOn (armature : BitVec 8) {d : Device} (h : d.control.state = .weave ∨ d.control.state = .test) :
    mayEnergise (powerIsOn armature d) = true := by
  obtain h | h := h <;> simp [mayEnergise, powerIsOn, h]

/-- A string for which every condition holds with power ON has fired. -/
theorem fireWaiting_powerIsOn {armature : BitVec 8} {d : Device} {i : Nat} {x : SelString} (hi : i < stringCount d)
    (hx : d.strings.strings[i]? = some x) (hmay : mayFireWaiting (powerIsOn armature d) x = true) :
    (fireWaiting (powerIsOn armature d)).strings.strings[i]? = some (fireString x) := by
  rw [fireWaiting_getElem?, show (powerIsOn armature d).strings.strings[i]? = some x from hx]
  simp [hmay, show i < stringCount (powerIsOn armature d) from hi]

theorem exec_wakeTimeEnd {s : State} (armature : BitVec 8) (hp : s.dev.control.powered = true) :
    exec (.wakeTimeEnd armature) s = .next { s with dev := powerComesOn armature s.dev } := completed_powered hp

/-- Every string fired, whether it waited or not. -/
theorem fireAll_fireWaiting_getElem? (d : Device) (i : Nat) :
    (fireWhere (fun _ _ => true) (fireWaiting d)).strings.strings[i]? =
      (d.strings.strings[i]?).map fun x => if i < stringCount d then fireString x else x := by
  have hcount : stringCount (fireWaiting d) = stringCount d := stringCount_congr (by simp) (by simp)
  rw [fireWhere_getElem?, fireWaiting_getElem?, Option.map_map, hcount]
  congr 1
  funext x
  by_cases hi : i < stringCount d
  · by_cases hmay : mayFireWaiting d x = true
    · simp [hi, hmay, fireString_fireString]
    · simp [hi, hmay]
  · simp [hi]

/-- What the firing of a stepped operation leaves: every string of the station fired, the step energised. -/
theorem stepFires_powerIsOn (armature : BitVec 8) {d : Device} (hstate : d.control.state = .test) :
    (stepFires (fireWaiting (powerIsOn armature d))).strings.test = { d.strings.test with op := .inFlight (.energised 0) } ∧
    ∀ i, (stepFires (fireWaiting (powerIsOn armature d))).strings.strings[i]? =
      (d.strings.strings[i]?).map fun x => if i < stringCount d then fireString x else x := by
  have hon := stepFires_on (d := fireWaiting (powerIsOn armature d))
    ((mayEnergise_iff _).mpr ⟨by simp [powerIsOn], by simp [powerIsOn, hstate]⟩)
  refine ⟨?_, fun i => ?_⟩
  · rw [hon, fireWaiting_driver]
    rfl
  · rw [hon]
    exact fireAll_fireWaiting_getElem? (powerIsOn armature d) i

/-! ## INRUSH_END (R126) -/

theorem inrushEnds_eq {d : Device} {k n : Nat} {x : SelString} (hx : d.strings.strings[k]? = some x) (hn : x.drive = .inrush n) :
    inrushEnds k d =
      { d with strings := { d.strings with strings := d.strings.strings.set k { x with drive := .hold } } } := by
  unfold inrushEnds onStrings
  dsimp only
  congr 2
  refine List.ext_getElem? fun i => ?_
  rw [List.getElem?_mapIdx, List.getElem?_set]
  by_cases hik : k = i
  · subst hik
    obtain ⟨hlt, rfl⟩ := List.getElem?_eq_some_iff.mp hx
    simp [hn, hlt]
  · simp [hik, Ne.symm hik]

end Sys2Proof.Machine
end

section
/-! SUPPORT. A counting step in WEAVE or TEST up to its crossings: one that goes on, and one that turns (R1, R122,
R127, R135, R140). -/

namespace Sys2Proof.Machine

/-! ## The step reaches the strings -/

theorem wakePower_driver (d : Device) :
    (wakePower d).strings = { d.strings with power := (wakePower d).strings.power } ∧
    ((wakePower d).strings.power = .on ↔ d.strings.power = .on) := by
  unfold wakePower
  split
  · next h =>
    simp only [Bool.and_eq_true, decide_eq_true_eq] at h
    exact ⟨rfl, by simp [setPower, h.1]⟩
  · exact ⟨rfl, Iff.rfl⟩

theorem handMotion_wakes {d : Device} (h : d.control.state = .weave ∨ d.control.state = .test) : handMotion d = wakePower d := by
  rcases h with h | h <;> simp [handMotion, h]

/-- The lapse has passed and the step is counted. -/
def counted (dir : Direction) (dt : Lapse) (sense : List StringBits) (d : Device) : Device :=
  onTracker (stepTracker d.control.config dir) (beforeStep dt sense d)

/-- A step that goes on and completes no span, as it reaches the fires of its angle. -/
def walked (dir : Direction) (dt : Lapse) (sense : List StringBits) (d : Device) : Device :=
  wakePower (counted dir dt sense d)

/-- A step that changes direction, as it reaches the fires of its angle. -/
def turned (dir : Direction) (dt : Lapse) (sense : List StringBits) (d : Device) : Device :=
  wakePower (turnPick (counted dir dt sense d))

section
variable {dir : Direction} {dt : Lapse} {sense : List StringBits} {d : Device} {a b : Bool} {x : Nat}

@[simp] theorem counted_frame : (counted dir dt sense d).seq = d.seq ∧ (counted dir dt sense d).fire = d.fire ∧
    (counted dir dt sense d).roster = d.roster ∧ (counted dir dt sense d).control.state = d.control.state ∧
    (counted dir dt sense d).control.role = d.control.role ∧ (counted dir dt sense d).control.config = d.control.config ∧
    (counted dir dt sense d).control.flags = d.control.flags ∧ (counted dir dt sense d).pins.sense = sense ∧
    (counted dir dt sense d).strings = (beforeStep dt sense d).strings ∧
    (counted dir dt sense d).tracker = stepTracker d.control.config dir (elapseTracker dt.ticks d.tracker) := by
  simp [counted]
  simp [beforeStep]

theorem stepHanded_wakes (hstate : d.control.state = .weave ∨ d.control.state = .test) :
    stepHanded dir (beforeStep dt sense d) = wakePower (handSpeed d.tracker.speed (completes dir (elapseTracker dt.ticks d.tracker))
      (doIf (turns dir d.tracker) turnPick (counted dir dt sense d))) := by
  rw [stepHanded, handMotion_wakes (by simpa using hstate)]
  simp [counted, turns]

/-- A step that goes on reaches the strings by the fires of its angle and its crossings alone. -/
theorem steppedOnto_walked (hstate : d.control.state = .weave ∨ d.control.state = .test) (hgoes : goesOn dir d = true)
    (hs : stepsOnto dir a b x d = true) :
    steppedOnto dir dt sense d = doIf (decide (dir = .forward)) (stringsAtAngle x) (walked dir dt sense d) := by
  obtain ⟨hdir, hspan⟩ := (goesOn_iff _ _).mp hgoes
  obtain ⟨hangle, -⟩ := stepsOnto_angle hs
  obtain ⟨hcompletes, hfast⟩ := stepTracker_goesOn d.control.config (t := elapseTracker dt.ticks d.tracker) (by simpa using hspan)
  simp only [elapseTracker_frame, hdir] at hcompletes hfast
  have hhanded : stepHanded dir (beforeStep dt sense d) = walked dir dt sense d := by
    rw [stepHanded_wakes hstate, hcompletes, show turns dir d.tracker = false by simp [turns, hdir], doIf_false,
      handSpeed_unchanged (by simpa using hfast), walked]
  have hat : (walked dir dt sense d).tracker.angle = x := by simp [walked, hangle]
  rw [steppedOnto, atCrossing, hhanded, hat]

/-- A step that turns tells the strings first; with the fire timer out of SET the fall from FAST recomputes nothing (R122). -/
theorem steppedOnto_turned (hstate : d.control.state = .weave ∨ d.control.state = .test) (hturns : turns dir d.tracker = true)
    (hs : stepsOnto dir a b x d = true) (hset : (turnPick (counted dir dt sense d)).fire.phase ≠ .set) :
    steppedOnto dir dt sense d = doIf (decide (dir = .forward)) (stringsAtAngle x) (turned dir dt sense d) := by
  obtain ⟨hangle, -⟩ := stepsOnto_angle hs
  have hdir : dir ≠ d.tracker.dir := by simpa [turns] using hturns
  obtain ⟨-, -, -, hslow, -⟩ := stepTracker_turn d.control.config (dir := dir) (t := elapseTracker dt.ticks d.tracker)
    (by simpa using hdir)
  have hcompletes : completes dir (elapseTracker dt.ticks d.tracker) = false := by
    simp [completes, turns, hdir]
  have hspeed (v : Speed) : handSpeed v false (turnPick (counted dir dt sense d)) = turnPick (counted dir dt sense d) := by
    simp [handSpeed, hslow, doIf_false, doIf_of_fixed fun _ => fireLeavesFast_of_not_set hset]
  have hhanded : stepHanded dir (beforeStep dt sense d) = turned dir dt sense d := by
    rw [stepHanded_wakes hstate, hcompletes, hturns, doIf_true, hspeed, turned]
  have hat : (turned dir dt sense d).tracker.angle = x := by simp [turned, hangle]
  rw [steppedOnto, atCrossing, hhanded, hat]

/-! ## The station that a step which goes on leaves to its crossings -/

@[simp] theorem walked_frame : (walked dir dt sense d).seq = d.seq ∧ (walked dir dt sense d).fire = d.fire ∧
    (walked dir dt sense d).roster = d.roster ∧ (walked dir dt sense d).control.state = d.control.state ∧
    (walked dir dt sense d).control.role = d.control.role ∧ (walked dir dt sense d).control.config = d.control.config ∧
    (walked dir dt sense d).control.flags = d.control.flags ∧ (walked dir dt sense d).pins.sense = sense := by
  simp [walked]

theorem walked_driver : (walked dir dt sense d).strings = { (beforeStep dt sense d).strings with
    power := (walked dir dt sense d).strings.power } := by
  have h := (wakePower_driver (counted dir dt sense d)).1
  simpa [walked] using h

@[simp] theorem walked_strings : (walked dir dt sense d).strings.strings = (beforeStep dt sense d).strings.strings ∧
    (walked dir dt sense d).strings.mode = d.strings.mode ∧ (walked dir dt sense d).strings.blank = d.strings.blank ∧
    (walked dir dt sense d).strings.captureDone = d.strings.captureDone ∧
    (walked dir dt sense d).strings.missTested = d.strings.missTested ∧
    (walked dir dt sense d).strings.test.op = elapseStep dt.ticks d.strings.test.op := by
  rw [walked_driver, beforeStep_stringDriver]
  exact ⟨rfl, rfl, rfl, rfl, rfl, rfl⟩

@[simp] theorem walked_count : stringCount (walked dir dt sense d) = stringCount d := stringCount_eq (by simp) (by simp)

theorem walked_power : (walked dir dt sense d).strings.power = .on ↔ d.strings.power = .on := by
  rw [walked, (wakePower_driver _).2]
  simp [beforeStep_stringDriver, elapsePower_on]

theorem walked_ready (hstate : d.control.state = .weave ∨ d.control.state = .test) (y : SelString) :
    readyToFire (walked dir dt sense d) y = true ↔ y.pattern = true ∧ d.strings.blank = false ∧ d.strings.power = .on := by
  have hmay : mayEnergise (walked dir dt sense d) = true ↔ d.strings.power = .on := by
    rw [mayEnergise_iff, walked_power]
    rcases hstate with h | h <;> simp [h]
  simp [readyToFire, hmay, and_assoc]

theorem turningTest_walked (hop : d.strings.test.op = .idle) :
    turningTest (walked dir dt sense d) = decide (d.strings.mode = .test) := by
  simp [turningTest, hop, elapseStep]

theorem walked_length : (walked dir dt sense d).strings.strings.length = d.strings.strings.length := by
  simp [beforeStep_stringDriver]

end

end Sys2Proof.Machine
end

section
/-! SUPPORT. The crossings that the strings follow, each string after them, and what a test for missed selections tells (R112, R131 to
R136, R140). -/

namespace Sys2Proof.Machine

/-! ## Which crossings a step raises (R6, R7, R171) -/

section
variable {c : Configuration} (h : soundConfig .sectionRole c = true) (d : Device)
include h

/-- W, K and D lie apart from each other and from every other angle at which a forward step raises a crossing. -/
theorem section_strings_apart : c.w ≠ c.b ∧ c.k ≠ c.b ∧ c.d ≠ c.b ∧ c.w ≠ c.c ∧ c.k ≠ c.c ∧ c.d ≠ c.c ∧
    c.w ≠ guardEnd c ∧ c.k ≠ guardEnd c ∧ c.d ≠ guardEnd c ∧ c.w ≠ c.k ∧ c.w ≠ c.d ∧ c.k ≠ c.d := by
  obtain ⟨-, -, -, hwk, hkd⟩ := section_angles_rise h
  obtain ⟨-, hgw, hgk, hgd, -, hcw, hck, hcd⟩ := section_angles_apart h
  obtain ⟨-, -, -, hbw, hbk, hbd⟩ := section_angles_ne h
  exact ⟨hbw.symm, hbk.symm, hbd.symm, hcw.symm, hck.symm, hcd.symm, hgw.symm, hgk.symm, hgd.symm, ne_of_arc_lt hwk,
    ne_of_arc_lt (hwk.trans hkd), ne_of_arc_lt hkd⟩

theorem forwardCrossings_at_w : forwardCrossings c .sectionRole c.w d = stringsForwardW d := by
  obtain ⟨hb, -, -, hc, -, -, hg, -, -, hk, hd, -⟩ := section_strings_apart h
  simp [forwardCrossings, hb, hc, hg, hk, hd, doIf_true, doIf_false]

theorem forwardCrossings_at_k : forwardCrossings c .sectionRole c.k d = forwardK d := by
  obtain ⟨-, hb, -, -, hc, -, -, hg, -, hw, -, hd⟩ := section_strings_apart h
  simp [forwardCrossings, hb, hc, hg, hw.symm, hd, doIf_true, doIf_false]

theorem forwardCrossings_at_d : forwardCrossings c .sectionRole c.d d = stringsForwardD d := by
  obtain ⟨-, -, hb, -, -, hc, -, -, hg, -, hw, hk⟩ := section_strings_apart h
  simp [forwardCrossings, hb, hc, hg, hw.symm, hk.symm, doIf_true, doIf_false]

theorem reverseCrossings_at_d : reverseCrossings c .sectionRole c.d d = stringsReverseD d := by
  obtain ⟨-, -, hb, -, -, -, -, -, -, -, hw, hk⟩ := section_strings_apart h
  simp [reverseCrossings, hb, hw.symm, hk.symm, doIf_true, doIf_false]

theorem reverseCrossings_at_k : reverseCrossings c .sectionRole c.k d = stringsReverseK d := by
  obtain ⟨-, hb, -, -, -, -, -, -, -, hw, -, hd⟩ := section_strings_apart h
  simp [reverseCrossings, hb, hw.symm, hd, doIf_true, doIf_false]

theorem reverseCrossings_at_w : reverseCrossings c .sectionRole c.w d = stringsReverseW d := by
  obtain ⟨hb, -, -, -, -, -, -, -, -, hk, hd, -⟩ := section_strings_apart h
  simp [reverseCrossings, hb, hk, hd, doIf_true, doIf_false]

end

theorem forwardGuardEnd_seq (d : Device) : (forwardGuardEnd d).seq = { d.seq with guardOpen := false } := by
  have hpassed (x : Device) : (beaconGuardPassed x).seq = x.seq := by simp
  rw [forwardGuardEnd, hpassed]
  rfl

theorem doIf_guardEnd_kept (g : Bool) (d : Device) : (doIf g forwardGuardEnd d).strings = d.strings ∧
    (doIf g forwardGuardEnd d).fire = d.fire ∧
    (doIf g forwardGuardEnd d).seq = { d.seq with guardOpen := (doIf g forwardGuardEnd d).seq.guardOpen } ∧
    (doIf g forwardGuardEnd d).roster = d.roster ∧ (doIf g forwardGuardEnd d).control = d.control := by
  cases g
  · exact ⟨rfl, rfl, rfl, rfl, rfl⟩
  · simp [doIf_true, forwardGuardEnd_seq]

/-- Away from B and C, a forward step in a FORWARD pick short of K and D, or in none, leaves the strings and what was reported of them
as they stand. -/
theorem forwardCrossings_quiet {c : Configuration} {x : Nat} {d : Device} (hb : x ≠ c.b) (hc : x ≠ c.c)
    (hmode : d.strings.mode = .none ∨ d.strings.mode = .forward ∧ x ≠ c.k ∧ x ≠ c.d) :
    (forwardCrossings c .sectionRole x d).strings = d.strings ∧
    (forwardCrossings c .sectionRole x d).fire.strings = d.fire.strings ∧
    (forwardCrossings c .sectionRole x d).seq =
      { d.seq with guardOpen := (forwardCrossings c .sectionRole x d).seq.guardOpen } := by
  have he := doIf_guardEnd_kept (decide (x = guardEnd c)) d
  generalize hg : doIf (decide (x = guardEnd c)) forwardGuardEnd d = e at he
  obtain ⟨hstrings, hfire, hseq, -⟩ := he
  rw [← hstrings] at hmode ⊢
  rw [← hfire]
  have hw : doIf (decide (x = c.w)) stringsForwardW e = e := by
    refine doIf_of_fixed fun _ => ?_
    rcases hmode with h | ⟨h, -⟩ <;> simp [stringsForwardW, turningTest, h, doIf_false]
  have hk : ∃ p, doIf (decide (x = c.k)) forwardK e = onFire (fun t => { t with phase := p }) e := by
    rcases hmode with h | ⟨-, hk, -⟩
    · have hnone : forwardK e = fireForwardK e := by simp [forwardK, stringsForwardK, turningTest, h, doIf_false]
      cases decide (x = c.k)
      · exact ⟨e.fire.phase, rfl⟩
      · rw [doIf_true, hnone, fireForwardK]
        split
        · exact ⟨.past, rfl⟩
        · exact ⟨e.fire.phase, rfl⟩
    · exact ⟨e.fire.phase, by simp [hk, doIf_false, onFire]⟩
  obtain ⟨p, hp⟩ := hk
  have hd : doIf (decide (x = c.d)) stringsForwardD (onFire (fun t => { t with phase := p }) e) =
      onFire (fun t => { t with phase := p }) e := by
    refine doIf_of_fixed fun hx => ?_
    rcases hmode with h | ⟨-, -, hd⟩
    · simp [stringsForwardD, turningTest, h, doIf_false]
    · exact absurd (of_decide_eq_true hx) hd
  have heq : forwardCrossings c .sectionRole x d = onFire (fun t => { t with phase := p }) e := by
    simp only [forwardCrossings, decide_eq_false hb, decide_eq_false hc, doIf_false, hg, hw, hp, hd]
  rw [heq]
  exact ⟨rfl, rfl, hseq⟩

/-! ## The crossings string by string -/

/-- A string that a test for missed selections finds (R132, R134). -/
def givenUp (x : SelString) : SelString :=
  if x.chain = .pending then { x with waiting := false, fireAngle := none, echo := false } else x

def isPending (x : SelString) : Bool := decide (x.chain = .pending)

/-- Whether some string of the station is PENDING. -/
def somePending (d : Device) : Bool := anyString isPending d

theorem missTest_blank {d : Device} (h : d.strings.blank = true) :
    missTest d = onStrings (fun g => { g with missTested := true }) d := if_pos h

theorem missTest_open {d : Device} (h : d.strings.blank = false) :
    missTest d = doIf (somePending d) (fun d => ownHold (setFlag .selectionMissed d))
      (mapStrings (fun _ => givenUp) (onStrings (fun g => { g with missTested := true }) d)) :=
  if_neg (by simp [h])

theorem missTest_getElem? (d : Device) (i : Nat) :
    (missTest d).strings.strings[i]? = (d.strings.strings[i]?).map fun x =>
      if i < stringCount d ∧ d.strings.blank = false then givenUp x else x := by
  cases hblank : d.strings.blank
  · rw [missTest_open hblank]
    simp [mapStrings_getElem?, stringCount_congr (d := d) (t := onStrings _ d) rfl rfl]
  · rw [missTest_blank hblank]
    simp

/-- The test tells of a string missed, in WEAVE with a hold. -/
theorem missTest_missed {d : Device} (hblank : d.strings.blank = false) (h : somePending d = true) :
    flagOf .selectionMissed (missTest d).control = true ∧ (d.control.state = .weave → (missTest d).seq.void = true) := by
  rw [missTest_open hblank, h, doIf_true]
  exact ⟨by simp, fun hweave => (ownHold_voids (by simpa using hweave)).1⟩

/-- Where no string is missed, or the pick is blank, the test tells nothing. -/
theorem missTest_quiet {d : Device} (h : d.strings.blank = true ∨ somePending d = false) :
    (missTest d).seq = d.seq ∧ (missTest d).control = d.control := by
  cases hblank : d.strings.blank
  · rw [missTest_open hblank, h.resolve_left (by simp [hblank]), doIf_false]
    exact ⟨rfl, rfl⟩
  · rw [missTest_blank hblank]
    exact ⟨rfl, rfl⟩

end Sys2Proof.Machine
end

section
/-! SUPPORT. A forward step that goes on, at the fire angles of the strings, at K and at D (R120, R131 to R134). -/

namespace Sys2Proof.Machine

/-! ## A fire that falls due for one string (R131) -/

section
variable {p : Nat → SelString → Bool} {d : Device} {i : Nat} {z : SelString} (hi : i < stringCount d)
  (hz : d.strings.strings[i]? = some z)
include hi hz

theorem fallDue_fires (hdue : fallsDue p i z = true) (hready : readyToFire d z = true) :
    (fallDue p d).strings.strings[i]? = some (fireString z) := by
  have hblank : d.strings.blank = false := by
    simp only [readyToFire, Bool.and_eq_true, Bool.not_eq_true'] at hready
    exact hready.1.2
  simp [fallDue_getElem? hi hz, hdue, hready, hblank]

theorem fallDue_waits (hpending : z.chain = .pending) (hp : p i z = true) (hblank : d.strings.blank = false)
    (hready : readyToFire d z = false) : (fallDue p d).strings.strings[i]? = some { z with waiting := true } := by
  rw [fallDue_getElem? hi hz, hready, hblank]
  cases hwaiting : z.waiting
  · simp [fallsDue, hpending, hp, hwaiting]
  · have hwaits : { z with waiting := true } = z := by rw [← hwaiting]
    simp [fallsDue, hwaiting, hwaits]

theorem fallDue_spares (h : fallsDue p i z = false ∨ d.strings.blank = true) :
    (fallDue p d).strings.strings[i]? = some z := by
  rw [fallDue_getElem? hi hz]
  rcases h with h | h <;> simp [h]

theorem fallDue_reports (hangle : firesByAngle d = true) (hdue : fallsDue p i z = true) (hready : readyToFire d z = true) :
    ((fallDue p d).fire.strings[i]?.all fun r => r.fired) = true := by
  rw [fallDue_fire]
  cases hr : d.fire.strings[i]? <;> simp [hr, hangle, hi, hz, hdue, hready]

end

/-- What a step onto an angle leaves of a dropped string that fires by its angle (R120, R131): fired and reported, made to wait, or
left as it is. -/
structure FiresAtAngle (f i : Nat) (x : SelString) (d t : Device) : Prop where
  fires : x.chain = .pending → x.fireAngle = some f → x.waiting = false → x.pattern = true → d.strings.blank = false →
    d.strings.power = .on →
    t.strings.strings[i]? = some (fireString x) ∧ (t.fire.strings[i]?.all fun r => r.fired) = true
  waits : x.chain = .pending → x.fireAngle = some f → d.strings.blank = false → x.pattern = false ∨ d.strings.power ≠ .on →
    t.strings.strings[i]? = some { x with waiting := true }
  spares : x.chain ≠ .pending ∨ x.fireAngle ≠ some f ∨ d.strings.blank = true ∨ x.waiting = true →
    t.strings.strings[i]? = some x

/-- Away from the crossings that touch the strings, a forward step that goes on fires the strings of its angle, and else keeps the
sequencer but for the guard. -/
theorem walked_atAngle {a b : Bool} {dt : Lapse} {sense : List StringBits} {s : State} {c : Configuration} {f : Nat}
    (hr : referencedBy c s.dev = true) (hweave : s.dev.control.state = .weave) (hrole : s.dev.control.role = .sectionRole)
    (hgoes : goesOn .forward s.dev = true) (hs : stepsOnto .forward a b f s.dev = true) (hb : f ≠ c.b) (hc : f ≠ c.c)
    (hmode : s.dev.strings.mode = .none ∨ s.dev.strings.mode = .forward ∧ f ≠ c.k ∧ f ≠ c.d) :
    ∃ t, exec (.countingStep a b false dt sense) s = .next t ∧ t.pending = s.pending ∧
      t.dev.strings.strings.length = s.dev.strings.strings.length ∧
      t.dev.seq = { s.dev.seq with guardOpen := t.dev.seq.guardOpen } ∧
      ∀ (i : Nat) (x : SelString), i < stringCount s.dev → s.dev.strings.strings[i]? = some x → x.drive = .off →
        FiresAtAngle f i x s.dev t.dev := by
  set e := walked .forward dt sense s.dev with he
  have hangle : firesByAngle e = true := by
    rcases hmode with h | ⟨h, -⟩ <;> simp [firesByAngle, inWeave, he, h, hweave]
  have hstep : steppedOnto .forward dt sense s.dev = fallDue (fun _ s => decide (s.fireAngle = some f)) e := by
    rw [steppedOnto_walked (.inl hweave) hgoes hs, decide_eq_true rfl, doIf_true, stringsAtAngle, hangle, doIf_true]
  obtain ⟨hstrings, hfire, hseq⟩ := forwardCrossings_quiet (d := fallDue (fun _ s => decide (s.fireAngle = some f)) e) hb hc
    (by simpa [he] using hmode)
  refine ⟨_, exec_onto dt sense hr hs, rfl, ?_, ?_, fun i x hi hx hoff => ?_⟩
  all_goals rw [hrole, crossingsOf, hstep]
  · rw [hstrings, strings_length_congr (fallDue_latencies _ e), he, walked_length]
  · simpa [he] using hseq
  · have hie : i < stringCount e := by simpa [he] using hi
    have hxe : e.strings.strings[i]? = some x := by simpa [he] using beforeStep_dropped dt sense hx hoff
    have hready : readyToFire e x = true ↔ _ := walked_ready (.inl hweave) x
    have hblank : e.strings.blank = s.dev.strings.blank := by simp [he]
    refine ⟨fun hpending hf hwaiting hpattern hb hpower => ?_, fun hpending hf hb hnot => ?_, fun hspared => ?_⟩
    · have hdue : fallsDue (fun _ s => decide (s.fireAngle = some f)) i x = true := by simp [fallsDue, hpending, hf, hwaiting]
      have hfires := hready.mpr ⟨hpattern, hb, hpower⟩
      rw [hstrings, hfire]
      exact ⟨fallDue_fires hie hxe hdue hfires, fallDue_reports hie hxe hangle hdue hfires⟩
    · rw [hstrings]
      refine fallDue_waits hie hxe hpending (by simpa using hf) (hblank.trans hb) (Bool.eq_false_iff.mpr fun h => ?_)
      obtain ⟨hpattern, -, hpower⟩ := hready.mp h
      exact hnot.elim (by simp [hpattern]) (absurd hpower)
    · rw [hstrings]
      refine fallDue_spares hie hxe ?_
      rw [hblank]
      rcases hspared with h | h | h | h
      · exact .inl (by simp [fallsDue, h])
      · exact .inl (by simp [fallsDue, h])
      · exact .inr h
      · exact .inl (by simp [fallsDue, h])

/-! ## The K crossing (R132, R134) -/

theorem captureAll_driver (d : Device) :
    (captureAll d).strings = { d.strings with strings := (captureAll d).strings.strings, captureDone := true } := rfl

theorem missTest_driver (d : Device) :
    (missTest d).strings = { d.strings with strings := (missTest d).strings.strings, missTested := true } := by
  cases hblank : d.strings.blank
  · rw [missTest_open hblank]
    cases somePending d
    · rfl
    · rw [doIf_true, (ownHold_frame _).2.2.2.2.1]
      rfl
  · rw [missTest_blank hblank]
    rfl

theorem somePending_congr {d t : Device} (hcount : stringCount t = stringCount d)
    (h : ∀ i : Nat, (t.strings.strings[i]?).map isPending = (d.strings.strings[i]?).map isPending) :
    somePending t = somePending d := by
  have hmap : t.strings.strings.map isPending = d.strings.strings.map isPending := List.ext_getElem? fun i => by simpa using h i
  have hany (y : Device) : somePending y = ((y.strings.strings.map isPending).take (stringCount y)).any id := by
    simp [somePending, anyString, ← List.map_take]
  rw [hany, hany, hmap, hcount]

theorem captureString_pending (pos : Position) (sense : StringBits) (x : SelString) :
    (captureString pos sense x).chain = .pending ↔ x.chain = .pending := by
  by_cases h : x.chain = .fired
  · simp [captureString_fired pos sense h, h]
  · rw [captureString_of_ne pos sense h]

theorem somePending_captureAll (d : Device) : somePending (captureAll d) = somePending d := by
  refine somePending_congr (stringCount_eq (by simp) (by simp)) fun i => ?_
  rw [captureAll_getElem?, Option.map_map]
  congr 1
  funext x
  simp only [Function.comp_apply, isPending, decide_eq_decide]
  split
  · exact captureString_pending _ _ x
  · rfl

theorem somePending_walked (dir : Direction) (dt : Lapse) (sense : List StringBits) (d : Device) :
    somePending (walked dir dt sense d) = somePending d := by
  refine somePending_congr walked_count fun i => ?_
  simp [beforeStep_stringDriver, Function.comp_def]
  rfl

theorem someMissed_eq (d : Device) : someMissed d = (!d.strings.blank && somePending d) := rfl

/-- The strings at a K crossing: captured, and, where a test is due in a pick not blank, given up. -/
theorem captureAndTest_getElem? {d : Device} {i : Nat} {z : SelString} (hi : i < stringCount d) (hz : d.strings.strings[i]? = some z) :
    (captureAndTest d).strings.strings[i]? = some
      (if d.strings.captureDone = false ∧ d.strings.blank = false then
        givenUp (captureString d.seq.pos (d.pins.sense.getD i 0#128) z)
      else captureString d.seq.pos (d.pins.sense.getD i 0#128) z) := by
  have hcaptured : (captureAll d).strings.strings[i]? = some (captureString d.seq.pos (d.pins.sense.getD i 0#128) z) := by
    simp [captureAll_getElem?, hz, hi]
  cases hdone : d.strings.captureDone
  · rw [captureAndTest_first d hdone, missTest_getElem?, hcaptured, captureAll_driver,
      stringCount_congr (d := d) (t := captureAll d) (by simp) (by simp)]
    simp [hi]
  · simp [captureAndTest_again d hdone, hcaptured]

theorem captureAndTest_driver (d : Device) : (captureAndTest d).strings.captureDone = true ∧
    (captureAndTest d).strings.strings.length = d.strings.strings.length ∧ (captureAndTest d).fire = d.fire := by
  have hcaptured : (captureAll d).strings.strings.length = d.strings.strings.length :=
    length_eq_of_getElem?_map (captureAll_getElem? d)
  cases hdone : d.strings.captureDone
  · rw [captureAndTest_first d hdone, missTest_driver]
    exact ⟨rfl, (length_eq_of_getElem?_map (missTest_getElem? _)).trans hcaptured, by simp⟩
  · rw [captureAndTest_again d hdone]
    exact ⟨rfl, hcaptured, by simp⟩

theorem captureAndTest_missed {d : Device} (hdone : d.strings.captureDone = false) (h : someMissed d = true) :
    flagOf .selectionMissed (captureAndTest d).control = true ∧
    (d.control.state = .weave → (captureAndTest d).seq.void = true) := by
  simp only [someMissed_eq, Bool.and_eq_true, Bool.not_eq_true'] at h
  rw [captureAndTest_first d hdone]
  have htold := missTest_missed (d := captureAll d) h.1 ((somePending_captureAll d).trans h.2)
  simpa using htold

theorem captureAndTest_quiet {d : Device} (h : someMissed d = false ∨ d.strings.captureDone = true) :
    (captureAndTest d).seq = d.seq ∧ (captureAndTest d).control = d.control := by
  cases hdone : d.strings.captureDone
  · have hmissed := h.resolve_right (by simp [hdone])
    rw [captureAndTest_first d hdone]
    have hquiet := missTest_quiet (d := captureAll d) (by
      rw [somePending_captureAll, captureAll_driver]
      simpa [someMissed_eq, imp_iff_not_or] using hmissed)
    simpa using hquiet
  · simp [captureAndTest_again d hdone]

theorem fireForwardK_eq (d : Device) :
    fireForwardK d = onFire (fun t => { t with phase := if d.fire.phase = .set then .past else d.fire.phase }) d := by
  unfold fireForwardK
  split <;> simp_all [onFire]

end Sys2Proof.Machine
end

section
/-! SUPPORT. The forward steps onto K and onto D that take the strings of a pick on (R132, R133, R140). -/

namespace Sys2Proof.Machine

section
variable {a b : Bool} {dt : Lapse} {sense : List StringBits} {d : Device} {x : Nat}

theorem capturesAtK_state (h : capturesAtK d = true) : d.control.state = .weave ∨ d.control.state = .test := by
  simp only [capturesAtK, Bool.or_eq_true, Bool.and_eq_true, decide_eq_true_eq] at h
  rcases h with ⟨hweave, -⟩ | ⟨⟨htest, -⟩, -⟩
  · exact .inl hweave
  · exact .inr htest

/-- The strings follow the crossings of a FORWARD pick and of a turning test pick. -/
theorem capturesAtK_walked (h : capturesAtK d = true) (dir : Direction) :
    (decide ((walked dir dt sense d).strings.mode = .forward) || turningTest (walked dir dt sense d)) = true := by
  simp only [capturesAtK, Bool.or_eq_true, Bool.and_eq_true, decide_eq_true_eq] at h
  rcases h with ⟨-, hmode⟩ | ⟨⟨-, hmode⟩, hop⟩
  · simp [hmode]
  · simp [turningTest_walked hop, hmode]

/-- Onto an angle that no string holds a forward step reaches its crossings with the strings as the lapse left them. -/
theorem steppedOnto_unheld (hstate : d.control.state = .weave ∨ d.control.state = .test) (hgoes : goesOn .forward d = true)
    (hs : stepsOnto .forward a b x d = true) (hnone : noFireAt x d = true) :
    steppedOnto .forward dt sense d = walked .forward dt sense d := by
  rw [steppedOnto_walked hstate hgoes hs, decide_eq_true rfl, doIf_true]
  refine stringsAtAngle_of_none ?_
  have hlapse := noFireAt_beforeStep x dt sense d
  simpa [noFireAt] using hlapse.trans hnone

theorem walked_getElem? {dir : Direction} {i : Nat} {z : SelString} (hz : d.strings.strings[i]? = some z) :
    (walked dir dt sense d).strings.strings[i]? =
      some { z with drive := elapseDrive (inrushTicks d) dt.ticks z.drive } := by
  simpa using beforeStep_getElem? dt sense hz

theorem someMissed_walked (dir : Direction) (dt : Lapse) (sense : List StringBits) (d : Device) :
    someMissed (walked dir dt sense d) = someMissed d := by
  simp [someMissed_eq, somePending_walked]

end

/-! ## The end of the pick at D (R133) -/

theorem missTest_map {β : Type} {g : SelString → β} (h : ∀ x, g (givenUp x) = g x) (d : Device) :
    (missTest d).strings.strings.map g = d.strings.strings.map g := by
  refine List.ext_getElem? fun i => ?_
  simp only [List.getElem?_map, missTest_getElem?, Option.map_map]
  congr 1
  funext x
  simp only [Function.comp_apply]
  split
  · exact h x
  · rfl

theorem outstandingMissTest_due {d : Device} (hmode : d.strings.mode = .forward) (h : d.strings.missTested = false) :
    outstandingMissTest d = missTest d := by simp [outstandingMissTest, hmode, h, doIf_true]

/-- The station after the D crossing of a pick: every string at rest. -/
def pickEnded (d : Device) : Device := onStrings (fun g => { g with mode := .none }) (restAll d)

@[simp] theorem pickEnded_frame (d : Device) : (pickEnded d).seq = d.seq ∧ (pickEnded d).control = d.control := by
  simp [pickEnded]

theorem pickEnded_rests (d : Device) :
    ((pickEnded d).strings.strings.all fun x => decide (x.chain = .resting) && decide (x.drive = .off)) = true := by
  simp only [List.all_eq_true, Bool.and_eq_true, decide_eq_true_eq]
  exact fun x hx => (restAll_off d x hx).symm

theorem pickEnded_map {β : Type} {g : SelString → β} (h : ∀ x : SelString, g { x with chain := .resting, drive := .off } = g x)
    (d : Device) : (pickEnded d).strings.strings.map g = d.strings.strings.map g := by
  simp [pickEnded, restAll, mapAllStrings_strings, Function.comp_def, h]

theorem pickEnded_length (d : Device) : (pickEnded d).strings.strings.length = d.strings.strings.length := restAll_length d

theorem givenUp_kept (x : SelString) : (givenUp x).outReg = x.outReg ∧ (givenUp x).expected = x.expected := by
  unfold givenUp
  split <;> exact ⟨rfl, rfl⟩

theorem outstandingMissTest_map {β : Type} {g : SelString → β} (h : ∀ x, g (givenUp x) = g x) (d : Device) :
    (outstandingMissTest d).strings.strings.map g = d.strings.strings.map g :=
  doIf_keeps (fun d => d.strings.strings.map g) _ _ _ (missTest_map h d)

theorem outstandingMissTest_length (d : Device) :
    (outstandingMissTest d).strings.strings.length = d.strings.strings.length :=
  doIf_keeps (·.strings.strings.length) _ _ _ (length_eq_of_getElem?_map (missTest_getElem? d))

/-! ## The steps -/

section
variable {a b : Bool} {s : State} {c : Configuration} (dt : Lapse) (sense : List StringBits) (hr : referencedBy c s.dev = true)
  (hrole : s.dev.control.role = .sectionRole) (hat : capturesAtK s.dev = true) (hgoes : goesOn .forward s.dev = true)
include hr hrole hat hgoes

theorem exec_onto_k (hs : stepsOnto .forward a b c.k s.dev = true) (hnone : noFireAt c.k s.dev = true) :
    exec (.countingStep a b false dt sense) s =
      .next { s with dev := fireForwardK (captureAndTest (walked .forward dt sense s.dev)) } := by
  obtain ⟨-, -, hsound, -⟩ := (referencedBy_iff c s.dev).mp hr
  rw [hrole] at hsound
  rw [exec_onto dt sense hr hs, hrole, crossingsOf, forwardCrossings_at_k hsound,
    steppedOnto_unheld (capturesAtK_state hat) hgoes hs hnone, forwardK, stringsForwardK, capturesAtK_walked hat, doIf_true]

theorem exec_onto_d (hs : stepsOnto .forward a b c.d s.dev = true) (hnone : noFireAt c.d s.dev = true) :
    exec (.countingStep a b false dt sense) s =
      .next { s with dev := pickEnded (outstandingMissTest (walked .forward dt sense s.dev)) } := by
  obtain ⟨-, -, hsound, -⟩ := (referencedBy_iff c s.dev).mp hr
  rw [hrole] at hsound
  rw [exec_onto dt sense hr hs, hrole, crossingsOf, forwardCrossings_at_d hsound,
    steppedOnto_unheld (capturesAtK_state hat) hgoes hs hnone, stringsForwardD, capturesAtK_walked hat, doIf_true]
  rfl

end

end Sys2Proof.Machine
end

section
/-! SUPPORT. A direction change inside a pick, as the strings and the fire timer leave it to the crossings of its angle (R119, R123,
R135, R136, R140). -/

namespace Sys2Proof.Machine

/-! ## The strings at a turn (R135, R136) -/

/-- A string taken back is dropped, and one that had fired may fire again. -/
theorem takeBack_eq (back : Chain) (x : SelString) : takeBack back x = { x with
    drive := .off
    chain := if x.chain = .fired ∨ x.chain = .captured then back else x.chain
    waiting := x.waiting && decide (x.chain ≠ .fired) && decide (x.chain ≠ .captured) } := by
  obtain ⟨chain, _⟩ := x
  cases chain <;> simp [takeBack]

/-- Where a turn takes the FIRED and CAPTURED strings of a pick back to. -/
def backTo (m : PickMode) : Chain := if m = .reverse then .resting else .pending

theorem stringsTurn_driver {d : Device}
    (h : d.strings.mode = .forward ∨ d.strings.mode = .reverse ∨ turningTest d = true) :
    (stringsTurn d).strings = { d.strings with
      captureDone := false, strings := d.strings.strings.map (takeBack (backTo d.strings.mode)) } := by
  unfold stringsTurn backTo
  rcases h with h | h | h
  · simp [h, mapAllStrings]
  · simp [h, mapAllStrings]
  · have hmode : d.strings.mode = .test := by
      simp only [turningTest, Bool.and_eq_true, decide_eq_true_eq] at h
      exact h.1
    simp [h, hmode, mapAllStrings, doIf_true]

section
variable {dir : Direction} {dt : Lapse} {sense : List StringBits} {d : Device}

/-- The strings of a pick under way, taken back after the lapse of the step. -/
theorem stringsTurn_counted
    (h : d.strings.mode = .forward ∨ d.strings.mode = .reverse ∨ d.strings.mode = .test ∧ d.strings.test.op = .idle) :
    (stringsTurn (counted dir dt sense d)).strings = { (beforeStep dt sense d).strings with
      captureDone := false, strings := d.strings.strings.map (takeBack (backTo d.strings.mode)) } := by
  have hmode : (counted dir dt sense d).strings.mode = d.strings.mode := by simp
  rw [stringsTurn_driver (by
    rw [hmode]
    refine h.imp_right (Or.imp_right fun ⟨htest, hop⟩ => ?_)
    simp [turningTest, htest, beforeStep_stringDriver, hop, elapseStep]), hmode]
  have hlapse (y : SelString) (v : Drive) (back : Chain) : takeBack back { y with drive := v } = takeBack back y := by
    simp [takeBack_eq]
  simp [beforeStep_stringDriver, Function.comp_def, hlapse]

theorem turnPick_elsewhere (h : d.strings.mode ≠ .forward) : turnPick d = stringsTurn d := by
  simp [turnPick, h, doIf_false]

theorem turnPick_forward (h : d.strings.mode = .forward) : turnPick d = fireTurn (stringsTurn d) := by
  simp [turnPick, h, doIf_true]

end

/-! ## The fire timer at a turn (R119, R123) -/

theorem fireTurn_idle {d : Device} (h : d.fire.phase = .idle) : fireTurn d = onFire (fun t => { t with angleHold := true }) d := by
  simp [fireTurn, h]

theorem fireTurn_held {d : Device} (h : d.fire.phase = .held) : fireTurn d = d := by simp [fireTurn, h]

theorem fireTurn_computed {c : Configuration} {d : Device} (hc : d.control.config = some c)
    (h : d.fire.phase = .set ∨ d.fire.phase = .past) :
    fireTurn d = onFire (fun t => { t with phase := .held }) (computeStrings c true (clearFired d)) := by
  rcases h with h | h <;> simp [fireTurn, enterHeld, h, hc]

theorem computeStrings_driver (c : Configuration) (held : Bool) (d : Device) : (computeStrings c held d).strings =
    { d.strings with strings := (computeStrings c held d).strings.strings } := by
  simp only [computeStrings, doIf_strings, setFlag_frame]
  rfl

theorem firingAt_held (c : Configuration) (i : Nat) (r : FireString) (d : Device) : firingAt d c true i r = byAngle c := by
  unfold firingAt firingOf
  split <;> simp

section
variable {c : Configuration} {d : Device} (hc : d.control.config = some c) (h : d.fire.phase = .set ∨ d.fire.phase = .past)
include hc h

/-- A turn in SET or PAST hands every string W. -/
theorem fireTurn_hands {i : Nat} {r : FireString} {z : SelString} (hi : i < stringCount d) (hr : d.fire.strings[i]? = some r)
    (hz : d.strings.strings[i]? = some z) :
    (fireTurn d).strings.strings[i]? = some (handString c.w z) ∧
    (fireTurn d).fire.strings[i]?.map (·.basis) = some (some .angle) := by
  have hcleared : (clearFired d).fire.strings[i]? = some { r with fired := false } := by simp [clearFired, hr]
  have hcount : stringCount (clearFired d) = stringCount d := rfl
  rw [fireTurn_computed hc h]
  refine ⟨?_, ?_⟩
  · have hhanded := computeStrings_getElem? (c := c) (held := true) (d := clearFired d) (hcount ▸ hi) hcleared rfl hz
    simpa [firingAt_held, byAngle] using hhanded
  · have hunfired : unfired (clearFired d) i = true := by simp [unfired, hcount, hi, hcleared]
    simp [computeStrings_fire, hcleared, hunfired, withFiring, firingAt_held, byAngle]

theorem fireTurn_unfired : ((fireTurn d).fire.strings.all fun r => !r.fired) = true := by
  have hcleared (i : Nat) (r : FireString) (hr : (clearFired d).fire.strings[i]? = some r) : r.fired = false := by
    simp only [clearFired, onFire_fire, List.getElem?_map, Option.map_eq_some_iff] at hr
    obtain ⟨_, -, rfl⟩ := hr
    rfl
  rw [fireTurn_computed hc h, List.all_eq_true]
  simp only [onFire_fire, computeStrings_fire, List.mem_iff_getElem?, List.getElem?_mapIdx, Option.map_eq_some_iff]
  rintro _ ⟨i, r, hr, rfl⟩
  split <;> simp [withFiring, hcleared i r hr]

theorem fireTurn_phase : (fireTurn d).fire.phase = .held := by
  rw [fireTurn_computed hc h]
  simp

end

theorem fireTurn_not_set {c : Configuration} {d : Device} (hc : d.control.config = some c) : (fireTurn d).fire.phase ≠ .set := by
  cases hphase : d.fire.phase with
  | idle => simp [fireTurn_idle hphase, hphase]
  | held => simp [fireTurn_held hphase, hphase]
  | set | past => simp [fireTurn_phase hc (by simp [hphase])]

theorem enterHeld_driver (d : Device) : (enterHeld d).strings = { d.strings with strings := (enterHeld d).strings.strings } := by
  unfold enterHeld
  split
  · exact computeStrings_driver _ _ _
  · rfl

theorem enterHeld_latencies (d : Device) : latencies (enterHeld d) = latencies d := by
  unfold enterHeld
  split
  · exact computeStrings_latencies _ _ (clearFired d)
  · rfl

theorem fireTurn_driver (d : Device) : (fireTurn d).strings = { d.strings with strings := (fireTurn d).strings.strings } := by
  unfold fireTurn
  split
  · rfl
  · exact enterHeld_driver d
  · exact enterHeld_driver d
  · rfl

theorem fireTurn_latencies (d : Device) : latencies (fireTurn d) = latencies d := by
  unfold fireTurn
  split
  · rfl
  · exact enterHeld_latencies d
  · exact enterHeld_latencies d
  · rfl

/-- A string that has been taken back for its forward pick is PENDING at the angle handed. -/
theorem handString_takeBack (f : Nat) (x : SelString) : handString f (takeBack .pending x) =
    { takeBack .pending x with chain := .pending, fireAngle := some f } := by
  unfold handString
  cases h : x.chain <;> simp [takeBack_eq, h]

/-! ## No string fires at the angle of the turn (R119, R120) -/

theorem noFireAt_iff (x : Nat) (d : Device) :
    noFireAt x d = true ↔ ∀ (i : Nat) (s : SelString), d.strings.strings[i]? = some s → s.fireAngle ≠ some x := by
  simp only [noFireAt, List.all_eq_true, decide_eq_true_eq, List.mem_iff_getElem?]
  exact ⟨fun h i s hs => h s ⟨i, hs⟩, fun h s ⟨i, hs⟩ => h i s hs⟩

theorem noFireAt_mapStrings {f : Nat → SelString → SelString} {x : Nat} {d : Device} (h : noFireAt x d = true)
    (hf : ∀ i s, s.fireAngle ≠ some x → (f i s).fireAngle ≠ some x) : noFireAt x (mapStrings f d) = true := by
  rw [noFireAt_iff] at h ⊢
  intro i s hs
  simp only [mapStrings_getElem?, Option.map_eq_some_iff] at hs
  obtain ⟨y, hy, rfl⟩ := hs
  split
  · exact hf i y (h i y hy)
  · exact h i y hy

theorem handString_fireAngle {a x : Nat} {s : SelString} (ha : x ≠ a) (h : s.fireAngle ≠ some x) :
    (handString a s).fireAngle ≠ some x := by
  unfold handString
  split
  · simpa using ha.symm
  · simpa using ha.symm
  · exact h

theorem noFireAt_flagged (x : Nat) (c : Bool) (f : Flag) (d : Device) : noFireAt x (doIf c (setFlag f) d) = noFireAt x d :=
  doIf_keeps (noFireAt x) c _ d rfl

theorem noFireAt_computeStrings {c : Configuration} {x : Nat} {d : Device} (hw : x ≠ c.w) (h : noFireAt x d = true) :
    noFireAt x (computeStrings c true d) = true := by
  unfold computeStrings
  dsimp only
  rw [noFireAt_flagged, noFireAt_flagged]
  refine noFireAt_mapStrings (d := onFire _ d) h fun i s hs => ?_
  split
  · split
    · exact hs
    · exact handString_fireAngle (by simpa [firingAt_held, byAngle] using hw) hs
  · exact hs

theorem noFireAt_fireTurn {c : Configuration} {x : Nat} {d : Device} (hc : d.control.config = some c) (hw : x ≠ c.w)
    (h : noFireAt x d = true) : noFireAt x (fireTurn d) = true := by
  cases hphase : d.fire.phase with
  | idle => rwa [fireTurn_idle hphase]
  | held => rwa [fireTurn_held hphase]
  | set | past =>
    rw [fireTurn_computed hc (by simp [hphase])]
    exact noFireAt_computeStrings (d := clearFired d) hw h

/-! ## The step that turns -/

section
variable {dir : Direction} {dt : Lapse} {sense : List StringBits} {d : Device} {a b : Bool} {x : Nat} {c : Configuration}
  (hturns : turns dir d.tracker = true) (hs : stepsOnto dir a b x d = true)
include hturns hs

/-- In a reverse or a test pick a turn takes the strings back, and no string fires at its angle (R136, R140). -/
theorem steppedOnto_turned_back (hstate : d.control.state = .weave ∨ d.control.state = .test)
    (hmode : d.strings.mode = .reverse ∨ d.strings.mode = .test ∧ d.strings.test.op = .idle) (hset : d.fire.phase ≠ .set) :
    (steppedOnto dir dt sense d).strings.captureDone = false ∧
    (steppedOnto dir dt sense d).strings.strings = d.strings.strings.map (takeBack (backTo d.strings.mode)) ∧
    (steppedOnto dir dt sense d).control.state = d.control.state := by
  have hforward : d.strings.mode ≠ .forward := by rcases hmode with h | ⟨h, -⟩ <;> simp [h]
  have hpick : turnPick (counted dir dt sense d) = stringsTurn (counted dir dt sense d) := turnPick_elsewhere (by simpa using hforward)
  have hstrings := stringsTurn_counted (dir := dir) (dt := dt) (sense := sense) (d := d) (.inr hmode)
  have hfires : firesByAngle (turned dir dt sense d) = false := by
    have hsame : (turned dir dt sense d).strings.mode = d.strings.mode := by simp [turned]
    rcases hmode with h | ⟨h, -⟩ <;> simp [firesByAngle, hsame, h]
  have hquiet : stringsAtAngle x (turned dir dt sense d) = turned dir dt sense d := by rw [stringsAtAngle, hfires, doIf_false]
  rw [steppedOnto_turned hstate hturns hs (by simpa [hpick] using hset), doIf_of_fixed fun _ => hquiet, turned, hpick,
    (wakePower_driver _).1, hstrings]
  simp

/-- In a forward pick a turn takes the strings back and tells the fire timer (R123, R135). -/
theorem steppedOnto_turned_forward (hc : d.control.config = some c) (hweave : d.control.state = .weave)
    (hmode : d.strings.mode = .forward) (hw : x ≠ c.w) (hnone : noFireAt x d = true) :
    steppedOnto dir dt sense d = wakePower (fireTurn (stringsTurn (counted dir dt sense d))) := by
  have hpick : turnPick (counted dir dt sense d) = fireTurn (stringsTurn (counted dir dt sense d)) :=
    turnPick_forward (by simpa using hmode)
  have hstrings := stringsTurn_counted (dir := dir) (dt := dt) (sense := sense) (d := d) (.inl hmode)
  have hback : noFireAt x (stringsTurn (counted dir dt sense d)) = true := by
    rw [noFireAt, hstrings]
    simpa [noFireAt, takeBack_eq] using hnone
  have hconfig : (stringsTurn (counted dir dt sense d)).control.config = some c := by simpa using hc
  have hquiet : stringsAtAngle x (turned dir dt sense d) = turned dir dt sense d := by
    refine stringsAtAngle_of_none ?_
    rw [turned, hpick, noFireAt, (wakePower_lists _).1]
    exact noFireAt_fireTurn hconfig hw hback
  rw [steppedOnto_turned (.inl hweave) hturns hs (hpick ▸ fireTurn_not_set hconfig), doIf_of_fixed fun _ => hquiet, turned, hpick]

end

/-! ## The crossings of a turn -/

/-- Away from B and the angles of the strings, with no window to close, the crossings of a step leave strings and fire timer alone. -/
theorem crossingsOf_apart {dir : Direction} {c : Configuration} {x : Nat} {d : Device} (hb : x ≠ c.b) (hw : x ≠ c.w)
    (hk : x ≠ c.k) (hd : x ≠ c.d) (hclose : x ≠ c.c ∨ (inWeave d && d.roster.windowOpen) = false) :
    (crossingsOf dir c .sectionRole x d).strings = d.strings ∧ (crossingsOf dir c .sectionRole x d).fire = d.fire ∧
    (crossingsOf dir c .sectionRole x d).seq =
      { d.seq with guardOpen := (crossingsOf dir c .sectionRole x d).seq.guardOpen } := by
  cases dir with
  | reverse => simp [crossingsOf, reverseCrossings, hb, hw, hk, hd, doIf_false]
  | forward =>
    obtain ⟨hstrings, hfire, hseq, hroster, hcontrol⟩ := doIf_guardEnd_kept (decide (x = guardEnd c)) d
    generalize hg : doIf (decide (x = guardEnd c)) forwardGuardEnd d = e at *
    have hclosed : doIf (decide (x = c.c)) rosterClose e = doIf (decide (x = c.c)) (discardBeacon true) e := by
      rcases hclose with h | h
      · simp [h, doIf_false]
      · have hinert : rosterClose e = discardBeacon true e := by
          simp only [inWeave, ← hcontrol, ← hroster] at h
          simp [rosterClose, inWeave, h]
        cases decide (x = c.c)
        · rfl
        · exact hinert
    have heq : crossingsOf .forward c .sectionRole x d = doIf (decide (x = c.c)) (discardBeacon true) e := by
      simp only [crossingsOf, forwardCrossings, decide_eq_false hb, decide_eq_false hw, decide_eq_false hk, decide_eq_false hd,
        doIf_false, hg, hclosed]
    simp [heq, hstrings, hfire, ← hseq]

/-! ## The turn of a forward pick -/

/-- The station that tells the fire timer of a turn: the strings of the pick are taken back, nothing else that the fire timer reads
has changed. -/
structure TakenBack (d p : Device) : Prop where
  strings : p.strings.strings = d.strings.strings.map (takeBack .pending)
  fire : p.fire = d.fire
  config : p.control.config = d.control.config
  count : stringCount p = stringCount d

theorem exec_turned_forward {dir : Direction} {a b : Bool} (dt : Lapse) (sense : List StringBits) {s : State} {c : Configuration}
    {x : Nat} (hr : referencedBy c s.dev = true) (hweave : s.dev.control.state = .weave)
    (hrole : s.dev.control.role = .sectionRole) (hmode : s.dev.strings.mode = .forward) (hturns : turns dir s.dev.tracker = true)
    (hs : stepsOnto dir a b x s.dev = true) (hb : x ≠ c.b) (hc : x ≠ c.c) (hw : x ≠ c.w) (hk : x ≠ c.k) (hd : x ≠ c.d)
    (hnone : noFireAt x s.dev = true) :
    ∃ t p, exec (.countingStep a b false dt sense) s = .next t ∧ t.pending = s.pending ∧ TakenBack s.dev p ∧
      t.dev.strings.strings = (fireTurn p).strings.strings ∧ t.dev.fire = (fireTurn p).fire ∧ t.dev.strings.mode = .forward ∧
      t.dev.strings.captureDone = false ∧ t.dev.seq = { s.dev.seq with guardOpen := t.dev.seq.guardOpen } := by
  obtain ⟨-, hconfig, -⟩ := (referencedBy_iff c s.dev).mp hr
  have hstep := steppedOnto_turned_forward (dt := dt) (sense := sense) hturns hs hconfig hweave hmode hw hnone
  obtain ⟨hstrings, hfire, hseq⟩ := crossingsOf_apart (dir := dir) (d := steppedOnto dir dt sense s.dev) hb hw hk hd (.inl hc)
  have htaken := stringsTurn_counted (dir := dir) (dt := dt) (sense := sense) (d := s.dev) (.inl hmode)
  refine ⟨_, stringsTurn (counted dir dt sense s.dev), exec_onto dt sense hr hs, rfl,
    ⟨by rw [htaken, hmode]; rfl, by simp, by simp, stringCount_eq (by simp) (by simp)⟩, ?_⟩
  simp only [hrole]
  refine ⟨?_, ?_, ?_, ?_, hseq.trans (by simp)⟩
  · rw [hstrings, hstep, (wakePower_lists _).1]
  · rw [hfire, hstep]
    simp
  · simpa [hstrings] using hmode
  · rw [hstrings, hstep, (wakePower_driver _).1, fireTurn_driver, htaken]

end Sys2Proof.Machine
end

section
/-! SUPPORT. The crossings of a reverse pick string by string, and the steps onto them (R134, R136). -/

namespace Sys2Proof.Machine

/-! ## The crossings (R136) -/

theorem anyString_of_getElem? {p : SelString → Bool} {d : Device} {i : Nat} {x : SelString} (hi : i < stringCount d)
    (hx : d.strings.strings[i]? = some x) (h : p x = true) : anyString p d = true := by
  simp only [anyString, List.any_eq_true, List.mem_iff_getElem?]
  exact ⟨x, ⟨i, by simp [hi, hx]⟩, h⟩

section
variable {d : Device} {i : Nat} {z : SelString} (hmode : d.strings.mode = .reverse) (hi : i < stringCount d)
  (hz : d.strings.strings[i]? = some z)
include hmode

theorem stringsReverseD_length : (stringsReverseD d).strings.strings.length = d.strings.strings.length := by
  simp only [stringsReverseD, hmode, decide_true, doIf_true]
  exact (length_eq_of_getElem?_map (mapStrings_getElem? _ _)).trans (length_eq_of_getElem?_map (fireWhere_getElem? _ _))

theorem stringsReverseK_driver : (stringsReverseK d).strings.captureDone = true ∧
    (stringsReverseK d).strings.strings.length = d.strings.strings.length := by
  simp only [stringsReverseK, hmode, decide_true, doIf_true, doIf_strings, setFlag_frame]
  exact ⟨rfl, (length_eq_of_getElem?_map (mapStrings_getElem? _ _)).trans (length_eq_of_getElem?_map (captureAll_getElem? d))⟩

theorem stringsReverseW_ended : stringsReverseW d = pickEnded d := by
  simp only [stringsReverseW, hmode, decide_true, doIf_true]
  rfl

include hi hz

/-- A RESTING string that is ready fires at the reverse D crossing. -/
theorem stringsReverseD_fires (hresting : z.chain = .resting) (hready : readyToFire d z = true) :
    (stringsReverseD d).strings.strings[i]? = some (fireString z) := by
  simp only [stringsReverseD, hmode, decide_true, doIf_true, mapStrings_getElem?, fireWhere_getElem?, hz, Option.map_some]
  rw [stringCount_congr (d := d) (by simp) (by simp)]
  simp [hi, hresting, hready, fireString]

/-- Every other RESTING string waits from there on. -/
theorem stringsReverseD_waits (hresting : z.chain = .resting) (hready : readyToFire d z = false) :
    (stringsReverseD d).strings.strings[i]? = some { z with waiting := true } := by
  simp only [stringsReverseD, hmode, decide_true, doIf_true, mapStrings_getElem?, fireWhere_getElem?, hz, Option.map_some]
  rw [stringCount_congr (d := d) (by simp) (by simp)]
  simp [hi, hresting, hready]

/-- A string at the reverse K crossing: captured where it is FIRED, given up where it waits. -/
theorem stringsReverseK_getElem? : (stringsReverseK d).strings.strings[i]? =
    some (let y := captureString d.seq.pos (d.pins.sense.getD i 0#128) z
      if y.waiting then { y with waiting := false, echo := false } else y) := by
  simp only [stringsReverseK, hmode, decide_true, doIf_true, doIf_strings, setFlag_frame, mapStrings_getElem?, captureAll_getElem?,
    hz, Option.map_some]
  rw [stringCount_congr (d := d) (t := captureAll d) (by simp) (by simp)]
  simp [hi]

/-- A waiting string given up at the reverse K crossing of a pick not blank is reported. -/
theorem stringsReverseK_missed (hfired : z.chain ≠ .fired) (hwaiting : z.waiting = true) (hblank : d.strings.blank = false) :
    flagOf .selectionMissed (stringsReverseK d).control = true := by
  have hkept : (captureAll d).strings.strings[i]? = some z := by
    simp [captureAll_getElem?, hz, captureString_of_ne _ _ hfired]
  have hmissed : anyString (·.waiting) (captureAll d) = true :=
    anyString_of_getElem? (by rwa [stringCount_congr (d := d) (t := captureAll d) (by simp) (by simp)]) hkept hwaiting
  have hopen : (captureAll d).strings.blank = false := hblank
  simp [stringsReverseK, hmode, doIf_true, hmissed, hopen]

end

/-! ## The steps -/

section
variable {a b : Bool} {s : State} {c : Configuration} (dt : Lapse) (sense : List StringBits) (hr : referencedBy c s.dev = true)
  (hweave : s.dev.control.state = .weave) (hrole : s.dev.control.role = .sectionRole) (hgoes : goesOn .reverse s.dev = true)
include hr hweave hrole hgoes

theorem exec_reverse {x : Nat} (hs : stepsOnto .reverse a b x s.dev = true) : exec (.countingStep a b false dt sense) s =
    .next { s with dev := reverseCrossings c .sectionRole x (walked .reverse dt sense s.dev) } := by
  rw [exec_onto dt sense hr hs, hrole, crossingsOf, steppedOnto_walked (.inl hweave) hgoes hs]
  rfl

end

end Sys2Proof.Machine
end

section
/-! SUPPORT. The test pick that a turning shaft opens at B, and what the step up to there keeps of the test (R70, R130, R140). -/

namespace Sys2Proof.Machine

/-! ## What a step keeps of a test before its crossings -/

/-- The stepped test and the strings' latencies are as before. -/
structure SameTest (d t : Device) : Prop where
  test : t.strings.test = d.strings.test
  latencies : latencies t = latencies d

theorem SameTest.refl (d : Device) : SameTest d d := ⟨rfl, rfl⟩

theorem SameTest.trans {d e t : Device} (h₁ : SameTest d e) (h₂ : SameTest e t) : SameTest d t :=
  ⟨h₂.test.trans h₁.test, h₂.latencies.trans h₁.latencies⟩

theorem SameTest.of_strings {d t : Device} (h : t.strings = d.strings) : SameTest d t :=
  ⟨by rw [h], congrArg (fun g : StringDriver => g.strings.map SelString.latency) h⟩

theorem doIf_sameTest (c : Bool) {f : Device → Device} {d : Device} (h : SameTest d (f d)) : SameTest d (doIf c f d) := by
  cases c
  · exact .refl d
  · exact h

theorem fallDue_sameTest (p : Nat → SelString → Bool) (d : Device) : SameTest d (fallDue p d) :=
  ⟨by rw [fallDue_eq, mapStrings_driver, fireWhere_driver], fallDue_latencies p d⟩

theorem recompute_sameTest (c : Configuration) (d : Device) : SameTest d (recompute c d) :=
  ⟨(fallDue_sameTest _ _).test.trans (by rw [computeStrings_driver]), recompute_latencies c d⟩

theorem turnPick_sameTest (d : Device) : SameTest d (turnPick d) := by
  have hback (back : Chain) : SameTest d (mapAllStrings (takeBack back) d) :=
    ⟨rfl, by simp [latencies, mapAllStrings_strings, Function.comp_def, takeBack_eq]⟩
  have hstrings : SameTest d (stringsTurn d) := by
    unfold stringsTurn
    cases d.strings.mode with
    | forward => exact ⟨rfl, (hback .pending).latencies⟩
    | reverse => exact ⟨rfl, (hback .resting).latencies⟩
    | test => exact doIf_sameTest _ ⟨rfl, (hback .pending).latencies⟩
    | none => exact .refl d
  refine hstrings.trans (doIf_sameTest _ ?_)
  exact ⟨by rw [fireTurn_driver], fireTurn_latencies _⟩

theorem onFire_sameTest (f : FireTimer → FireTimer) (d : Device) : SameTest d (onFire f d) := .of_strings rfl

theorem fireSpan_sameTest (n : Nat) (d : Device) : SameTest d (fireSpan n d) := by
  unfold fireSpan
  dsimp only
  (repeat' split)
  · exact (onFire_sameTest _ d).trans (recompute_sameTest _ _)
  · exact (onFire_sameTest _ d).trans (onFire_sameTest _ _)
  · exact onFire_sameTest _ d
  · exact onFire_sameTest _ d
  · exact .refl d

theorem fireLeavesFast_sameTest (d : Device) : SameTest d (fireLeavesFast d) := by
  unfold fireLeavesFast
  (repeat' split)
  · exact recompute_sameTest _ _
  all_goals exact .refl d

theorem handSpeed_sameTest (before : Speed) (done : Bool) (d : Device) : SameTest d (handSpeed before done d) := by
  have hflagged (x : Bool) : SameTest d (doIf x (setFlag .fast) d) := doIf_sameTest x (.of_strings rfl)
  unfold handSpeed
  dsimp only
  (repeat' split)
  · exact (hflagged _).trans (fireSpan_sameTest _ _)
  · exact hflagged _
  · exact (hflagged _).trans (doIf_sameTest _ (fireLeavesFast_sameTest _))

theorem wakePower_sameTest (d : Device) : SameTest d (wakePower d) :=
  ⟨by rw [(wakePower_driver d).1], wakePower_latencies d⟩

theorem steppedOnto_sameTest {dir : Direction} (dt : Lapse) (sense : List StringBits) {d : Device} (hstate : d.control.state = .test)
    (hop : d.strings.test.op = .idle) : SameTest d (steppedOnto dir dt sense d) ∧
    (steppedOnto dir dt sense d).control.state = .test := by
  have hlapse : SameTest d (counted dir dt sense d) := by
    have hidle : elapseStep dt.ticks d.strings.test.op = d.strings.test.op := by rw [hop]; rfl
    exact ⟨by simp [beforeStep_stringDriver, hidle], beforeStep_latencies dt sense d⟩
  rw [steppedOnto, atCrossing, stepHanded_wakes (.inr hstate)]
  refine ⟨?_, by simp [hstate]⟩
  exact ((hlapse.trans (doIf_sameTest _ (turnPick_sameTest _))).trans (handSpeed_sameTest _ _ _)).trans
    ((wakePower_sameTest _).trans (doIf_sameTest _ (doIf_sameTest _ (fallDue_sameTest _ _))))

/-! ## The test pick opened at B (R140) -/

/-- The strings of a test pick opened, before its pattern is shifted or fetched. -/
def testPickOpened (w : Nat) (d : Device) : Device :=
  onStrings (fun g => { g with mode := .test, blank := false, captureDone := false, missTested := true })
    (mapStrings (fun _ s => { s with chain := .pending, fireAngle := some w }) (freshStrings (dropAll d)))

theorem openTestPick_row {w : Nat} {d : Device} (h : d.strings.test.pattern = some .row) :
    openTestPick w d = nextStep (startTestFetch d.strings.test.row (testPickOpened w d)) := by
  have htest : (testPickOpened w d).strings.test = d.strings.test := rfl
  unfold openTestPick
  dsimp only
  rw [← testPickOpened, htest, h]

theorem openTestPick_pattern {w : Nat} {d : Device} {k : TestPattern} (h : d.strings.test.pattern = some k) (hk : k ≠ .row) :
    openTestPick w d = nextStep (shiftAll (fun _ => testBits k d.strings.test.step) (testPickOpened w d)) := by
  have htest : (testPickOpened w d).strings.test = d.strings.test := rfl
  unfold openTestPick
  dsimp only
  rw [← testPickOpened, htest, h]
  cases k with
  | row => exact absurd rfl hk
  | _ => rfl

theorem testPickOpened_getElem? (w : Nat) (d : Device) (i : Nat) : (testPickOpened w d).strings.strings[i]? =
    (d.strings.strings[i]?).map fun x =>
      if i < stringCount d then { freshString x with chain := .pending, fireAngle := some w } else freshString x := by
  have hopened : (testPickOpened w d).strings.strings[i]? = _ := mapStrings_getElem? _ (freshStrings (dropAll d)) i
  rw [hopened, stringCount_congr (d := d) (by simp) (by simp), freshStrings_dropAll_strings]
  simp [Function.comp_def]

@[simp] theorem testPickOpened_frame (w : Nat) (d : Device) :
    (testPickOpened w d).seq = d.seq ∧ (testPickOpened w d).store = d.store ∧ (testPickOpened w d).control = d.control := by
  simp [testPickOpened]

/-- A test pick opens with no string waiting, so that no shift fires one. -/
theorem testPickOpened_not_waiting (w : Nat) (d : Device) : ∀ x ∈ (testPickOpened w d).strings.strings, x.waiting = false := by
  intro x hx
  obtain ⟨i, hi⟩ := List.mem_iff_getElem?.mp hx
  rw [testPickOpened_getElem?, Option.map_eq_some_iff] at hi
  obtain ⟨y, -, rfl⟩ := hi
  split <;> rfl

/-- A test pick has opened: its driver, and its length and step, from those of the station before. -/
structure TestPickOpen (d t : Device) : Prop where
  mode : t.strings.mode = .test
  blank : t.strings.blank = false
  captureDone : t.strings.captureDone = false
  test : t.strings.test = { d.strings.test with step := (d.strings.test.step + 1) % 65536 }
  length : t.strings.strings.length = d.strings.strings.length

theorem openTestPick_driver {w : Nat} {d : Device} {k : TestPattern} (h : d.strings.test.pattern = some k) :
    TestPickOpen d (openTestPick w d) := by
  have hlength : (testPickOpened w d).strings.strings.length = d.strings.strings.length :=
    length_eq_of_getElem?_map (testPickOpened_getElem? w d)
  by_cases hk : k = .row
  · rw [openTestPick_row (hk ▸ h)]
    exact ⟨rfl, rfl, rfl, rfl, hlength⟩
  · rw [openTestPick_pattern h hk]
    generalize hf : (fun _ => testBits k d.strings.test.step : Nat → StringBits) = field
    have hshifted : (nextStep (shiftAll field (testPickOpened w d))).strings = _ :=
      congrArg (fun g : StringDriver => { g with test := { g.test with step := (g.test.step + 1) % 65536 } })
        (shiftAll_driver field (testPickOpened w d))
    refine ⟨by rw [hshifted]; rfl, by rw [hshifted]; rfl, by rw [hshifted]; rfl, by rw [hshifted]; rfl, ?_⟩
    exact (length_eq_of_getElem?_map (shiftAll_getElem? field _)).trans hlength

/-! ## The step onto B -/

theorem steppedOnto_store (dir : Direction) (dt : Lapse) (sense : List StringBits) (d : Device) :
    (steppedOnto dir dt sense d).store = { d.store with fetch := elapseFetch dt.ticks d.store.fetch } := by
  simp [steppedOnto, beforeStep, elapse_store]

/-- The forward step onto B in TEST opens a test pick, on the station `e` that the step has left. -/
theorem exec_opens_test {a b : Bool} (dt : Lapse) (sense : List StringBits) {s : State} {c : Configuration} {k : TestPattern}
    (hr : referencedBy c s.dev = true) (hstate : s.dev.control.state = .test) (hop : s.dev.strings.test.op = .idle)
    (hpattern : s.dev.strings.test.pattern = some k) (hs : stepsOnto .forward a b c.b s.dev = true) :
    ∃ t e, exec (.countingStep a b false dt sense) s = .next t ∧ t.pending = s.pending ∧ TestPickOpen s.dev t.dev ∧
      t.dev.control.state = .test ∧ t.dev.seq.pos = s.dev.seq.pos ∧
      t.dev.strings.strings = (openTestPick c.w e).strings.strings ∧ t.dev.store = (openTestPick c.w e).store ∧
      e.strings.test = s.dev.strings.test ∧ stringCount e = stringCount s.dev ∧
      e.store = { s.dev.store with fetch := e.store.fetch } := by
  obtain ⟨-, -, hsound, -⟩ := (referencedBy_iff c s.dev).mp hr
  obtain ⟨⟨hsame, hlatencies⟩, htest⟩ := steppedOnto_sameTest (dir := .forward) dt sense hstate hop
  have hcount : stringCount (steppedOnto .forward dt sense s.dev) = stringCount s.dev := stringCount_eq (by simp) (by simp)
  have hpos : (steppedOnto .forward dt sense s.dev).seq = s.dev.seq := by simp
  have hstore := steppedOnto_store .forward dt sense s.dev
  have hexec := exec_onto dt sense hr hs
  generalize steppedOnto .forward dt sense s.dev = e at *
  have hcrossing : forwardB c e = openTestPick c.w e := by simp [forwardB, htest, hsame, hop, doIf_true]
  rw [crossingsOf, forwardCrossings_at_b hsound, hcrossing] at hexec
  obtain ⟨hmode, hblank, hdone, hstep, hlength⟩ := openTestPick_driver (w := c.w) (d := e) (k := k) (by rw [hsame, hpattern])
  obtain ⟨hstrings, -, hseq, -, hcontrol⟩ := doIf_guardEnd_kept (decide (c.g = 0)) (openTestPick c.w e)
  refine ⟨_, e, hexec, rfl, ⟨?_, ?_, ?_, ?_, ?_⟩, ?_, ?_, ?_, ?_, hsame, hcount, by rw [hstore]⟩
  · simpa [hstrings] using hmode
  · simpa [hstrings] using hblank
  · simpa [hstrings] using hdone
  · simpa [hstrings, hsame] using hstep
  · simpa [hstrings, strings_length_congr hlatencies] using hlength
  · simp [htest]
  · exact (congrArg Sequencer.pos hseq).trans (by simp [hpos])
  · simp
  · simp

/-! ## The step onto W -/

theorem exec_fires_test {a b : Bool} (dt : Lapse) (sense : List StringBits) {s : State} {c : Configuration}
    (hr : referencedBy c s.dev = true) (hstate : s.dev.control.state = .test) (hrole : s.dev.control.role = .sectionRole)
    (hop : s.dev.strings.test.op = .idle) (hmode : s.dev.strings.mode = .test) (hgoes : goesOn .forward s.dev = true)
    (hs : stepsOnto .forward a b c.w s.dev = true) : exec (.countingStep a b false dt sense) s =
      .next { s with dev := fallDue (fun _ _ => true) (walked .forward dt sense s.dev) } := by
  obtain ⟨-, -, hsound, -⟩ := (referencedBy_iff c s.dev).mp hr
  rw [hrole] at hsound
  have hangle : firesByAngle (walked .forward dt sense s.dev) = false := by simp [firesByAngle, hmode]
  have hstep : steppedOnto .forward dt sense s.dev = walked .forward dt sense s.dev := by
    rw [steppedOnto_walked (.inr hstate) hgoes hs, decide_eq_true rfl, doIf_true, stringsAtAngle, hangle, doIf_false]
  rw [exec_onto dt sense hr hs, hrole, crossingsOf, forwardCrossings_at_w hsound, hstep, stringsForwardW, turningTest_walked hop,
    hmode, decide_eq_true rfl, doIf_true]

end Sys2Proof.Machine
end

section
/-! The statements about the selector strings, settled. -/

namespace Sys2Proof.Machine

/-- Settles O56: every operation keeps the outputs safe, so every step does. -/
theorem outputsStaySafe : Obligations.OutputsStaySafe := by
  unfold Obligations.OutputsStaySafe
  refine ⟨fun s t hsafe hs => ?_, fun s t htraining htest hs => (step_keepsOutputs hs).testPick htraining htest⟩
  obtain ⟨htraining, hoff⟩ := (outputsSafe_iff s.dev).mp hsafe
  have hkept := step_keepsOutputs hs
  exact (outputsSafe_iff t.dev).mpr ⟨hkept.training htraining, hkept.energised htraining hoff⟩

/-- Settles O20: the faults by `mem_compareAll` and `compareAll_pairwise`, one fault by the cases of `takeFault`, the fetch by
`fetchCompletes_taken`. -/
theorem echoIsComparedAndFaultsListed : Obligations.EchoIsComparedAndFaultsListed := by
  unfold Obligations.EchoIsComparedAndFaultsListed
  refine ⟨fun d f => ?_, compareAll_pairwise, fun d f => ⟨takeFault_flag d f,
    fun e he hhook hkind => takeFault_listed ⟨e, he, hhook, hkind⟩, fun hnew => ⟨takeFault_added hnew, takeFault_full hnew⟩⟩,
    fun s p row e hp hrole hf hw hs => ?_⟩
  · simp only [mem_compareAll, mem_compareString]
    exact ⟨fun ⟨i, x, hi, hx, ex, p, hecho, hex, hp, hfault, hdiffer⟩ => ⟨i, p, x, ex, hi, hx, hecho, hex, hp, hfault, hdiffer⟩,
      fun ⟨i, p, x, ex, hi, hx, hecho, hex, hp, hfault, hdiffer⟩ => ⟨i, x, hi, hx, ex, p, hecho, hex, hp, hfault, hdiffer⟩⟩
  · obtain ⟨hfaults, hoverflow, hflag, hheld, hkept⟩ := fetchCompletes_taken hrole hf hw hs
    refine ⟨_, exec_fetchComplete hp, rfl, hfaults, hoverflow, hflag, fun hgrew => hheld (by simpa [faultsGrew] using hgrew),
      fun hlist hover => hkept ?_, ?_⟩
    · simpa [faultsGrew] using ⟨hlist, hover⟩
    · simp

/-- Settles O36: the start of a step by `startStep_on`, `startStep_off` and `startStep_row`, its fetch by `stepFetched_shiftAll_on` and
`stepFetched_shiftAll_off`. -/
theorem testStepFiresThePattern : Obligations.TestStepFiresThePattern := by
  unfold Obligations.TestStepFiresThePattern
  have hmoving {s : State} (hask : asked .testStep [] s.dev = true) (hs : s.dev.control.state = .test)
      (hspeed : s.dev.tracker.speed ≠ .stalled) : exec .testStep s =
        .next { s with dev := { s.dev with line := answered .testStep .moving noDetail [] s.dev } } :=
    exec_request_answer hask (by simp [hs, takenIn]) (runTestStep_moving (d := popQueue s.dev) hspeed)
  have hbusy {s : State} (hask : asked .testStep [] s.dev = true) (hs : s.dev.control.state = .test)
      (hspeed : s.dev.tracker.speed = .stalled) (hop : s.dev.strings.test.op ≠ .idle) : exec .testStep s =
        .next { s with dev := { s.dev with line := answered .testStep .busy noDetail [] s.dev } } :=
    exec_request_answer hask (by simp [hs, takenIn]) (runTestStep_busy (d := popQueue s.dev) hspeed hop)
  have hstart {s : State} (hask : asked .testStep [] s.dev = true) (hs : s.dev.control.state = .test)
      (hspeed : s.dev.tracker.speed = .stalled) (hop : s.dev.strings.test.op = .idle) :
      exec .testStep s = .next { s with dev := startStep (popQueue s.dev) } := by
    rw [← runTestStep_accepted (d := popQueue s.dev) hspeed hop]
    exact exec_request hask (by simp [hs, takenIn])
  refine ⟨fun s k hask hs hk hrow => ⟨hmoving hask hs, hbusy hask hs, fun hspeed hop hrole hpower => ?_⟩,
    fun s k hask hs hspeed hop hrole hk hrow hpower => ?_, fun s hask hs hspeed hop hrole hk => ?_,
    fun s row e hp hrole hs hop hpower hf => ?_, fun s row e hp hrole hs hop hpower hf => ?_,
    fun s hask hs => ⟨hmoving hask hs, hbusy hask hs⟩⟩
  · obtain ⟨hmode, hline, hseq, hstore, htracker, hroster, hstate, -⟩ :=
      startStep_blocks (d := popQueue s.dev) hk hrow hs hrole
    obtain ⟨htest, hstrings⟩ := startStep_on (d := popQueue s.dev) hk hrow hs hrole hpower
    refine ⟨_, hstart hask hs hspeed hop, rfl, length_eq_of_getElem?_map hstrings, fun i x hi hx => ?_, htest, hmode,
      hline.trans (popQueue_line s.dev), hseq, hstore, htracker, hroster, hstate⟩
    rw [hstrings, Option.map_eq_some_iff] at hx
    obtain ⟨y, -, rfl⟩ := hx
    rw [if_pos (show i < stringCount (popQueue s.dev) from hi)]
    exact ⟨rfl, rfl, rfl⟩
  · obtain ⟨hmode, hline, hseq, hstore, -, -, -, hpower'⟩ := startStep_blocks (d := popQueue s.dev) hk hrow hs hrole
    obtain ⟨htest, hstrings⟩ := startStep_off (d := popQueue s.dev) hk hrow hrole hpower
    refine ⟨_, hstart hask hs hspeed hop, rfl, length_eq_of_getElem?_map hstrings, fun i x hi hx => ?_, htest, hmode, hpower',
      hline.trans (popQueue_line s.dev), hseq, hstore⟩
    rw [hstrings, Option.map_eq_some_iff] at hx
    obtain ⟨y, -, rfl⟩ := hx
    rw [if_pos (show i < stringCount (popQueue s.dev) from hi)]
    exact ⟨rfl, rfl, rfl, rfl⟩
  · have hbegun := stepBegun_strings (d := popQueue s.dev) hrole
    have hstrings := stepBegun_getElem? (d := popQueue s.dev) hrole
    refine ⟨_, hstart hask hs hspeed hop, rfl, ?_⟩
    rw [startStep_row (d := popQueue s.dev) hk]
    refine ⟨by simpa using length_eq_of_getElem?_map hstrings, ?_, ?_⟩
    · rw [List.all_eq_true]
      intro x hx
      obtain ⟨i, hi⟩ := List.mem_iff_getElem?.mp hx
      simp only [startTestFetch_frame, hstrings, Option.map_eq_some_iff] at hi
      obtain ⟨y, -, rfl⟩ := hi
      rfl
    · simp [startTestFetch_store, startTestFetch_seq, hbegun, popQueue_line]
  · obtain ⟨hseq, hsound, hdamaged⟩ := fetchCompletes_row_blocks hs hf
    obtain ⟨hlength, hon, -⟩ := fetchCompletes_row_strings hs hop hf
    obtain ⟨htest, hstrings⟩ := hon hpower
    refine ⟨_, exec_fetchComplete hp, rfl, hlength, fun i x hi hx => ?_, fun i x y hi hy hx => ?_, htest, hseq, hsound, hdamaged⟩
    · rw [hstrings i hi, Option.map_eq_some_iff] at hx
      obtain ⟨y, -, rfl⟩ := hx
      exact ⟨rfl, rfl, rfl⟩
    · rw [hstrings i hi, hy] at hx
      obtain rfl := Option.some.inj hx
      exact ⟨rfl, rfl⟩
  · obtain ⟨hseq, -, -⟩ := fetchCompletes_row_blocks hs hf
    obtain ⟨hlength, -, hoff⟩ := fetchCompletes_row_strings hs hop hf
    obtain ⟨htest, hstrings⟩ := hoff hpower
    refine ⟨_, exec_fetchComplete hp, rfl, hlength, fun i x y hi hx hy => ?_, htest, by simp, hseq⟩
    rw [hstrings i hi, hx] at hy
    obtain rfl := Option.some.inj hy
    exact ⟨rfl, rfl, rfl, rfl, rfl⟩

/-- Settles O43: `powerComesOn` is the fire of the waiting strings and the dwell test, `fireWaiting_getElem?` says which strings fire. -/
theorem powerComesOnAndInrushEnds : Obligations.PowerComesOnAndInrushEnds := by
  unfold Obligations.PowerComesOnAndInrushEnds
  refine ⟨fun s arm n hpowered hp hidle hop hstate hdue => ?_, fun s arm n hpowered hp hidle hstate hop => ?_,
    fun s arm n hpowered hp hidle hop => ⟨fun hstate hdue => ?_, fun hstate hdue => ?_⟩, fun s k n x hpowered hx hn => ?_⟩
  · have hexec := exec_wakeTimeEnd arm hpowered
    have hmay := mayEnergise_powerIsOn arm hstate
    rw [powerComesOn_fires arm hp hidle hop hstate hdue] at hexec
    refine ⟨_, hexec, rfl, by simp [powerIsOn], fireWhere_elsewhere _ _,
      fun hmode hblank hdone i x hi hx hchain hpattern hwaiting => ?_, fun i x hx hwaiting => ?_,
      fun hweave hmode hblank hdone => ⟨?_, fun i x hi hx hchain hpattern hwaiting => ?_⟩⟩
    · exact fireWaiting_powerIsOn hi hx
        ((mayFireWaiting_iff _ _).mpr ⟨hwaiting, hpattern, hblank, hmay, hdone, .inl ⟨hmode, hchain⟩⟩)
    · rw [fireWaiting_getElem?, show (powerIsOn arm s.dev).strings.strings[i]? = some x from hx]
      simp [mayFireWaiting_of_not_waiting _ hwaiting]
    · exact fireWhere_fire (d := powerIsOn arm s.dev) (by simp [firesByAngle, powerIsOn, hmode])
    · exact fireWaiting_powerIsOn hi hx
        ((mayFireWaiting_iff _ _).mpr ⟨hwaiting, hpattern, hblank, hmay, hdone, .inr ⟨hmode, hchain⟩⟩)
  · have hexec := exec_wakeTimeEnd arm hpowered
    obtain ⟨htest, hstrings⟩ := stepFires_powerIsOn arm hstate
    rw [powerComesOn_step arm hp hidle hstate hop] at hexec
    refine ⟨_, hexec, rfl, ?_, by simp [powerIsOn], htest, length_eq_of_getElem?_map hstrings, fun i x hi hx => ?_⟩
    · refine Device.ext_blocks ?_ ?_ ?_ ?_ ?_ rfl rfl ?_ ?_ ?_ ?_ <;> simp [powerIsOn]
    · rw [hstrings, hx, Option.map_some, if_pos hi]
      rfl
  · exact (exec_wakeTimeEnd arm hpowered).trans (by rw [powerComesOn_ready arm hp hidle hop hstate hdue]; rfl)
  · have hexec := exec_wakeTimeEnd arm hpowered
    rw [powerComesOn_dwelled arm hp hidle hop hstate hdue] at hexec
    refine ⟨_, hexec, rfl, rfl, ?_, ?_, by simp [powerIsOn], by simp [powerIsOn]⟩
    · rw [powerOff_strings]
      exact (List.length_map _).trans (length_eq_of_getElem?_map (fireWaiting_getElem? (powerIsOn arm s.dev)))
    · simp [powerOff_strings, unpowered]
  · exact (completed_powered hpowered).trans (by rw [inrushEnds_eq hx hn])

/-- Settles O50: the steps onto a fire angle by `walked_atAngle`, K by `captureAndTest_getElem?` and the test's report, D by
`pickEnded_rests`, `pickEnded_map` and the test still outstanding. -/
theorem stringsFireCaptureAndRelease : Obligations.StringsFireCaptureAndRelease := by
  unfold Obligations.StringsFireCaptureAndRelease
  refine ⟨fun a b dt sense s c f hr hweave hrole hmode hgoes hs hb hc hk hd => ?_,
    fun a b dt sense s c hr hrole hat hgoes hs hnone => ?_, fun a b dt sense s c hr hrole hat hgoes hs hnone => ?_,
    fun a b dt sense s c f hr hweave hrole hmode hgoes hs hb hc => ?_⟩
  · obtain ⟨t, hexec, hpending, hlength, hseq, hstrings⟩ :=
      walked_atAngle (dt := dt) (sense := sense) hr hweave hrole hgoes hs hb hc (.inr ⟨hmode, hk, hd⟩)
    refine ⟨t, hexec, hpending, hlength, by rw [hseq], by rw [hseq], fun i x hi hx hoff => ?_⟩
    obtain ⟨hfires, hwaits, hspares⟩ := hstrings i x hi hx hoff
    exact ⟨hfires, hwaits, hspares⟩
  · have hexec := exec_onto_k dt sense hr hrole hat hgoes hs hnone
    rw [fireForwardK_eq] at hexec
    obtain ⟨hdone, hlength, hfire⟩ := captureAndTest_driver (walked .forward dt sense s.dev)
    refine ⟨_, hexec, rfl, hdone, hlength.trans walked_length, fun i x hi hx => ?_, fun hmissed hclear => ?_,
      fun hquiet => ?_, fun hset => by simp [hfire, hset], fun hset => by simp [hfire, hset]⟩
    · have hcaptured := captureAndTest_getElem? (by simpa using hi) (walked_getElem? (dir := .forward) (dt := dt) (sense := sense) hx)
      simp only [walked_frame, walked_strings] at hcaptured
      simp only [onFire_frame, hcaptured]
      refine ⟨fun hfired => ?_, fun hpending hblank hclear => ?_, fun hfired hspared => ?_⟩
      · simp [captureString_fired _ _ (x := { x with drive := elapseDrive (inrushTicks s.dev) dt.ticks x.drive }) hfired, givenUp]
      · rw [captureString_of_ne _ _ (by simp [hpending])]
        simp [givenUp, hpending, hblank, hclear]
      · rw [captureString_of_ne _ _ (by exact hfired)]
        rcases hspared with h | h | h <;> simp [givenUp, h]
    · have htold := captureAndTest_missed (d := walked .forward dt sense s.dev) (by simpa using hclear) (by rwa [someMissed_walked])
      simpa [flagOf, flagNumber] using htold
    · obtain ⟨hseq, hcontrol⟩ := captureAndTest_quiet (d := walked .forward dt sense s.dev)
        (by simpa [someMissed_walked] using hquiet)
      simp [hseq, hcontrol]
  · have hexec := exec_onto_d dt sense hr hrole hat hgoes hs hnone
    have hkept {β : Type} {g : SelString → β} (h : ∀ x top n, g { x with drive := elapseDrive top n x.drive } = g x) :
        (walked .forward dt sense s.dev).strings.strings.map g = s.dev.strings.strings.map g := by
      simp [beforeStep_stringDriver, Function.comp_def, h]
    have hlength := outstandingMissTest_length (walked .forward dt sense s.dev)
    refine ⟨_, hexec, rfl, rfl, ?_, pickEnded_rests _, ?_, ?_, fun hmade => ?_, fun hdue hweave => ?_⟩
    · exact (pickEnded_length _).trans (hlength.trans walked_length)
    · exact (pickEnded_map (fun _ => rfl) _).trans
        ((outstandingMissTest_map (fun x => (givenUp_kept x).1) _).trans (hkept fun _ _ _ => rfl))
    · exact (pickEnded_map (fun _ => rfl) _).trans
        ((outstandingMissTest_map (fun x => (givenUp_kept x).2) _).trans (hkept fun _ _ _ => rfl))
    · have hmode : (walked .forward dt sense s.dev).strings.mode ≠ .forward ∨
          (walked .forward dt sense s.dev).strings.missTested = true := by
        simp only [walked_strings]
        refine hmade.symm.imp_left fun htest => ?_
        simp_all [capturesAtK]
      rw [outstandingMissTest_made hmode]
      exact ⟨(pickEnded_map (fun _ => rfl) _).trans (hkept fun _ _ _ => rfl), by simp⟩
    · have hforward : s.dev.strings.mode = .forward := by simpa [capturesAtK, hweave] using hat
      rw [outstandingMissTest_due (by simpa using hforward) (by simpa using hdue)]
      rw [← someMissed_walked .forward dt sense, someMissed_eq]
      refine ⟨fun hmissed => ?_, fun hmissed => ?_⟩
      · simp only [Bool.and_eq_true, Bool.not_eq_true'] at hmissed
        obtain ⟨hflag, hvoid⟩ := missTest_missed hmissed.1 hmissed.2
        exact ⟨by simpa [flagOf, flagNumber] using hflag, by simpa using hvoid (by simpa using hweave)⟩
      · have hquiet := missTest_quiet (d := walked .forward dt sense s.dev) (by simpa [imp_iff_not_or] using hmissed)
        simpa using hquiet.1
  · obtain ⟨t, hexec, hpending, hlength, hseq, hstrings⟩ :=
      walked_atAngle (dt := dt) (sense := sense) hr hweave hrole hgoes hs hb hc (.inl hmode)
    exact ⟨t, hexec, hpending, hlength, hseq, fun i x hi hx hoff => (hstrings i x hi hx hoff).fires⟩

/-- Settles O51: the turns by `steppedOnto_turned_forward` with `fireTurn_hands` and by `steppedOnto_turned_back`, the reverse
crossings by `stringsReverseD_getElem?`, `stringsReverseK_getElem?` and `pickEnded_rests`. -/
theorem turnsAndReverseSelection : Obligations.TurnsAndReverseSelection := by
  unfold Obligations.TurnsAndReverseSelection
  refine ⟨fun dir a b dt sense s c x hr hweave hrole hmode hturns hs hb hc hw hk hd hnone => ?_,
    fun a b dt sense s c hr hweave hrole hmode hgoes hs => ?_, fun a b dt sense s c hr hweave hrole hmode hgoes hs => ?_,
    fun a b dt sense s c hr hweave hrole hmode hgoes hs => ?_,
    fun dir a b dt sense s c x hr hweave hrole hmode hopen hset hturns hs hb hw hk hd => ?_⟩
  all_goals
    obtain ⟨-, hconfig, hsound, -⟩ := (referencedBy_iff c s.dev).mp hr
    rw [hrole] at hsound
  · obtain ⟨t, p, hexec, hpending, ⟨htaken, hpfire, hpconfig, hcount⟩, hstrings, hfire, hforward, hdone, hseq⟩ :=
      exec_turned_forward dt sense hr hweave hrole hmode hturns hs hb hc hw hk hd hnone
    rw [hconfig] at hpconfig
    refine ⟨t, hexec, hpending, ?_⟩
    rw [hstrings, hfire, ← hpfire]
    refine ⟨hforward, hdone, by rw [strings_length_congr (fireTurn_latencies p), htaken, List.length_map],
      by rw [hseq], by rw [hseq],
      fun hidle => ?_, fun hbusy => ?_, fun hcomputed => fireTurn_unfired hpconfig hcomputed,
      fun i y hi hy hrec => ⟨fun hquiet => ?_, fun hcomputed => ?_⟩⟩
    · simp [fireTurn_idle hidle, hidle]
    · cases hphase : p.fire.phase with
      | idle => exact absurd hphase hbusy
      | held => rw [fireTurn_held hphase, hphase]
      | set | past => exact fireTurn_phase hpconfig (by simp [hphase])
    · have hkept : (fireTurn p).strings.strings = p.strings.strings := by
        rcases hquiet with h | h
        · rw [fireTurn_idle h]
          rfl
        · rw [fireTurn_held h]
      simp [hkept, htaken, hy, takeBack_eq]
    · have hz : p.strings.strings[i]? = some (takeBack .pending y) := by simp [htaken, hy]
      obtain ⟨r, hr⟩ : ∃ r, p.fire.strings[i]? = some r := ⟨_, List.getElem?_eq_getElem hrec⟩
      obtain ⟨hhanded, hbasis⟩ := fireTurn_hands hpconfig hcomputed (hcount ▸ hi) hr hz
      exact ⟨by rw [hhanded, handString_takeBack, takeBack_eq], hbasis⟩
  · have hexec := exec_reverse dt sense hr hweave hrole hgoes hs
    rw [reverseCrossings_at_d hsound] at hexec
    have hreverse : (walked .reverse dt sense s.dev).strings.mode = .reverse := by simpa using hmode
    refine ⟨_, hexec, rfl, (stringsReverseD_length hreverse).trans walked_length, by simp, fun i x hi hx hresting => ?_⟩
    have hready := walked_ready (dir := .reverse) (dt := dt) (sense := sense) (.inl hweave)
    have hwalked := walked_getElem? (dir := .reverse) (dt := dt) (sense := sense) hx
    refine ⟨fun hpattern hblank hpower => ?_, fun hnot => ?_⟩
    · have hfires := stringsReverseD_fires hreverse (by simpa using hi) hwalked hresting
      exact hfires ((hready _).mpr ⟨hpattern, hblank, hpower⟩)
    · have hwaits := stringsReverseD_waits hreverse (by simpa using hi) hwalked hresting
      refine hwaits (Bool.eq_false_iff.mpr fun h => ?_)
      obtain ⟨hpattern, hblank, hpower⟩ := (hready _).mp h
      simp_all
  · have hexec := exec_reverse dt sense hr hweave hrole hgoes hs
    rw [reverseCrossings_at_k hsound] at hexec
    have hreverse : (walked .reverse dt sense s.dev).strings.mode = .reverse := by simpa using hmode
    obtain ⟨hdone, hlength⟩ := stringsReverseK_driver hreverse
    refine ⟨_, hexec, rfl, hdone, hlength.trans walked_length, by simp, fun i x hi hx => ?_⟩
    have hcrossed := stringsReverseK_getElem? hreverse (by simpa using hi) (walked_getElem? hx)
    refine ⟨fun hfired hwaiting => hcrossed.trans ?_, fun hfired hwaiting => ⟨hcrossed.trans ?_, fun hblank => ?_⟩⟩
    · rw [captureString_fired _ _ (by exact hfired)]
      simp [hwaiting]
    · rw [captureString_of_ne _ _ (by exact hfired)]
      simp [hwaiting]
    · have hflag := stringsReverseK_missed hreverse (by simpa using hi) (walked_getElem? hx) hfired hwaiting (by simpa using hblank)
      simpa [flagOf, flagNumber] using hflag
  · have hexec := exec_reverse dt sense hr hweave hrole hgoes hs
    have hreverse : (walked .reverse dt sense s.dev).strings.mode = .reverse := by simpa using hmode
    rw [reverseCrossings_at_w hsound, stringsReverseW_ended hreverse] at hexec
    exact ⟨_, hexec, rfl, rfl, (pickEnded_length _).trans walked_length, by simp, pickEnded_rests _⟩
  · have hexec := exec_onto dt sense hr hs
    rw [hrole] at hexec
    obtain ⟨hdone, htaken, hstate⟩ := steppedOnto_turned_back (dt := dt) (sense := sense) hturns hs (.inl hweave) (.inl hmode) hset
    obtain ⟨hstrings, -, -⟩ := crossingsOf_apart (dir := dir) (d := steppedOnto dir dt sense s.dev) hb hw hk hd
      (.inr (by simp [hopen]))
    refine ⟨_, hexec, rfl, by simpa [hstrings] using hmode, by simp [hstrings, htaken], fun i y hy => ?_⟩
    rw [hstrings, htaken, List.getElem?_map, hy, hmode, Option.map_some, takeBack_eq]
    simp [backTo, or_comm]

/-- Settles O52: B by `openTestPick_driver` and the strings of `testPickOpened_getElem?`, W by `fallDue_fires` and `fallDue_waits`, the
turn by `steppedOnto_turned_back`. -/
theorem turningTestPick : Obligations.TurningTestPick := by
  unfold Obligations.TurningTestPick
  refine ⟨fun a b dt sense s c k hr hstate hrole hop hpattern hk hs => ?_,
    fun a b dt sense s c hr hstate hrole hop hpattern hs => ?_,
    fun a b dt sense s c hr hstate hrole hop hmode hgoes hs => ?_,
    fun dir a b dt sense s c x hr hstate hrole hop hmode hset hturns hs hb hw hk hd => ?_⟩
  · obtain ⟨t, e, hexec, hpending, ⟨hmode, hblank, hdone, hstep, hlength⟩, htest, hpos, hstrings, hstore, hsame, hcount,
      hkept⟩ :=
      exec_opens_test dt sense hr hstate hop hpattern hs
    rw [openTestPick_pattern (by rwa [hsame]) hk] at hstrings hstore
    refine ⟨t, hexec, hpending, hmode, hblank, hdone, hstep, hlength, htest, hpos, ?_, fun i x hi hx => ?_⟩
    · rw [hstore]
      simpa using hkept
    · have hshifted := shiftAll_of_not_waiting (fun _ => testBits k e.strings.test.step) (testPickOpened_not_waiting c.w e) i
      have htaken : (shiftAll (fun _ => testBits k e.strings.test.step) (testPickOpened c.w e)).strings.strings[i]? = some x :=
        (congrArg (·[i]?) hstrings).symm.trans hx
      rw [hshifted, testPickOpened_getElem?, stringCount_congr (d := e) (by simp) (by simp), hcount, Option.map_map,
        Option.map_eq_some_iff] at htaken
      obtain ⟨y, -, rfl⟩ := htaken
      simp [hi, shifted, freshString, hsame]
  · obtain ⟨t, e, hexec, hpending, ⟨hmode, hblank, hdone, hstep, hlength⟩, htest, hpos, hstrings, hstore, hsame, hcount,
      -⟩ :=
      exec_opens_test dt sense hr hstate hop hpattern hs
    rw [openTestPick_row (by rwa [hsame])] at hstrings hstore
    refine ⟨t, hexec, hpending, hmode, hblank, hdone, hstep, hlength, htest, hpos, ?_, ?_, fun i x hi hx => ?_⟩
    · rw [hstore, hsame]
      rfl
    · rw [hstore]
      rfl
    · have hopened : (testPickOpened c.w e).strings.strings[i]? = some x := (congrArg (·[i]?) hstrings).symm.trans hx
      rw [testPickOpened_getElem?, hcount, Option.map_eq_some_iff] at hopened
      obtain ⟨y, -, rfl⟩ := hopened
      simp [hi, freshString]
  · have hexec := exec_fires_test dt sense hr hstate hrole hop hmode hgoes hs
    refine ⟨_, hexec, rfl, (strings_length_congr (fallDue_latencies _ _)).trans walked_length, by simp, by simp [fallDue_fire],
      fun i x hi hx hpending hwaiting hblank => ?_⟩
    have hwalked := walked_getElem? (dir := .forward) (dt := dt) (sense := sense) hx
    have hready := walked_ready (dir := .forward) (dt := dt) (sense := sense) (.inr hstate)
    refine ⟨fun hpattern hpower => ?_, fun hnot => ?_⟩
    · have hfires := fallDue_fires (p := fun _ _ => true) (by simpa using hi) hwalked (by simp [fallsDue, hpending, hwaiting])
      exact hfires ((hready _).mpr ⟨hpattern, hblank, hpower⟩)
    · have hwaits := fallDue_waits (p := fun _ _ => true) (by simpa using hi) hwalked hpending rfl (by simpa using hblank)
      refine hwaits (Bool.eq_false_iff.mpr fun h => ?_)
      obtain ⟨hpattern, -, hpower⟩ := (hready _).mp h
      simp_all
  · have hexec := exec_onto dt sense hr hs
    rw [hrole] at hexec
    obtain ⟨hdone, htaken, hkept⟩ :=
      steppedOnto_turned_back (dt := dt) (sense := sense) hturns hs (.inr hstate) (.inr ⟨hmode, hop⟩) hset
    obtain ⟨hstrings, -, -⟩ := crossingsOf_apart (dir := dir) (d := steppedOnto dir dt sense s.dev) hb hw hk hd
      (.inr (by simp [inWeave, hkept, hstate]))
    refine ⟨_, hexec, rfl, by simpa [hstrings] using hmode, by simp [hstrings, hdone], fun i y hy => ?_⟩
    rw [hstrings, htaken, List.getElem?_map, hy, hmode, Option.map_some, takeBack_eq]
    simp [backTo, or_comm]

/-- Settles O35: TEST BEGIN changes strings, test and state; TEST END leaves TEST and enters READY, where the dwell test touches the
strings alone. -/
theorem testBeginsAndEnds : Obligations.TestBeginsAndEnds := by
  unfold Obligations.TestBeginsAndEnds
  refine ⟨fun s p k hask hs hrole hlength hk hrow => ?_, fun s hask hs => ?_, fun s p hask hs => ⟨fun hrole => ?_, fun hrole hbad => ?_⟩⟩
  · refine ⟨_, exec_request hask (by simp [hs, takenIn]), rfl, ?_⟩
    rw [runTestBegin_accepted (d := popQueue s.dev) hrole hlength hk hrow]
    have hstrings := freshStrings_dropAll_strings s.dev
    have hbegun : answer .testBegin .done (beginTest k (fieldAt p 1 2) (popQueue s.dev)) =
        { beginTest k (fieldAt p 1 2) s.dev with line := answered .testBegin .done noDetail [] s.dev } :=
      answer_popQueue .testBegin .done (beginTest k (fieldAt p 1 2) s.dev)
    rw [hbegun, beginTest_eq, hstrings]
    refine ⟨rfl, ?_, ?_⟩
    · simp [freshString]
    · simp [freshString]
  · refine ⟨_, exec_request hask (by simp [hs, takenIn]), rfl, ?_⟩
    rw [runTestEnd, withLength, if_pos List.length_nil]
    have hstrings := leaveTest_strings (popQueue s.dev)
    have hfetch := leaveTest_fetch (popQueue s.dev)
    have hframe := leaveTest_frame (popQueue s.dev)
    generalize leaveTest (popQueue s.dev) = l at *
    have hready : ∀ x ∈ (enterReady l).strings.strings, x.drive = .off ∧ x.chain = .resting :=
      dwellTest_rest (setState .ready l) (by simp [setState, hstrings]) (by simpa [setState, hstrings] using restAll_off _)
    refine ⟨?_, answer_line ?_ ?_, ?_, ?_, ?_, ?_, ?_, ?_⟩
    · simp [enterReady, setState, hframe]
    · simp [enterReady, setState, hframe]
    · simp [enterReady, setState, hframe]
    · simp [enterReady_length, hstrings]
    · simpa using hready
    · simp [enterReady, setState, hstrings]
    · simp [enterReady_test, hstrings]
    · simpa [enterReady, setState] using hfetch
    · simp [enterReady, setState, hframe]
  · exact exec_request_answer hask (by simp [hs, takenIn]) (runTestBegin_weft p hrole)
  · exact exec_request_answer hask (by simp [hs, takenIn]) (runTestBegin_refused hrole hbad)

/-- Settles O37: capture, rest and step number are one change of the station, and the reply changes the line alone. -/
theorem testStepIsCaptured : Obligations.TestStepIsCaptured := by
  unfold Obligations.TestStepIsCaptured
  intro s sense n hpower hop
  have hexec : exec (.testStepCapture sense) s = .next ⟨completeWith
      (replyFrame s.dev .testStep .done noDetail (be16 s.dev.strings.test.step)) (stepTaken sense s.dev), s.pending⟩ := by
    rw [← stepCaptured_eq sense hop]
    exact completed_powered hpower
  obtain ⟨htracker, hseq, hstore, hline, hroster, hcontrol⟩ := stepTaken_frame sense s.dev
  refine ⟨_, hexec, rfl, ?_, ?_, ?_, ?_, ?_, fun hslot hwaits => ?_, fun htaken => ?_, ?_⟩
  · simpa using stepTaken_length sense s.dev
  · intro i x y hi hx hy hfired
    simp only [completeWith_frame, stepTaken_getElem?, hx] at hy
    obtain rfl := Option.some.inj hy
    simp [hi, captureString_fired _ _ hfired]
  · simpa using stepTaken_rest sense s.dev
  · simpa using stepTaken_test sense s.dev
  · simpa using stepTaken_mode sense s.dev
  · rw [completeWith_free (by rwa [hline]) (by rwa [hline]), hline]
  · rw [completeWith_taken (by rwa [hline]), hline]
  · simp

end Sys2Proof.Machine
end

section
/-! SUPPORT. Latency training string by string (R143 to R147): the string under training, the end of a run, and what the pre-checks
leave. -/

namespace Sys2Proof.Machine

/-! ## The string under training -/

/-- Changes the string numbered `k`. -/
def onString (k : Nat) (f : SelString → SelString) (d : Device) : Device :=
  onStrings (fun g => { g with strings := g.strings.modify k f }) d

theorem onString_getElem? (k : Nat) (f : SelString → SelString) (d : Device) (i : Nat) :
    (onString k f d).strings.strings[i]? = (fun x => if k = i then f x else x) <$> d.strings.strings[i]? :=
  List.getElem?_modify f k d.strings.strings i

theorem onString_set {k : Nat} {f : SelString → SelString} {d : Device} {x : SelString} (hx : d.strings.strings[k]? = some x) :
    onString k f d = { d with strings := { d.strings with strings := d.strings.strings.set k (f x) } } := by
  simp [onString, onStrings, List.modify_eq_set_getElem?, hx]

theorem onString_onString (k : Nat) (f g : SelString → SelString) (d : Device) :
    onString k g (onString k f d) = onString k (g ∘ f) d := by
  simp [onString, onStrings, List.modify_modify_eq]

/-- The string under training is the one the trainer's number names. -/
theorem onCurrent_eq (f : SelString → SelString) {d : Device} (h : d.trainer.cur < stringCount d) :
    onCurrent f d = onString d.trainer.cur f d := by
  unfold onCurrent mapStrings onString onStrings
  dsimp only
  congr 2
  refine List.ext_getElem? fun i => ?_
  rw [List.getElem?_mapIdx, List.getElem?_modify]
  by_cases hi : i = d.trainer.cur
  · simp [hi, h]
  · simp [hi, Ne.symm hi]

/-- A trial of the current string begins, the trainer's counts having been set (R145). -/
theorem startTrial_onTrainer {g : Trainer → Trainer} {d : Device} (hg : (g d.trainer).cur = d.trainer.cur)
    (h : d.trainer.cur < stringCount d) :
    startTrial (onTrainer g d) = onTrainer (fun t => { g t with phase := .trial, timer := 0 })
      (onString d.trainer.cur (fun x => { x with drive := .inrush 0 }) d) := by
  rw [startTrial, onCurrent_eq (d := onTrainer g d) _ (show (g d.trainer).cur < stringCount d by rwa [hg]), onTrainer_trainer, hg]
  rfl

/-! ## What the strings have learned -/

/-- The training result and L_s of each string, in order. -/
def learned (d : Device) : List (TrainResult × Option Nat) := d.strings.strings.map fun x => (x.result, x.latency)

section
variable {d t : Device} (h : learned t = learned d)
include h

theorem learned_length : t.strings.strings.length = d.strings.strings.length := by
  simpa [learned] using congrArg List.length h

theorem learned_results : t.strings.strings.map (·.result) = d.strings.strings.map (·.result) := by
  simpa [learned, Function.comp_def] using congrArg (List.map Prod.fst) h

theorem learned_latencies : t.strings.strings.map (·.latency) = d.strings.strings.map (·.latency) := by
  simpa [learned, Function.comp_def] using congrArg (List.map Prod.snd) h

theorem learned_string {i : Nat} {x : SelString} (hx : d.strings.strings[i]? = some x) :
    ∃ y, t.strings.strings[i]? = some y ∧ y.result = x.result ∧ y.latency = x.latency := by
  have hi : (learned t)[i]? = some (x.result, x.latency) := by
    rw [h]
    simp [learned, hx]
  simpa [learned] using hi

end

theorem mapAllStrings_learned {f : SelString → SelString} (h : ∀ x, (f x).result = x.result ∧ (f x).latency = x.latency)
    (d : Device) : learned (mapAllStrings f d) = learned d := by
  simp [learned, mapAllStrings_strings, h]

@[simp] theorem dwellTest_learned (d : Device) : learned (dwellTest d) = learned d := by
  obtain e | e := dwellTest_cases d <;> rw [e]
  exact mapAllStrings_learned (f := unpowered d.strings.mode) (fun _ => ⟨rfl, rfl⟩) (setPower .off d)

@[simp] theorem enterReady_learned (d : Device) : learned (enterReady d) = learned d := dwellTest_learned (setState .ready d)

@[simp] theorem trainerIdle_learned (d : Device) : learned (trainerIdle d) = learned d :=
  mapAllStrings_learned (f := fun x => { x with chain := .resting, drive := .off }) (fun _ => ⟨rfl, rfl⟩) d

theorem trainComplete_learned (d : Device) : learned (trainComplete d) = learned d := by
  simp only [trainComplete, enterReady_learned, trainerIdle_learned]
  rfl

/-! ## The end of a run (R147) -/

/-- A string at rest loses no selection with string power (R128). -/
theorem unpowered_resting {m : PickMode} {x : SelString} (h : x.chain = .resting) : (unpowered m x).chain = .resting := by
  cases m <;> simp [unpowered, losesSelection, h]

/-- Entering READY leaves strings at rest at rest (R127, R128). -/
theorem enterReady_rest {d : Device} (h : ∀ x ∈ d.strings.strings, x.drive = .off ∧ x.chain = .resting) :
    ∀ x ∈ (enterReady d).strings.strings, x.drive = .off ∧ x.chain = .resting := by
  obtain e | e := dwellTest_cases (setState .ready d) <;> rw [enterReady, e]
  · exact h
  · intro x hx
    obtain ⟨y, hy, rfl⟩ := List.mem_map.mp hx
    exact ⟨rfl, unpowered_resting (h y hy).2⟩

theorem enterReady_control (d : Device) : (enterReady d).control = { d.control with state := .ready } := by
  rw [enterReady, dwellTest_strings_only]
  rfl

theorem trainerIdle_rest (d : Device) : ∀ x ∈ (trainerIdle d).strings.strings, x.drive = .off ∧ x.chain = .resting :=
  restAll_off d

/-- Some string of the station is not TRAINED where not all are, by what the strings have learned. -/
theorem anyString_untrained (d t : Device) (h : learned t = learned d) :
    anyString (fun x => decide (x.result ≠ .trained)) d =
      !(t.strings.strings.take (stringCount d)).all (fun x => decide (x.result = .trained)) := by
  have hresult (e : Device) : (e.strings.strings.take (stringCount d)).all (fun x => decide (x.result = .trained)) =
      ((learned e).take (stringCount d)).all (fun l => decide (l.1 = .trained)) := by
    simp [learned, ← List.map_take, List.all_map, Function.comp_def]
  rw [hresult, h, ← hresult, anyString, List.not_all_eq_any_not]
  simp

theorem trainComplete_control (d : Device) : (trainComplete d).control = { d.control with
    state := .ready
    flags := d.control.flags ||| BitVec.twoPow 30
      (if ((trainComplete d).strings.strings.take (stringCount d)).all (fun x => decide (x.result = .trained))
        then 20 else 21) } := by
  have hfailed := anyString_untrained d _ (trainComplete_learned d)
  generalize hall : ((trainComplete d).strings.strings.take (stringCount d)).all _ = all at hfailed ⊢
  rw [trainComplete, enterReady_control]
  dsimp only
  rw [hfailed]
  cases all <;> rfl

/-- The run completes with no string left to pre-check. -/
theorem trainComplete_preChecked {k : Nat} (armature : BitVec 8) {d : Device} (h : stringCount d ≤ k) :
    PreChecked k armature d (trainComplete d) := by
  have hlearned := trainComplete_learned d
  refine ⟨?_, learned_length hlearned, fun i x _ hx => learned_string hlearned hx,
    fun j hkj hj => absurd hj (by omega),
    fun _ => ⟨by simp, fun i x hi _ hki => absurd hi (by omega), ?_, trainComplete_control d⟩⟩
  · exact Device.ext_blocks (by simp) (by simp) (by simp) (by simp) (by simp) (by simp) rfl rfl (by simp) rfl (by simp)
  · simpa [trainComplete] using enterReady_rest (trainerIdle_rest _)

/-! ## The pre-checks (R144, R146) -/

/-- A string found held is STUCK, its L_s kept, and the pre-checks go on from the next. -/
theorem PreChecked.skip {k : Nat} {armature : BitVec 8} {d t : Device} {f : SelString → SelString}
    (hstuck : ∀ x, (f x).result = .stuck ∧ (f x).latency = x.latency) (hheld : armature.getLsbD k = true)
    (h : PreChecked (k + 1) armature (onString k f d) t) : PreChecked k armature d t := by
  obtain ⟨hframe, hlength, hbefore, htrial, hcomplete⟩ := h
  have hother {i : Nat} {x : SelString} (hi : i ≠ k) (hx : d.strings.strings[i]? = some x) :
      (onString k f d).strings.strings[i]? = some x := by
    simp [onString_getElem?, hi.symm, hx]
  have hthis {x : SelString} (hx : d.strings.strings[k]? = some x) :
      ∃ y, t.strings.strings[k]? = some y ∧ y.result = .stuck ∧ y.latency = x.latency := by
    obtain ⟨y, hy, hresult, hlatency⟩ := hbefore k (f x) (by omega) (by simp [onString_getElem?, hx])
    exact ⟨y, hy, hresult.trans (hstuck x).1, hlatency.trans (hstuck x).2⟩
  refine ⟨hframe, by simpa [onString] using hlength, fun i x hi hx => hbefore i x (by omega) (hother (by omega) hx),
    fun j hkj hj hfree hheldBefore => ?_, fun hall => ?_⟩
  · have hne : j ≠ k := by
      rintro rfl
      simp [hheld] at hfree
    obtain ⟨hcontrol, htrainer, hskipped, hcurrent⟩ :=
      htrial j (by omega) hj hfree fun i hij hki => hheldBefore i hij (by omega)
    refine ⟨hcontrol, htrainer, fun i x hij hx hki => ?_, fun x hx => hcurrent x (hother hne hx)⟩
    obtain rfl | hik := eq_or_ne i k
    · exact hthis hx
    · exact hskipped i x hij (hother hik hx) (by omega)
  · obtain ⟨hidle, hskipped, hrest, hcontrol⟩ := hcomplete fun i hi hki => hall i hi (by omega)
    refine ⟨hidle, fun i x hi hx hki => ?_, hrest, hcontrol⟩
    obtain rfl | hik := eq_or_ne i k
    · exact hthis hx
    · exact hskipped i x hi (hother hik hx) (by omega)

/-- The station whose string is being pre-checked: place 0 alone stands in the string's output register (R144). -/
def preChecking (d : Device) : Device :=
  onTrainer (fun t => { t with phase := .preCheck })
    (onCurrent (fun x => { x with shiftReg := 1#128, outReg := 1#128, drive := .off }) d)

/-- The first trial of a string (R144, R145). -/
def firstTrial (d : Device) : Device := startTrial (onTrainer (fun t => { t with delay := 100, trial := 1, ones := 0 }) d)

theorem preCheck_succ (n : Nat) (d : Device) : preCheck (n + 1) d =
    if d.pins.armature.getLsbD d.trainer.cur then
      if d.trainer.cur + 1 < stringCount d then
        preCheck n (onTrainer (fun t => { t with cur := t.cur + 1 })
          (onCurrent (fun x => { x with result := .stuck }) (preChecking d)))
      else trainComplete (onCurrent (fun x => { x with result := .stuck }) (preChecking d))
    else firstTrial (preChecking d) := rfl

section
variable {d : Device} (h : d.trainer.cur < stringCount d)
include h

/-- The string under pre-check once it is found held (R144). -/
theorem preChecking_stuck : onCurrent (fun x => { x with result := .stuck }) (preChecking d) =
    onTrainer (fun t => { t with phase := .preCheck }) (onString d.trainer.cur (fun x =>
      { x with shiftReg := 1#128, outReg := 1#128, drive := .off, result := .stuck }) d) := by
  rw [onCurrent_eq (d := preChecking d) _ h, preChecking, onCurrent_eq _ h]
  exact congrArg (onTrainer fun t => { t with phase := .preCheck }) (onString_onString d.trainer.cur _ _ d)

/-- The string under pre-check once it is found free (R144, R145). -/
theorem preChecking_free : firstTrial (preChecking d) =
    onTrainer (fun _ => ⟨.trial, d.trainer.cur, 100, 1, 0, 0⟩) (onString d.trainer.cur (fun x =>
      { x with shiftReg := 1#128, outReg := 1#128, drive := .inrush 0 }) d) := by
  rw [firstTrial, startTrial_onTrainer (d := preChecking d) rfl h, preChecking, onCurrent_eq _ h]
  calc _ = onTrainer (fun _ => ⟨.trial, d.trainer.cur, 100, 1, 0, 0⟩)
        (onString d.trainer.cur (fun x => { x with drive := .inrush 0 })
          (onString d.trainer.cur (fun x => { x with shiftReg := 1#128, outReg := 1#128, drive := .off }) d)) := rfl
    _ = _ := by rw [onString_onString]; rfl

/-- A string found free begins its first trial. -/
theorem firstTrial_preChecked {armature : BitVec 8} (hfree : armature.getLsbD d.trainer.cur = false) :
    PreChecked d.trainer.cur armature d (firstTrial (preChecking d)) := by
  rw [preChecking_free h]
  refine ⟨rfl, by simp [onString], fun i x hi hx => ⟨x, ?_, rfl, rfl⟩, fun j hkj hj hj0 hheld => ?_, fun hall => ?_⟩
  · simp [onString_getElem?, hx, show d.trainer.cur ≠ i by omega]
  · obtain rfl : j = d.trainer.cur := by
      by_contra hne
      simp [hheld d.trainer.cur (by omega) le_rfl] at hfree
    exact ⟨rfl, rfl, fun i x hi _ hki => absurd hi (by omega), fun x hx => by simp [onString_getElem?, hx]⟩
  · simp [hall _ h le_rfl] at hfree

end

/-- The pre-checks from the current string on, with fuel for the strings left, by the strings found held. -/
theorem preCheck_preChecked (n : Nat) {d : Device} (h : d.trainer.cur < stringCount d) (hn : stringCount d ≤ d.trainer.cur + n) :
    PreChecked d.trainer.cur d.pins.armature d (preCheck n d) := by
  induction n generalizing d with
  | zero => exact absurd h (by omega)
  | succ n ih =>
    rw [preCheck_succ]
    split
    · next hheld =>
      rw [preChecking_stuck h]
      refine PreChecked.skip (f := fun x => { x with shiftReg := 1#128, outReg := 1#128, drive := .off, result := .stuck })
        (fun _ => ⟨rfl, rfl⟩) hheld ?_
      split
      · next hnext => exact ih hnext (show stringCount d ≤ d.trainer.cur + 1 + n by omega)
      · next hlast => exact trainComplete_preChecked d.pins.armature (Nat.le_of_not_lt hlast)
    · next hfree => exact firstTrial_preChecked h (by simpa using hfree)

/-- A string that ends hands on to the pre-checks from the next, or completes the run (R146). -/
theorem endString_preChecked (f : SelString → SelString) {d : Device} (h : d.trainer.cur < stringCount d)
    (hcount : stringCount d ≤ 8) :
    PreChecked (d.trainer.cur + 1) d.pins.armature (onString d.trainer.cur f d) (endString f d) := by
  rw [endString, onCurrent_eq _ h, nextTrained]
  split
  · next hnext => exact preCheck_preChecked 8 hnext (hcount.trans (Nat.le_add_left _ _))
  · next hlast => exact trainComplete_preChecked d.pins.armature (Nat.le_of_not_lt hlast)

end Sys2Proof.Machine
end

section
/-! SUPPORT. A training run that begins (R143), at once or as string power comes ON (R127). -/

namespace Sys2Proof.Machine

/-! ## The pre-checks and the dwell test (R127) -/

theorem dwellTest_dwellTest (d : Device) : dwellTest (dwellTest d) = dwellTest d := by
  obtain e | e := dwellTest_cases d
  · rw [e, e]
  · rw [e, dwellTest_eq, if_neg (by simp [powerOff_strings])]

/-- Whether they begin a trial or complete the run, the dwell test that follows the pre-checks does nothing. -/
theorem dwellTest_preCheck (n : Nat) {d : Device} (hs : d.control.state = .train) : dwellTest (preCheck n d) = preCheck n d := by
  induction n generalizing d with
  | zero => exact dwellTest_dwellTest _
  | succ n ih =>
    rw [preCheck_succ]
    split
    · split
      · exact ih (by simpa [preChecking] using hs)
      · exact dwellTest_dwellTest _
    · exact dwellTest_idle (.inl (by simp [firstTrial, preChecking, hs]))

/-- Power that comes ON in a run that waits for it goes on to the pre-checks (R127, R143). -/
theorem powerComesOn_training (armature : BitVec 8) {d : Device} {n : Nat} (hs : d.control.state = .train)
    (hp : d.strings.power = .waking n) (hphase : d.trainer.phase = .waking) (hmode : d.strings.mode = .none)
    (hop : d.strings.test.op = .idle) : powerComesOn armature d = preCheck 8 (powerIsOn armature d) := by
  have hidle : (powerIsOn armature d).strings.test.op = .idle := hop
  have hnone : fireWaiting (powerIsOn armature d) = powerIsOn armature d := fireWhere_of_none fun i x _ => by
    simp [mayFireWaiting, powerIsOn, hmode]
  unfold powerComesOn
  rw [hp]
  dsimp only
  rw [show onPins _ (setPower .on d) = powerIsOn armature d from rfl, hnone, hidle]
  dsimp only
  rw [if_pos (show (powerIsOn armature d).trainer.phase = .waking from hphase)]
  exact dwellTest_preCheck 8 hs

/-! ## TRAIN (R143) -/

/-- The station as a training run begins, before its pre-checks (R143). -/
def trainingBegun (armature : BitVec 8) (d : Device) : Device :=
  { d with
    control := { d.control with state := .train }
    trainer := { d.trainer with cur := 0, phase := if d.strings.power = .on then d.trainer.phase else .waking }
    strings := { d.strings with
      power := if d.strings.power = .off then .waking 0 else d.strings.power
      mode := .none
      strings := d.strings.strings.map fun x => { x with
        chain := .resting, pattern := false, latched := false, waiting := false, echo := false
        drive := .off, result := .notRun } }
    pins := { d.pins with armature := armature } }

/-- With power ON the pre-checks are made at once. -/
theorem startTraining_on (armature : BitVec 8) {d : Device} (h : d.strings.power = .on) :
    startTraining armature d = preCheck 8 (trainingBegun armature d) := by
  simp [startTraining, trainingBegun, wakePower, h, setState, onPins, onControl, mapAllStrings, onStrings, onTrainer]

/-- The trainer waits for power that is not ON, woken from OFF. -/
theorem startTraining_waits (armature : BitVec 8) {d : Device} (hrole : d.control.role = .sectionRole)
    (h : d.strings.power ≠ .on) : startTraining armature d = trainingBegun armature d := by
  by_cases hoff : d.strings.power = .off
  · simp [startTraining, trainingBegun, wakePower, isSection, hoff, hrole, setState, onPins, onControl, mapAllStrings, onStrings,
      onTrainer, setPower]
  · simp [startTraining, trainingBegun, wakePower, hoff, h, setState, onPins, onControl, mapAllStrings, onStrings, onTrainer]

/-- A reply placed by what leaves the line and the station number as the queue's rest has them changes the line alone. -/
theorem answer_eq {r : Request} {res : Result} {x d : Device} (hline : x.line = (popQueue d).line)
    (hnumber : x.control.number = d.control.number) :
    answer r res x = { x with line := answered r res noDetail [] d } := by
  rw [← answer_line hline hnumber]
  rfl

theorem runTrain_weft (armature : BitVec 8) (p : List Byte) {d : Device} (h : d.control.role = .weftRole) :
    runTrain armature p d = answer .train .role d := by
  simp [runTrain, isWeft, h]

theorem runTrain_moving (armature : BitVec 8) {d : Device} (hrole : d.control.role = .sectionRole)
    (h : d.tracker.speed ≠ .stalled) : runTrain armature [] d = answer .train .moving d := by
  simp [runTrain, isWeft, hrole, withLength, stalledNow, h]

theorem runTrain_stalled (armature : BitVec 8) {d : Device} (hrole : d.control.role = .sectionRole)
    (h : d.tracker.speed = .stalled) : runTrain armature [] d = answer .train .done (startTraining armature d) := by
  simp [runTrain, isWeft, hrole, withLength, stalledNow, h]

/-- TRAIN on a standing section station begins the run and is answered DONE. -/
theorem exec_train {s : State} {armature : BitVec 8} (hask : asked .train [] s.dev = true) (hs : s.dev.control.state = .ready)
    (hrole : s.dev.control.role = .sectionRole) (hstalled : s.dev.tracker.speed = .stalled) :
    exec (.train armature) s = .next { s with dev :=
      { startTraining armature (popQueue s.dev) with line := answered .train .done noDetail [] s.dev } } := by
  have hrun : completed (takeRequest .train discarded (runTrain armature)) s = _ := exec_request hask (by simp [hs, takenIn])
  rw [runTrain_stalled armature (d := popQueue s.dev) hrole hstalled, answer_eq (d := s.dev) (by simp) (by simp)] at hrun
  exact hrun

/-- The pre-checks are the same whatever stands on the line. -/
theorem PreChecked.withLine {k : Nat} {armature : BitVec 8} {d t : Device} (h : PreChecked k armature d t) (l : Line) :
    PreChecked k armature { d with line := l } { t with line := l } := by
  obtain ⟨hframe, hclauses⟩ := h
  exact ⟨congrArg (fun x : Device => { x with line := l }) hframe, hclauses⟩

end Sys2Proof.Machine
end

section
/-! SUPPORT. The trials of a string: the end of a rest, case by case (R145, R146). -/

namespace Sys2Proof.Machine

/-- The armature inputs stand as read. -/
def armatureRead (armature : BitVec 8) (d : Device) : Device := onPins (fun p => { p with armature := armature }) d

/-! ## The end of a rest (R145, R146) -/

section
variable {armature : BitVec 8} {d : Device} (hphase : d.trainer.phase = .rest)
include hphase

theorem endRest_held (hheld : armature.getLsbD d.trainer.cur = true) :
    endRest armature d = endString (fun x => { x with result := .stuck }) (armatureRead armature d) := by
  simp [endRest, armatureRead, hphase, hheld]

variable (hfree : armature.getLsbD d.trainer.cur = false)
include hfree

/-- Short of four trials the next trial is at the same delay. -/
theorem endRest_next_trial (htrial : d.trainer.trial < 4) :
    endRest armature d = startTrial (onTrainer (fun t => { t with trial := t.trial + 1 }) (armatureRead armature d)) := by
  simp [endRest, armatureRead, hphase, hfree, htrial]

variable (htrial : 4 ≤ d.trainer.trial)
include htrial

theorem endRest_trained (hones : 3 ≤ d.trainer.ones) :
    endRest armature d = endString (fun x =>
      { x with result := .trained, latency := some (min (d.trainer.delay + 200) 9999) }) (armatureRead armature d) := by
  simp [endRest, armatureRead, hphase, hfree, htrial.not_gt, hones]

theorem endRest_next_delay (hones : d.trainer.ones < 3) (hdelay : d.trainer.delay < 9975) :
    endRest armature d = startTrial (onTrainer (fun t =>
      { t with delay := t.delay + 25, trial := 1, ones := 0 }) (armatureRead armature d)) := by
  simp [endRest, armatureRead, hphase, hfree, htrial.not_gt, hones.not_ge, hdelay]

theorem endRest_failed (hones : d.trainer.ones < 3) (hdelay : 9975 ≤ d.trainer.delay) :
    endRest armature d = endString (fun x => { x with result := .failed }) (armatureRead armature d) := by
  simp [endRest, armatureRead, hphase, hfree, htrial.not_gt, hones.not_ge, hdelay.not_gt]

end

/-! ## The string under training, found at its place -/

section
variable {d : Device} {x : SelString} (hcur : d.trainer.cur < stringCount d) (hx : d.strings.strings[d.trainer.cur]? = some x)
include hcur hx

theorem sampleTrial_string (held : Bool) (hphase : d.trainer.phase = .trial) :
    (sampleTrial held d).strings.strings = d.strings.strings.set d.trainer.cur { x with drive := .off } := by
  rw [sampleTrial, if_pos hphase, onCurrent_eq _ hcur, onString_set hx]
  rfl

/-- A string ends at the end of a rest, and those after it are pre-checked with the inputs then read (R146). -/
theorem endString_read (armature : BitVec 8) (f : SelString → SelString) (hcount : stringCount d ≤ 8) :
    PreChecked (d.trainer.cur + 1) armature
      { d with
        pins := { d.pins with armature := armature }
        strings := { d.strings with strings := d.strings.strings.set d.trainer.cur (f x) } }
      (endString f (armatureRead armature d)) := by
  have hread : (armatureRead armature d).strings.strings[(armatureRead armature d).trainer.cur]? = some x := hx
  have hended := endString_preChecked f (d := armatureRead armature d) hcur hcount
  rw [onString_set hread] at hended
  exact hended

/-- A trial begins at the end of a rest (R145). -/
theorem startTrial_read (armature : BitVec 8) {g : Trainer → Trainer} (hg : (g d.trainer).cur = d.trainer.cur) :
    (startTrial (onTrainer g (armatureRead armature d))).trainer = { g d.trainer with phase := .trial, timer := 0 } ∧
    (startTrial (onTrainer g (armatureRead armature d))).strings.strings =
      d.strings.strings.set d.trainer.cur { x with drive := .inrush 0 } := by
  have hread : (armatureRead armature d).strings.strings[(armatureRead armature d).trainer.cur]? = some x := hx
  rw [startTrial_onTrainer (d := armatureRead armature d) hg hcur, onString_set hread]
  exact ⟨rfl, rfl⟩

end

end Sys2Proof.Machine
end

section
/-! SUPPORT. A counting step in TRAIN: what the strings have learned stays, and in READY with no pick under way the crossings leave
the strings alone (R6, R148). -/

namespace Sys2Proof.Machine

/-! ## The change of speed state keeps what the strings have learned (R121, R122) -/

theorem mapStrings_learned {f : Nat → SelString → SelString}
    (h : ∀ i x, (f i x).result = x.result ∧ (f i x).latency = x.latency) (d : Device) :
    learned (mapStrings f d) = learned d := by
  refine List.ext_getElem? fun i => ?_
  simp only [learned, List.getElem?_map, mapStrings_getElem?, Option.map_map]
  congr 1
  funext x
  simp only [Function.comp_apply]
  split
  · rw [(h i x).1, (h i x).2]
  · rfl

theorem fallDue_learned (p : Nat → SelString → Bool) (d : Device) : learned (fallDue p d) = learned d := by
  rw [fallDue_eq, mapStrings_learned (fun i x => by split <;> exact ⟨rfl, rfl⟩), fireWhere,
    mapStrings_learned (fun i x => by split <;> exact ⟨rfl, rfl⟩)]
  exact doIf_keeps learned _ _ _ rfl

theorem handString_learned (a : Nat) (x : SelString) :
    (handString a x).result = x.result ∧ (handString a x).latency = x.latency := by
  unfold handString
  split <;> exact ⟨rfl, rfl⟩

theorem recompute_learned (c : Configuration) (d : Device) : learned (recompute c d) = learned d := by
  refine (fallDue_learned _ _).trans ?_
  unfold computeStrings
  dsimp only
  refine (doIf_keeps learned _ _ _ rfl).trans ((doIf_keeps learned _ _ _ rfl).trans (mapStrings_learned (fun i x => ?_) _))
  split
  · split
    · exact ⟨rfl, rfl⟩
    · exact handString_learned _ x
  · exact ⟨rfl, rfl⟩

theorem fireSpan_learned (n : Nat) (d : Device) : learned (fireSpan n d) = learned d := by
  unfold fireSpan
  dsimp only
  (repeat' split)
  · exact recompute_learned _ _
  all_goals rfl

theorem fireLeavesFast_learned (d : Device) : learned (fireLeavesFast d) = learned d := by
  unfold fireLeavesFast
  (repeat' split)
  · exact recompute_learned _ d
  all_goals rfl

theorem handSpeed_learned (before : Speed) (done : Bool) (d : Device) : learned (handSpeed before done d) = learned d := by
  have hfast (c : Bool) : learned (doIf c (setFlag .fast) d) = learned d := doIf_keeps learned _ _ _ rfl
  unfold handSpeed
  dsimp only
  (repeat' split)
  · exact (fireSpan_learned _ _).trans (hfast _)
  · exact hfast _
  · exact (doIf_keeps learned _ _ _ (fireLeavesFast_learned _)).trans (hfast _)

theorem beforeStep_learned (dt : Lapse) (sense : List StringBits) (d : Device) : learned (beforeStep dt sense d) = learned d := by
  simp [learned, beforeStep_stringDriver, Function.comp_def]

/-! ## The crossings in READY (R6) -/

/-- From `a` to `d` the strings, the position and every flag set have stayed, in READY with no pick under way. -/
structure KeptInReady (a d : Device) : Prop where
  state : d.control.state = .ready
  mode : d.strings.mode = .none
  strings : d.strings = a.strings
  pos : d.seq.pos = a.seq.pos
  flags : ∀ f, flagOf f a.control = true → flagOf f d.control = true

theorem doIf_keptInReady (c : Bool) {a d : Device} {f : Device → Device} (h : KeptInReady a d) (hf : KeptInReady a (f d)) :
    KeptInReady a (doIf c f d) := by
  cases c
  · exact h
  · exact hf

section
variable {a d : Device} (h : KeptInReady a d)
include h

theorem KeptInReady.frame {t : Device} (hstrings : t.strings = d.strings) (hpos : t.seq.pos = d.seq.pos)
    (hcontrol : t.control = d.control) : KeptInReady a t :=
  ⟨by rw [hcontrol, h.state], by rw [hstrings, h.mode], by rw [hstrings, h.strings], by rw [hpos, h.pos],
    by rw [hcontrol]; exact h.flags⟩

theorem setFlag_keptInReady (f : Flag) : KeptInReady a (setFlag f d) :=
  ⟨h.state, h.mode, h.strings, h.pos, fun g hg => by simp [h.flags g hg]⟩

theorem ownHold_keptInReady : KeptInReady a (ownHold d) := by
  rw [ownHold, if_neg (by simp [h.state])]
  exact h

theorem rosterClose_keptInReady : KeptInReady a (rosterClose d) := by
  have hclose : rosterClose d = discardBeacon true d := by simp [rosterClose, inWeave, h.state]
  rw [hclose]
  exact h.frame (by simp) (by simp) (by simp)

theorem arrivalClose_keptInReady : KeptInReady a (arrivalClose d) := by
  unfold arrivalClose
  split
  · have hmissing : KeptInReady a (weftIsMissing d) := ownHold_keptInReady (setFlag_keptInReady h _)
    exact hmissing.frame (by simp) (by simp) (by simp)
  · exact doIf_keptInReady _ h (h.frame (by simp) (by simp) (by simp))

/-- Outside WEAVE and TEST no boundary crossing opens a pick (R40, R52, R140). -/
theorem KeptInReady.boundary (c : Configuration) : forwardB c d = d ∧ reverseB d = d := by
  simp [forwardB, reverseB, inWeave, h.state]

/-- With no pick under way the strings follow no crossing (R132, R133, R136, R140). -/
theorem KeptInReady.noPick : stringsForwardW d = d ∧ stringsForwardK d = d ∧ stringsForwardD d = d ∧
    stringsReverseD d = d ∧ stringsReverseK d = d ∧ stringsReverseW d = d := by
  simp [stringsForwardW, stringsForwardK, stringsForwardD, stringsReverseD, stringsReverseK, stringsReverseW, turningTest, h.mode,
    doIf_false]

theorem forwardK_keptInReady : KeptInReady a (forwardK d) := by
  obtain ⟨-, hk, -⟩ := h.noPick
  rw [forwardK, hk]
  exact h.frame (by simp) (by simp) (by simp)

theorem forwardFa_keptInReady : KeptInReady a (forwardFa d) := by
  have hfinger : doIf (inWeave d) fingerAngle d = d := by simp [inWeave, h.state, doIf_false]
  rw [forwardFa, hfinger]
  exact rosterClose_keptInReady h

theorem forwardCrossings_keptInReady (c : Configuration) (role : Role) (x : Nat) :
    KeptInReady a (forwardCrossings c role x d) := by
  obtain ⟨hb, -⟩ := h.boundary c
  have hguard : KeptInReady a (doIf (decide (x = guardEnd c)) forwardGuardEnd d) :=
    doIf_keptInReady _ h (h.frame (by simp) (by simp) (by simp))
  unfold forwardCrossings
  dsimp only
  rw [doIf_of_fixed fun _ => hb]
  generalize doIf (decide (x = guardEnd c)) forwardGuardEnd d = e at hguard
  cases role with
  | sectionRole =>
    have hclosed : KeptInReady a (doIf (decide (x = c.c)) rosterClose e) :=
      doIf_keptInReady _ hguard (rosterClose_keptInReady hguard)
    have hstrobed := doIf_keptInReady (decide (x = c.k)) hclosed (forwardK_keptInReady hclosed)
    rw [doIf_of_fixed fun _ => hclosed.noPick.1, doIf_of_fixed fun _ => hstrobed.noPick.2.2.1]
    exact hstrobed
  | weftRole =>
    have hfinger := doIf_keptInReady (decide (x = c.fa)) hguard (forwardFa_keptInReady hguard)
    have hopen := doIf_keptInReady (decide (x = c.ao)) hfinger (hfinger.frame (t := arrivalOpen _) (by simp) (by simp) (by simp))
    exact doIf_keptInReady _ hopen (arrivalClose_keptInReady hopen)

theorem reverseCrossings_keptInReady (c : Configuration) (role : Role) (x : Nat) :
    KeptInReady a (reverseCrossings c role x d) := by
  obtain ⟨-, hb⟩ := h.boundary c
  obtain ⟨-, -, -, hd, hk, hw⟩ := h.noPick
  have hfa : reverseFingerAngle d = d := by simp [reverseFingerAngle, inWeave, h.state, doIf_false]
  unfold reverseCrossings
  cases role <;> simpa [doIf_of_fixed fun _ => hb, doIf_of_fixed fun _ => hd, doIf_of_fixed fun _ => hk,
    doIf_of_fixed fun _ => hw, doIf_of_fixed fun _ => hfa] using h

theorem crossings_keptInReady (dir : Direction) : KeptInReady a (crossings dir d) := by
  unfold crossings
  split
  · exact h
  · split
    · cases dir with
      | forward => exact forwardCrossings_keptInReady h _ _ _
      | reverse => exact reverseCrossings_keptInReady h _ _ _
    · exact h

theorem checkDistance_keptInReady : KeptInReady a (checkDistance d) := by
  unfold checkDistance
  split
  · exact ownHold_keptInReady (setFlag_keptInReady (h.frame (t := closeGuard _) (by simp) (by simp) (by simp)) _)
  · exact h

end

/-! ## The step (R148) -/

section
variable {dir : Direction} {d : Device} (hs : d.control.state = .train) (hmode : d.strings.mode = .none)
include hs hmode

/-- In TRAIN the motion abandons the run, and the strings have no fire by angle in the READY it leaves (R148). -/
theorem atCrossing_train : atCrossing dir d = enterReady (abandonTraining
    (handSpeed d.tracker.speed (completes dir d.tracker) (onTracker (stepTracker d.control.config dir) d))) := by
  have hturn : doIf (turns dir d.tracker) turnPick (onTracker (stepTracker d.control.config dir) d) =
      onTracker (stepTracker d.control.config dir) d := doIf_of_fixed fun _ => turnPick_none (by simpa using hmode)
  have hhanded : stepHanded dir d = enterReady (abandonTraining
      (handSpeed d.tracker.speed (completes dir d.tracker) (onTracker (stepTracker d.control.config dir) d))) := by
    rw [stepHanded, hturn, handMotion]
    simp [hs]
  rw [atCrossing, hhanded]
  refine doIf_of_fixed fun _ => doIf_of_fixed fun hfires => ?_
  simp [firesByAngle, inWeave, hmode] at hfires

/-- The run is abandoned on a station `m` that has learned what `d` had, and the rest of the step leaves that in place. -/
theorem takeStep_abandons : ∃ m, learned m = learned d ∧ m.trainer = d.trainer ∧ m.seq = d.seq ∧
    KeptInReady (enterReady (abandonTraining m)) (takeStep dir false d) ∧
    (takeStep dir false d).trainer = (abandonTraining m).trainer := by
  refine ⟨_, handSpeed_learned d.tracker.speed (completes dir d.tracker) (onTracker (stepTracker d.control.config dir) d),
    by simp, by simp, ?_, ?_⟩
  · rw [takeStep_eq, atCrossing_train hs hmode]
    exact checkDistance_keptInReady (crossings_keptInReady ⟨by simp, by simpa using hmode, rfl, rfl, fun _ => id⟩ dir)
  · rw [takeStep_eq, atCrossing_train hs hmode]
    simp

end

/-- The trainer made IDLE is the same after a lapse. -/
theorem elapseTrainer_idle (dt : Nat) (t : Trainer) :
    { elapseTrainer dt t with phase := TrainPhase.idle, timer := 0 } = { t with phase := .idle, timer := 0 } := by
  unfold elapseTrainer
  split <;> rfl

theorem abandonTraining_learned (d : Device) : learned (abandonTraining d) = learned d := trainerIdle_learned d

end Sys2Proof.Machine
end

section
/-! The statements about latency training, settled. -/

namespace Sys2Proof.Machine

/-- Settles O38: `startTraining_eq` gives the station as the run begins, `preCheck_preChecked` what its pre-checks leave. -/
theorem trainingStarts : Obligations.TrainingStarts := by
  unfold Obligations.TrainingStarts
  refine ⟨fun s arm hask hs hrole => ⟨fun hmoving => ?_, fun hstalled hpos hcount => ?_⟩,
    fun s arm n hpowered hs hp hphase hmode hop hcur hcount => ?_, fun s arm hask hs hrole => ?_⟩
  · exact exec_request_answer hask (by simp [hs, takenIn]) (runTrain_moving arm hrole hmoving)
  · refine ⟨_, _, exec_train hask hs hrole hstalled, rfl, rfl, fun hoff => ?_, fun hon => ?_⟩
    · rw [startTraining_waits arm (d := popQueue s.dev) hrole hoff]
      rfl
    · rw [startTraining_on arm (d := popQueue s.dev) hon]
      exact (preCheck_preChecked 8 (d := trainingBegun arm (popQueue s.dev)) hpos (hcount.trans (Nat.le_add_left _ _))).withLine _
  · refine ⟨_, exec_wakeTimeEnd arm hpowered, rfl, ?_⟩
    rw [powerComesOn_training arm hs hp hphase hmode hop]
    exact preCheck_preChecked 8 (d := powerIsOn arm s.dev) hcur (hcount.trans (Nat.le_add_left _ _))
  · exact exec_request_answer hask (by simp [hs, takenIn]) (runTrain_weft arm [] hrole)

/-- Settles O39: a rest ends by the cases of `endRest`, each with `endString_read` or `startTrial_read`; a step abandons the run by
`takeStep_abandons`. -/
theorem trialsSearchTheLatency : Obligations.TrialsSearchTheLatency := by
  unfold Obligations.TrialsSearchTheLatency
  refine ⟨fun s held hpowered hphase => ?_, fun s arm x hpowered hphase hcur hcount hx => ?_,
    fun a b dt sense s hpowered hs hmode hphase => ?_⟩
  · refine ⟨_, completed_powered (f := sampleTrial held) hpowered, rfl, ?_, fun x hcur hx => sampleTrial_string hcur hx held hphase⟩
    dsimp only
    rw [sampleTrial, if_pos hphase]
    rfl
  · refine ⟨_, completed_powered (f := endRest arm) hpowered, rfl, by simp, by simp, by simp, by simp, fun hheld => ?_,
      fun hfree htrial => ?_, fun hfree htrial hones => ?_, fun hfree htrial hones hdelay => ?_,
      fun hfree htrial hones hdelay => ?_⟩
    · rw [endRest_held hphase hheld]
      exact endString_read hcur hx arm _ hcount
    · rw [endRest_next_trial hphase hfree htrial]
      exact startTrial_read hcur hx arm rfl
    · rw [endRest_trained hphase hfree htrial hones]
      exact endString_read hcur hx arm _ hcount
    · rw [endRest_next_delay hphase hfree htrial hones hdelay]
      exact startTrial_read hcur hx arm rfl
    · rw [endRest_failed hphase hfree htrial hones hdelay]
      exact endString_read hcur hx arm _ hcount
  · obtain ⟨dir, hdir⟩ := step_of_neighbour hphase
    obtain ⟨m, hlearned, htrainer, hseq, hkept, hidle⟩ :=
      takeStep_abandons (dir := dir) (d := beforeStep dt sense s.dev) (by simpa using hs) (by simpa using hmode)
    obtain ⟨habandoned, hflag, hstrings⟩ := abandonTraining_blocks m
    have hready : learned (takeStep dir false (beforeStep dt sense s.dev)) = learned s.dev := by
      calc _ = learned (enterReady (abandonTraining m)) := by rw [learned, hkept.strings]; rfl
        _ = learned s.dev := by rw [enterReady_learned, abandonTraining_learned, hlearned, beforeStep_learned]
    refine ⟨_, exec_countingStep hpowered hdir, rfl, hkept.state, ?_, hkept.flags .trainAbandoned ?_, learned_length hready, ?_,
      learned_results hready, learned_latencies hready, ?_, by simp⟩
    · rw [hidle, habandoned, htrainer]
      simp [beforeStep, elapse_trainer, elapseTrainer_idle]
    · rw [enterReady_control]
      exact hflag
    · rw [hkept.strings]
      simpa using enterReady_rest (d := abandonTraining m) (by simp [hstrings])
    · rw [hkept.pos]
      simp [hseq]

end Sys2Proof.Machine
end

section
/-! SUPPORT. The inputs of the weft selector: the detector pulse and the feeder-stop inputs (R159, R160). -/

namespace Sys2Proof.Machine

/-! ## The detector (R159) -/

theorem detectorPulse_waiting {d : Device} (h : d.weft.arrival = .waiting) : detectorPulse d = setFlag .weftEarly d := by
  simp [detectorPulse, h]

theorem detectorPulse_open {d : Device} (h : d.weft.arrival = .openWindow) : detectorPulse d = setArrival .arrived d := by
  simp [detectorPulse, h]

theorem detectorPulse_ignored {d : Device} (hwaiting : d.weft.arrival ≠ .waiting) (hopen : d.weft.arrival ≠ .openWindow) :
    detectorPulse d = d := by
  unfold detectorPulse
  split
  · next h => exact absurd h hwaiting
  · next h => exact absurd h hopen
  · rfl

/-! ## The feeder stops (R160) -/

/-- The feeder-stop input of a finger as sampled, before anything acts on it. -/
def feederSampled (f : Nat) (active : Bool) (d : Device) : Device :=
  onPins (fun p => { p with
    feederStop := if active then p.feederStop ||| BitVec.twoPow 8 f else p.feederStop &&& ~~~BitVec.twoPow 8 f }) d

/-- The input rises on the finger in the output, in WEAVE and with the arrival check not IDLE (log 40). -/
def stopWatched (f : Nat) (active : Bool) (d : Device) : Bool :=
  isWeft d && inWeave d && active && !stopped d f && decide (d.weft.output = some f) && decide (d.weft.arrival ≠ .idle)

theorem feederSampled_reads {f : Nat} (hf : f < 8) (active : Bool) (d : Device) :
    (feederSampled f active d).pins.feederStop.getLsbD f = active := by
  cases active <;> simp [feederSampled, hf]

theorem feederInput_eq (f : Nat) (active : Bool) (d : Device) :
    feederInput f active d =
      if stopWatched f active d then
        if d.weft.stopMark then setFlag .feederStop (feederSampled f active d)
        else onWeft (fun w => { w with stopMark := true }) (ownHold (setFlag .feederStop (feederSampled f active d)))
      else feederSampled f active d := rfl

theorem feederInput_ignored {f : Nat} {active : Bool} {d : Device} (h : stopWatched f active d = false) :
    feederInput f active d = feederSampled f active d := by
  simp [feederInput_eq, h]

/-- A watched stop sets FEEDER STOP and the stop mark; the first of a pick requests a hold. -/
theorem feederInput_watched {f : Nat} {active : Bool} {d : Device} (h : stopWatched f active d = true) :
    flagOf .feederStop (feederInput f active d).control = true ∧
    (feederInput f active d).weft = { d.weft with stopMark := true } ∧
    (feederInput f active d).seq =
      { d.seq with void := d.seq.void || (!d.weft.stopMark && decide (d.control.state = .weave)) } ∧
    (feederInput f active d).pins = (feederSampled f active d).pins := by
  rw [feederInput_eq, if_pos h]
  cases hmark : d.weft.stopMark with
  | true =>
    have hmarked : d.weft = { d.weft with stopMark := true } := by rw [← hmark]
    exact ⟨by simp, hmarked, by simp [feederSampled], rfl⟩
  | false =>
    have hflag := (ownHold_onlyHolds (setFlag .feederStop (feederSampled f active d))).control.stays .feederStop (by simp)
    exact ⟨hflag, by simp [feederSampled], by simp [ownHold_seq, feederSampled], by simp⟩

end Sys2Proof.Machine
end

section
/-! SUPPORT. The choice made for a weft code, said of the map entry, the feeders and the toggles (R153 to R155). -/

namespace Sys2Proof.Machine

/-! ## What is reported stays reported -/

/-- From `d` to `t` no flag is cleared, and a void pick stays void. -/
structure StaysReported (d t : Device) : Prop where
  flags : ∀ f, flagOf f d.control = true → flagOf f t.control = true
  void : d.seq.void = true → t.seq.void = true

theorem StaysReported.trans {d e t : Device} (h₁ : StaysReported d e) (h₂ : StaysReported e t) : StaysReported d t :=
  ⟨fun f hf => h₂.flags f (h₁.flags f hf), h₂.void ∘ h₁.void⟩

theorem StaysReported.of_eq {d t : Device} (hcontrol : t.control = d.control) (hvoid : t.seq.void = d.seq.void) :
    StaysReported d t :=
  ⟨fun f => by rw [hcontrol]; exact id, by rw [hvoid]; exact id⟩

theorem OnlyHolds.staysReported {d t : Device} (h : OnlyHolds d t) : StaysReported d t := ⟨h.control.stays, h.voids⟩

/-! ## The other finger of the pair (R155 steps 4 and 5) -/

theorem substitute_runs {d : Device} {other : Option Nat} {o : Nat} (ho : other = some o) (hrun : stopped d o = false) :
    substitute other d = setFlag .substituted (setChoice (.chosen (some o)) d) := by
  simp [substitute, ho, hrun]

theorem substitute_stopped {d : Device} {other : Option Nat} (h : other.all (stopped d) = true) :
    substitute other d = noFinger d := by
  cases other with
  | none => rfl
  | some o =>
    have hstop : stopped d o = true := by simpa using h
    simp [substitute, hstop]

/-! ## The choice for a code -/

/-- At `t` the choice stands that the map, the feeders and the station state of `d` give for code `k`, over the toggles of `t`. -/
structure ChoiceMade (k : Nat) (d t : Device) : Prop where
  codeless : 8 ≤ k → t.weft.choice = .chosen none
  mapped : ∀ e f, k < 8 → d.weft.map[k]? = some (some e) →
    f = (if e.mixing = true ∧ e.alternate.isSome ∧ t.weft.toggles.getLsbD k = true then e.alternate.getD e.primary
      else e.primary) →
    (stopped d f = false → t.weft.choice = .chosen (some f)) ∧
    (∀ g, stopped d f = true → otherFinger e f = some g → stopped d g = false →
      t.weft.choice = .chosen (some g) ∧ flagOf .substituted t.control = true) ∧
    (stopped d f = true → (otherFinger e f).all (stopped d) = true →
      t.weft.choice = .chosen none ∧ flagOf .feederStop t.control = true ∧
        (d.control.state = .weave → t.seq.void = true))

theorem RestOfWeft.toggles {v w : WeftSel} (h : RestOfWeft v w) : w.toggles = v.toggles := by rw [h]

theorem RestOfWeft.arrival {v w : WeftSel} (h : RestOfWeft v w) : w.arrival = v.arrival := by rw [h]

theorem chooseFinger_made (k : Nat) (d : Device) : ChoiceMade k d (chooseFinger k d) := by
  have htoggles := (chooseFinger_weft k d).toggles
  refine ⟨fun hk => ?_, fun e f hk hm hf => ?_⟩
  · rw [chooseFinger_unmapped (by simp [mapEntry, Nat.not_lt.mpr hk])]
    rfl
  · have hentry : mapEntry d k = some e := by rw [mapEntry_of_lt hk, hm, Option.join_some]
    rw [htoggles] at hf
    obtain rfl : f = nominalFinger d k e := hf.trans (nominalFinger_eq hk e).symm
    refine ⟨fun hrun => ?_, fun g hstop hg hrun => ?_, fun hstop hall => ?_⟩
    · rw [chooseFinger_running hentry hrun]
      rfl
    · rw [chooseFinger_substituted hentry hstop hg hrun]
      exact ⟨rfl, by simp⟩
    · rw [chooseFinger_stopped hentry hstop hall]
      exact ⟨by simp [noFinger_weft], noFinger_feederStop d, noFinger_voids⟩

/-- What follows a choice, leaves it and the toggles as they are and clears no report, leaves the choice made. -/
theorem ChoiceMade.kept {k : Nat} {d x t : Device} (h : ChoiceMade k d x) (hchoice : t.weft.choice = x.weft.choice)
    (htoggles : t.weft.toggles = x.weft.toggles) (hstays : StaysReported x t) : ChoiceMade k d t := by
  refine ⟨fun hk => hchoice.trans (h.codeless hk), fun e f hk hm hf => ?_⟩
  rw [htoggles] at hf
  obtain ⟨hruns, hother, hnone⟩ := h.mapped e f hk hm hf
  rw [hchoice]
  refine ⟨hruns, fun g hstop hg hrun => ?_, fun hstop hall => ?_⟩
  · obtain ⟨hchosen, hflag⟩ := hother g hstop hg hrun
    exact ⟨hchosen, hstays.flags _ hflag⟩
  · obtain ⟨hchosen, hflag, hvoid⟩ := hnone hstop hall
    exact ⟨hchosen, hstays.flags _ hflag, hstays.void ∘ hvoid⟩

/-- The choice depends on the map, the feeders and the station state alone. -/
theorem ChoiceMade.of_found {k : Nat} {d x t : Device} (h : ChoiceMade k x t) (hmap : x.weft.map = d.weft.map)
    (hfeeders : x.pins.feederStop = d.pins.feederStop) (hstate : x.control.state = d.control.state) : ChoiceMade k d t := by
  have hstopped : stopped x = stopped d := by
    funext f
    rw [stopped, hfeeders, stopped]
  obtain ⟨hcodeless, hmapped⟩ := h
  rw [hmap, hstopped, hstate] at hmapped
  exact ⟨hcodeless, hmapped⟩

/-! ## The toggles (R153) -/

/-- A toggle put to a value reads as that value; every other toggle as before. -/
theorem putToggle_toggles {k i : Nat} (hi : i < 8) (v : Bool) (d : Device) :
    (putToggle k v d).weft.toggles.getLsbD i = if i = k then v else d.weft.toggles.getLsbD i := by
  by_cases hik : i = k
  · subst hik
    rw [putToggle_reads hi, if_pos rfl]
  · rw [if_neg hik, putToggle]
    split
    · cases v <;> simp [hi, hik]
    · rfl

theorem putToggle_weft (k : Nat) (v : Bool) (d : Device) :
    (putToggle k v d).weft = { d.weft with toggles := (putToggle k v d).weft.toggles } := by
  unfold putToggle
  split <;> rfl

theorem flipToggle_weft (k : Nat) (d : Device) :
    (flipToggle k d).weft = { d.weft with toggles := (flipToggle k d).weft.toggles } := by
  unfold flipToggle
  split
  · split
    · exact putToggle_weft k _ d
    · rfl
  · rfl

/-- The toggle of the code flips where the code mixes, and no other. -/
theorem flipToggle_toggles {k i : Nat} (hi : i < 8) (d : Device) :
    (flipToggle k d).weft.toggles.getLsbD i =
      (d.weft.toggles.getLsbD i ^^ (decide (k = i) && (d.weft.map[i]?).join.any mixes)) := by
  by_cases hki : k = i
  · subst hki
    cases hm : (d.weft.map[k]?).join with
    | none => simp [flipToggle, mapEntry_of_lt hi, hm]
    | some e =>
      cases hmix : mixes e with
      | true =>
        have hflip : flipToggle k d = putToggle k (!toggleOf d k) d := by simp [flipToggle, mapEntry_of_lt hi, hm, hmix]
        rw [hflip, putToggle_reads hi]
        simp [toggleOf, hi, hmix]
      | false => simp [flipToggle, mapEntry_of_lt hi, hm, hmix]
  · have hkept : (flipToggle k d).weft.toggles.getLsbD i = d.weft.toggles.getLsbD i := by
      unfold flipToggle
      split
      · split
        · rw [putToggle_toggles hi, if_neg (Ne.symm hki)]
        · rfl
      · rfl
    simp [hkept, hki]

end Sys2Proof.Machine
end

section
/-! SUPPORT. The forward boundary crossing at the weft selector: the toggle of the code left, the choice, the arrival check
(R153, R154, R159). -/

namespace Sys2Proof.Machine

theorem steppedOnto_feederStop (dir : Direction) (dt : Lapse) (sense : List StringBits) (d : Device) :
    (steppedOnto dir dt sense d).pins.feederStop = d.pins.feederStop := by
  simp [steppedOnto, beforeStep]

theorem steppedOnto_stopped (dir : Direction) (dt : Lapse) (sense : List StringBits) (d : Device) :
    stopped (steppedOnto dir dt sense d) = stopped d := by
  funext f
  rw [stopped, steppedOnto_feederStop, stopped]

/-! ## The arrival check at B (R159) -/

theorem weftIsMissing_reported {d : Device} (h : d.control.state = .weave) :
    flagOf .weftMissing (weftIsMissing d).control = true ∧ (weftIsMissing d).seq.void = true := by
  have hflag := (ownHold_onlyHolds (setFlag .weftMissing d)).control.stays .weftMissing (by simp)
  exact ⟨hflag, by simp [weftIsMissing, ownHold_seq, h]⟩

theorem arrivalAtForwardB_weft (d : Device) : (arrivalAtForwardB d).weft = { d.weft with arrival := .idle } := by
  simp [arrivalAtForwardB, setArrival]

theorem arrivalAtForwardB_missing {d : Device} (hweave : d.control.state = .weave)
    (h : d.weft.arrival = .waiting ∨ d.weft.arrival = .openWindow) :
    flagOf .weftMissing (arrivalAtForwardB d).control = true ∧ (arrivalAtForwardB d).seq.void = true := by
  have hout : arrivalOutstanding d = true := by simpa [arrivalOutstanding] using h
  simpa [arrivalAtForwardB, hout, doIf_true] using weftIsMissing_reported hweave

/-! ## The crossing at the weft selector -/

/-- The station with the new position's row fetched, as the weft selector chooses anew: an ADVANCE has flipped the toggle of
the code left. -/
def leftCodeFlipped (d : Device) : Device :=
  doIf (decide (crossingKind d = .advance)) (flipToggle (recordedWeft d)) (forwardFetched d)

@[simp] theorem forwardFetched_frame (d : Device) :
    (forwardFetched d).weft = d.weft ∧ (forwardFetched d).pins = d.pins ∧
    (forwardFetched d).control.state = d.control.state ∧ (forwardFetched d).control.role = d.control.role := by
  simp [forwardFetched, forwardCrossed]

theorem leftCodeFlipped_weft (d : Device) :
    (leftCodeFlipped d).weft = { d.weft with toggles := (leftCodeFlipped d).weft.toggles } := by
  unfold leftCodeFlipped
  cases decide (crossingKind d = .advance) with
  | true => simpa [doIf_true] using flipToggle_weft (recordedWeft d) (forwardFetched d)
  | false => simp [doIf_false]

@[simp] theorem leftCodeFlipped_frame (d : Device) :
    (leftCodeFlipped d).pins = d.pins ∧ (leftCodeFlipped d).control.state = d.control.state := by
  simp [leftCodeFlipped]

/-- After a REPEAT every toggle is as it was. -/
theorem leftCodeFlipped_repeat {d : Device} (h : d.seq.void = true) : (leftCodeFlipped d).weft.toggles = d.weft.toggles := by
  simp [leftCodeFlipped, crossingKind, h, doIf_false]

theorem leftCodeFlipped_advance {d : Device} (h : d.seq.void = false) {i : Nat} (hi : i < 8) :
    (leftCodeFlipped d).weft.toggles.getLsbD i =
      (d.weft.toggles.getLsbD i ^^ (decide (recordedWeft d = i) && (d.weft.map[i]?).join.any mixes)) := by
  have hflip := flipToggle_toggles (k := recordedWeft d) hi (forwardFetched d)
  simpa [leftCodeFlipped, crossingKind, h, doIf_true] using hflip

section
variable (c : Configuration) {d : Device} (hweave : d.control.state = .weave) (hrole : d.control.role = .weftRole)
include hweave hrole

theorem forwardB_weftRole :
    forwardB c d = stuckVoid (arrivalAtForwardB (startChoice (leftCodeFlipped d))) := by
  have hsection : isSection (seqForwardB d) = false := by simp [isSection, hrole]
  have hweft : isWeft (forwardFetched d) = true := by simp [isWeft, hrole]
  rw [forwardB_weave c hweave, hsection, doIf_false, seqForwardB_eq, weftForwardBoundary, if_pos hweft]
  rfl

/-- After the choice the crossing does no more than a hold can. -/
theorem startChoice_onlyHolds_forwardB : OnlyHolds (startChoice (leftCodeFlipped d)) (forwardB c d) := by
  rw [forwardB_weftRole c hweave hrole]
  exact (arrivalAtForwardB_onlyHolds _).trans (stuckVoid_onlyHolds _)

theorem forwardB_weft :
    (forwardB c d).weft = { (startChoice (leftCodeFlipped d)).weft with arrival := .idle } := by
  have hstuck (x : Device) : (stuckVoid x).weft = x.weft := by simp
  rw [forwardB_weftRole c hweave hrole, hstuck, arrivalAtForwardB_weft]

/-- The crossing changes toggles and choice, and ends the arrival check. -/
theorem forwardB_weft_rest :
    (forwardB c d).weft = { d.weft with
      toggles := (leftCodeFlipped d).weft.toggles, choice := (forwardB c d).weft.choice, arrival := .idle } := by
  have hchosen := startChoice_weft (leftCodeFlipped d)
  unfold RestOfWeft at hchosen
  rw [forwardB_weft c hweave hrole, hchosen, leftCodeFlipped_weft]

/-- A check still outstanding is WEFT MISSING, and the new pick void (log 21). -/
theorem forwardB_missing (h : d.weft.arrival = .waiting ∨ d.weft.arrival = .openWindow) :
    flagOf .weftMissing (forwardB c d).control = true ∧ (forwardB c d).seq.void = true := by
  have hkept : (startChoice (leftCodeFlipped d)).weft.arrival = d.weft.arrival :=
    (startChoice_weft (leftCodeFlipped d)).arrival.trans (by rw [leftCodeFlipped_weft])
  obtain ⟨hflag, hvoid⟩ := arrivalAtForwardB_missing (d := startChoice (leftCodeFlipped d)) (by simpa using hweave)
    (by rwa [hkept])
  have hstays := (stuckVoid_onlyHolds (arrivalAtForwardB (startChoice (leftCodeFlipped d)))).staysReported
  rw [forwardB_weftRole c hweave hrole]
  exact ⟨hstays.flags _ hflag, hstays.void hvoid⟩

theorem forwardB_overrideOf : overrideOf (leftCodeFlipped d) = overrideOf (forwardB c d) :=
  ((startChoice_onlyHolds _).trans (startChoice_onlyHolds_forwardB c hweave hrole)).overrideOf.symm

/-- Without an override the choice waits for the row. -/
theorem forwardB_pending (ho : overrideOf (forwardB c d) = none) : (forwardB c d).weft.choice = .pending := by
  rw [forwardB_weft c hweave hrole, startChoice_pending ((forwardB_overrideOf c hweave hrole).trans ho)]
  rfl

theorem forwardB_chooses {k : Nat} (ho : overrideOf (forwardB c d) = some k) : ChoiceMade k d (forwardB c d) := by
  have hmade := chooseFinger_made k (leftCodeFlipped d)
  rw [← startChoice_override ((forwardB_overrideOf c hweave hrole).trans ho)] at hmade
  have hweft := forwardB_weft c hweave hrole
  have hmap : (leftCodeFlipped d).weft.map = d.weft.map := by rw [leftCodeFlipped_weft]
  exact (hmade.kept (congrArg WeftSel.choice hweft :) (congrArg WeftSel.toggles hweft :)
    (startChoice_onlyHolds_forwardB c hweave hrole).staysReported).of_found hmap (by simp) (by simp)

end

end Sys2Proof.Machine
end

section
/-! SUPPORT. A PICK fetch completed in the weft role: what is handed on, and the choice made for a code that arrives (R66, R68, R71,
R154, R158). -/

namespace Sys2Proof.Machine

/-! ## A code arrives (R154, R158) -/

theorem weftCodeArrives_settled (k : Nat) {d : Device} (h : d.weft.choice ≠ .pending) : weftCodeArrives k d = d := by
  simp [weftCodeArrives, h]

theorem weftCodeArrives_pending (k : Nat) {d : Device} (hrole : d.control.role = .weftRole) (h : d.weft.choice = .pending) :
    weftCodeArrives k d = doIf (decide (d.weft.arrival ≠ .idle)) lateChoice (chooseFinger k d) := by
  simp [weftCodeArrives, isWeft, hrole, h]

/-- A choice made after Fa changes the output at once; with no finger an outstanding check is SKIPPED. -/
theorem lateChoice_weft (d : Device) :
    (lateChoice d).weft = { d.weft with
      output := chosenFinger d.weft.choice, stopMark := false
      arrival := if d.weft.choice = .chosen none ∧ (d.weft.arrival = .waiting ∨ d.weft.arrival = .openWindow) then .skipped
        else d.weft.arrival } := by
  have hlate : lateChoice d =
      doIf (decide (d.weft.choice = .chosen none ∧ (d.weft.arrival = .waiting ∨ d.weft.arrival = .openWindow)))
        (setArrival .skipped) (onWeft (fun w => { w with stopMark := false }) (outputChoice d)) := by
    simp only [Bool.decide_and, Bool.decide_or]
    rfl
  rw [hlate]
  by_cases h : d.weft.choice = .chosen none ∧ (d.weft.arrival = .waiting ∨ d.weft.arrival = .openWindow)
  · rw [decide_eq_true h, doIf_true, if_pos h]
    rfl
  · rw [decide_eq_false h, doIf_false, if_neg h]
    rfl

/-- At `t` the weft selector of `d` has taken the code `k` that a fetch handed it. -/
structure CodeTaken (k : Nat) (d t : Device) : Prop where
  toggles : t.weft.toggles = d.weft.toggles
  settled : d.weft.choice ≠ .pending → t.weft = d.weft
  beforeFa : d.weft.choice = .pending → d.weft.arrival = .idle → t.weft = { d.weft with choice := t.weft.choice }
  afterFa : d.weft.choice = .pending → d.weft.arrival ≠ .idle → t.weft = { d.weft with
    choice := t.weft.choice, output := chosenFinger t.weft.choice, stopMark := false
    arrival := if t.weft.choice = .chosen none ∧ (d.weft.arrival = .waiting ∨ d.weft.arrival = .openWindow) then .skipped
      else d.weft.arrival }
  made : d.weft.choice = .pending → ChoiceMade k d t

theorem weftCodeArrives_taken (k : Nat) {d : Device} (hrole : d.control.role = .weftRole) :
    CodeTaken k d (weftCodeArrives k d) := by
  have hchosen := chooseFinger_weft k d
  have hmade := chooseFinger_made k d
  by_cases hpending : d.weft.choice = .pending
  · rw [weftCodeArrives_pending k hrole hpending]
    by_cases hidle : d.weft.arrival = .idle
    · rw [decide_eq_false (not_not.mpr hidle), doIf_false]
      exact ⟨hchosen.toggles, fun h => absurd hpending h, fun _ _ => hchosen, fun _ h => absurd hidle h,
        fun _ => hmade⟩
    · rw [decide_eq_true hidle, doIf_true]
      have hlate := lateChoice_weft (chooseFinger k d)
      have hchoice : (lateChoice (chooseFinger k d)).weft.choice = (chooseFinger k d).weft.choice :=
        (congrArg WeftSel.choice hlate :)
      have htoggles : (lateChoice (chooseFinger k d)).weft.toggles = (chooseFinger k d).weft.toggles :=
        (congrArg WeftSel.toggles hlate :)
      refine ⟨htoggles.trans hchosen.toggles, fun h => absurd hpending h, fun _ h => absurd h hidle,
        fun _ _ => ?_, fun _ => hmade.kept hchoice htoggles (.of_eq (by simp) (by simp))⟩
      rw [hchoice, hlate, hchosen.arrival]
      conv_lhs => rw [hchosen]
  · rw [weftCodeArrives_settled k hpending]
    exact ⟨rfl, fun _ => rfl, fun h => absurd h hpending, fun h => absurd h hpending, fun h => absurd h hpending⟩

/-- What the report to the line, and whatever else leaves weft selector and reports as they are, leaves of a code taken. -/
theorem CodeTaken.kept {k : Nat} {d x t : Device} (h : CodeTaken k d x) (hweft : t.weft = x.weft) (hstays : StaysReported x t) :
    CodeTaken k d t := by
  obtain ⟨htoggles, hsettled, hbefore, hafter, hmade⟩ := h
  refine ⟨?_, ?_, ?_, ?_, fun hp => (hmade hp).kept (by rw [hweft]) (by rw [hweft]) hstays⟩ <;> rw [hweft] <;> assumption

theorem CodeTaken.of_found {k : Nat} {d x t : Device} (h : CodeTaken k x t) (hweft : x.weft = d.weft)
    (hfeeders : x.pins.feederStop = d.pins.feederStop) (hstate : x.control.state = d.control.state) : CodeTaken k d t := by
  obtain ⟨htoggles, hsettled, hbefore, hafter, hmade⟩ := h
  rw [hweft] at htoggles hsettled hbefore hafter hmade
  exact ⟨htoggles, hsettled, hbefore, hafter, fun hp => (hmade hp).of_found (by rw [hweft]) hfeeders hstate⟩

/-! ## What a PICK fetch hands on (R66, R68) -/

theorem handRow_weft (weft : Nat) (field : List Byte) {d : Device} (h : d.control.role = .weftRole) :
    handRow weft field d = weftCodeArrives weft d := by
  simp [handRow, isSection, h]

/-- A station in the weft role has no hooks, so its rows have no lift field. -/
theorem liftBytes_weft {d : Device} (h : d.control.role = .weftRole) : liftBytes d = 0 := by
  simp [liftBytes, capacityOf, h]

theorem readRow_field_weft (row : Nat) {d : Device} (h : d.control.role = .weftRole) : (readRow d row).field = [] := by
  simp [readRow, Memory.readBytes, liftBytes_weft h]

/-- The station as a damaged PICK fetch hands on its code in the weft role: ROW DAMAGED and its hold, the result filled, code and
lift count handed on (R68, R71). -/
def damagedHanded (row : Nat) (o : Option Nat) (d : Device) : Device :=
  handPick (o.getD 15) 0 (fillResult ⟨row, o.getD 15, 0, [], false⟩ (ownHold (markDamaged row d)))

theorem damagedHanded_seq (row : Nat) (o : Option Nat) (d : Device) :
    (damagedHanded row o d).seq = { d.seq with
      void := d.seq.void || decide (d.control.state = .weave), pickWeft := some (o.getD 15), pickLift := some 0 } := by
  simp [damagedHanded, handPick, ownHold_seq]

theorem damagedHanded_store (row : Nat) (o : Option Nat) (d : Device) :
    (damagedHanded row o d).store = { d.store with
      fetch := .idle, result := some ⟨row, o.getD 15, 0, [], false⟩, lastDamaged := some row } := by
  simp [damagedHanded, fillResult, markDamaged]

theorem damagedHanded_flag (row : Nat) (o : Option Nat) (d : Device) :
    flagOf .rowDamaged (damagedHanded row o d).control = true := by
  simp [damagedHanded, markDamaged]

@[simp] theorem damagedHanded_frame (row : Nat) (o : Option Nat) (d : Device) :
    (damagedHanded row o d).weft = d.weft ∧ (damagedHanded row o d).pins = d.pins ∧
    (damagedHanded row o d).control.state = d.control.state ∧ (damagedHanded row o d).control.role = d.control.role := by
  simp [damagedHanded]

/-! ## The fetch in the weft role -/

/-- A code handed to the weft selector and the fetch reported to the line. -/
theorem tellLine_taken (rev : Bool) (k : Nat) {d : Device} (h : d.control.role = .weftRole) :
    CodeTaken k d (tellLine rev (weftCodeArrives k d)) :=
  (weftCodeArrives_taken k h).kept (by simp) (.of_eq (by simp) (by simp))

theorem tellLine_stays (rev : Bool) (k : Nat) (d : Device) : StaysReported d (tellLine rev (weftCodeArrives k d)) :=
  (weftCodeArrives_onlyHolds k d).staysReported.trans (.of_eq (by simp) (by simp))

/-- After the code has been handed on, no more of the sequencer than the void flag changes. -/
theorem tellLine_seq (rev : Bool) (k : Nat) (d : Device) :
    ∃ v, (tellLine rev (weftCodeArrives k d)).seq = { d.seq with void := v } := by
  obtain ⟨-, hseq, -⟩ := tellLine_frame rev (weftCodeArrives k d)
  exact ⟨_, hseq.trans (weftCodeArrives_onlyHolds k d).seq⟩

section
variable (row : Nat) (rev : Bool) (o : Option Nat) {d : Device} (h : d.control.role = .weftRole)
include h

theorem soundPick_weft (r : RowRead) :
    soundPick row rev o r d = tellLine rev (weftCodeArrives r.weft.toNat (soundHanded row o r d)) := by
  rw [← handRow_weft r.weft.toNat r.field (d := soundHanded row o r d) (by simpa [soundHanded] using h)]
  rfl

/-- A sound PICK fetch in the weft role: the row's code taken, its lift count 0. -/
theorem soundPick_weft_blocks {r : RowRead} (hr : r.field = []) :
    (soundPick row rev o r d).store = { d.store with
      fetch := .idle, result := some ⟨row, r.weft.toNat, 0, [], true⟩ } ∧
    (soundPick row rev o r d).seq.pickWeft = some (o.getD r.weft.toNat) ∧ (soundPick row rev o r d).seq.pickLift = some 0 ∧
    CodeTaken r.weft.toNat d (soundPick row rev o r d) := by
  have hcount : liftCount ([] : List Byte) = 0 := rfl
  obtain ⟨v, hseq⟩ := tellLine_seq rev r.weft.toNat (soundHanded row o r d)
  have htaken := (tellLine_taken rev r.weft.toNat (d := soundHanded row o r d) (by simpa [soundHanded] using h)).of_found
    (d := d) (by simp [soundHanded]) (by simp [soundHanded]) (by simp [soundHanded])
  rw [soundPick_weft row rev o h, hseq]
  exact ⟨by simp [soundHanded, fillResult, hr, hcount], rfl, by simp [soundHanded, handPick, hr, hcount], htaken⟩

theorem damagedPick_weft :
    damagedPick row rev o d = tellLine rev (weftCodeArrives (o.getD 15) (damagedHanded row o d)) := by
  rw [← handRow_weft (o.getD 15) [] (d := damagedHanded row o d) (by simpa using h)]
  simp [damagedPick, zeroField, isSection, liftBytes_weft, h, damagedHanded]

/-- A damaged PICK fetch in the weft role: the override's code taken, or 15; ROW DAMAGED, and the pick void in WEAVE. -/
theorem damagedPick_weft_blocks :
    (damagedPick row rev o d).store = { d.store with
      fetch := .idle, result := some ⟨row, o.getD 15, 0, [], false⟩, lastDamaged := some row } ∧
    (damagedPick row rev o d).seq.pickWeft = some (o.getD 15) ∧ (damagedPick row rev o d).seq.pickLift = some 0 ∧
    flagOf .rowDamaged (damagedPick row rev o d).control = true ∧
    (d.control.state = .weave → (damagedPick row rev o d).seq.void = true) ∧
    CodeTaken (o.getD 15) d (damagedPick row rev o d) := by
  obtain ⟨v, hseq⟩ := tellLine_seq rev (o.getD 15) (damagedHanded row o d)
  have hstays := tellLine_stays rev (o.getD 15) (damagedHanded row o d)
  have htaken := (tellLine_taken rev (o.getD 15) (d := damagedHanded row o d) (by simpa using h)).of_found
    (d := d) (by simp) (by simp) (by simp)
  rw [damagedPick_weft row rev o h]
  refine ⟨by simpa using damagedHanded_store row o d, by rw [hseq]; rfl, by rw [hseq]; rfl,
    hstays.flags _ (damagedHanded_flag row o d), fun hweave => hstays.void ?_, htaken⟩
  simp [damagedHanded_seq, hweave]

end

end Sys2Proof.Machine
end

section
/-! SUPPORT. The finger angle and the arrival window: the steps onto Fa, Ao and Ac (R104, R157 to R159). -/

namespace Sys2Proof.Machine

/-! ## Which crossings a step raises (R6, R7, R171) -/

theorem forwardCrossings_at_ao {c : Configuration} (h : soundConfig .weftRole c = true) (d : Device) :
    forwardCrossings c .weftRole c.ao d = arrivalOpen d := by
  obtain ⟨-, -, -, hb, -⟩ := weft_angles_ne h
  obtain ⟨-, hguard, -, -, hfa, -⟩ := weft_angles_apart h
  obtain ⟨-, -, -, hac⟩ := weft_angles_rise h
  simp [forwardCrossings, hb.symm, hguard.symm, hfa.symm, ne_of_arc_lt hac, doIf_true, doIf_false]

theorem forwardCrossings_at_ac {c : Configuration} (h : soundConfig .weftRole c = true) (d : Device) :
    forwardCrossings c .weftRole c.ac d = arrivalClose d := by
  obtain ⟨-, -, -, -, hb⟩ := weft_angles_ne h
  obtain ⟨-, -, hguard, -, -, hfa⟩ := weft_angles_apart h
  obtain ⟨-, -, -, hao⟩ := weft_angles_rise h
  simp [forwardCrossings, hb.symm, hguard.symm, hfa.symm, (ne_of_arc_lt hao).symm, doIf_true, doIf_false]

theorem reverseCrossings_at_fa {c : Configuration} (h : soundConfig .weftRole c = true) (d : Device) :
    reverseCrossings c .weftRole c.fa d = reverseFingerAngle d := by
  obtain ⟨-, -, hb, -⟩ := weft_angles_ne h
  simp [reverseCrossings, hb.symm, doIf_true, doIf_false]

/-! ## The choice examined again (R157 step 1) -/

theorem mapEntry_congr {d t : Device} (h : t.weft = d.weft) (k : Nat) : mapEntry t k = mapEntry d k := by
  rw [mapEntry, mapEntry, h]

theorem reexamine_running {d : Device} (h : ∀ f, d.weft.choice = .chosen (some f) → stopped d f = false) : reexamine d = d := by
  unfold reexamine
  split
  · next f hchoice => rw [h f hchoice, if_neg Bool.false_ne_true]
  · rfl

section
variable {d : Device} {f : Nat} {e : MapEntry} (hchoice : d.weft.choice = .chosen (some f)) (hstop : stopped d f = true)
  (hm : mapEntry d (d.seq.pickWeft.getD 15) = some e)
include hchoice hstop hm

theorem reexamine_stops : reexamine d = substitute (otherFinger e f) d := by
  simp [reexamine, hchoice, hstop, hm]

/-- The finger's feeder is stopped and the other one of the pair runs. -/
theorem fingerAngle_substituted {g : Nat} (hg : otherFinger e f = some g) (hrun : stopped d g = false) :
    (fingerAngle d).weft = { d.weft with
      choice := .chosen (some g), output := some g, arrival := .waiting, stopMark := false } ∧
    flagOf .substituted (fingerAngle d).control = true := by
  rw [fingerAngle, reexamine_stops hchoice hstop hm, substitute_runs hg hrun]
  exact ⟨rfl, by simp⟩

/-- No finger of the pair has a running feeder. -/
theorem fingerAngle_stopped (hweave : d.control.state = .weave) (hall : (otherFinger e f).all (stopped d) = true) :
    (fingerAngle d).weft = { d.weft with
      choice := .chosen none, output := none, arrival := .skipped, stopMark := false } ∧
    flagOf .feederStop (fingerAngle d).control = true ∧ (fingerAngle d).seq.void = true := by
  rw [fingerAngle, reexamine_stops hchoice hstop hm, substitute_stopped hall]
  refine ⟨?_, by simpa using noFinger_feederStop d, by simpa using noFinger_voids hweave⟩
  simp [outputChoice, noFinger_weft, chosenFinger, armedArrival]

end

theorem armedArrival_eq (x : Choice) :
    armedArrival x = if x = .none ∨ x = .chosen none then .skipped else .waiting := by
  cases x with
  | none => rfl
  | pending => rfl
  | chosen f => cases f <;> simp [armedArrival]

/-- The output takes the choice as it stands (R157 steps 2 and 3). -/
theorem fingerAngle_running {d : Device} (h : ∀ f, d.weft.choice = .chosen (some f) → stopped d f = false) :
    (fingerAngle d).weft = { d.weft with
      output := chosenFinger d.weft.choice, stopMark := false
      arrival := if d.weft.choice = .none ∨ d.weft.choice = .chosen none then .skipped else .waiting } := by
  rw [fingerAngle, reexamine_running h, ← armedArrival_eq]
  rfl

/-! ## The close that goes with Fa clears no report (R104, R107, R108) -/

theorem setFlag_stays (f : Flag) (d : Device) : StaysReported d (setFlag f d) := ⟨fun g hg => by simp [hg], id⟩

theorem judgeAgreement_stays (d : Device) : StaysReported d (judgeAgreement d) := by
  have hmarked (b : Bool) (x : Device) : StaysReported x (setMinority b x) := .of_eq rfl rfl
  have hadopted (q : Position) : StaysReported d (adoptPosition q d) := ⟨fun _ => id, fun _ => rfl⟩
  obtain e | e | ⟨q, e⟩ | e := judgeAgreement_cases d <;> rw [e]
  · exact hmarked _ d
  · exact (setFlag_stays _ d).trans (hmarked _ _)
  · exact (((hadopted q).trans (setFlag_stays _ _)).trans (ownHold_onlyHolds _).staysReported).trans (hmarked _ _)
  · exact (setFlag_stays _ d).trans (ownHold_onlyHolds _).staysReported

theorem rosterClose_stays {d : Device} (hweave : d.control.state = .weave) (hrole : d.control.role = .weftRole) :
    StaysReported d (rosterClose d) := by
  cases hopen : d.roster.windowOpen with
  | false =>
    rw [rosterClose_closed hopen]
    exact .of_eq (by simp) (by simp)
  | true =>
    obtain ⟨hseq, hcontrol, -⟩ := closing_kept d
    have hcounted : StaysReported d (countMisses (closing d)) := .of_eq hcontrol (by simp [hseq])
    rw [rosterClose_weft hweave hopen hrole]
    exact (hcounted.trans (judgeAgreement_stays _)).trans (.of_eq rfl rfl)

/-- Fa crossed forward in WEAVE: the weft selector as the finger angle leaves it, its reports standing after the close. -/
theorem forwardFa_weave {d : Device} (hweave : d.control.state = .weave) (hrole : d.control.role = .weftRole) :
    (forwardFa d).weft = (fingerAngle d).weft ∧ StaysReported (fingerAngle d) (forwardFa d) := by
  have hfa : forwardFa d = rosterClose (fingerAngle d) := by simp [forwardFa, inWeave, hweave, doIf_true]
  rw [hfa]
  exact ⟨by simp, rosterClose_stays (by simpa using hweave) (by simpa using hrole)⟩

/-! ## The other crossings (R158, R159) -/

theorem reverseFingerAngle_weft {d : Device} (hweave : d.control.state = .weave) :
    (reverseFingerAngle d).weft = { d.weft with output := chosenFinger d.weft.choice } := by
  simp [reverseFingerAngle, inWeave, hweave, doIf_true, outputChoice]

theorem arrivalOpen_weft (d : Device) :
    (arrivalOpen d).weft = { d.weft with
      arrival := if d.weft.arrival = .waiting then .openWindow else d.weft.arrival } := by
  by_cases h : d.weft.arrival = .waiting <;> simp [arrivalOpen, h, doIf_true, doIf_false, setArrival]

theorem arrivalClose_missing {d : Device} (hweave : d.control.state = .weave)
    (h : d.weft.arrival = .waiting ∨ d.weft.arrival = .openWindow) :
    (arrivalClose d).weft = { d.weft with arrival := .ended } ∧ flagOf .weftMissing (arrivalClose d).control = true ∧
    (arrivalClose d).seq.void = true := by
  have hout : arrivalOutstanding d = true := by simpa [arrivalOutstanding] using h
  rw [arrivalClose, if_pos hout]
  exact ⟨by simp [setArrival], weftIsMissing_reported hweave⟩

theorem arrivalClose_arrived {d : Device} (h : d.weft.arrival = .arrived) : arrivalClose d = setArrival .ended d := by
  simp [arrivalClose, arrivalOutstanding, h, doIf_true]

theorem arrivalClose_over {d : Device} (h : d.weft.arrival = .idle ∨ d.weft.arrival = .ended ∨ d.weft.arrival = .skipped) :
    arrivalClose d = d := by
  rcases h with h | h | h <;> simp [arrivalClose, arrivalOutstanding, h, doIf_false]

end Sys2Proof.Machine
end

section
/-! The statements about weft selection, settled. -/

namespace Sys2Proof.Machine

/-- Settles O44: the detector by the cases of `detectorPulse`, the feeder stops by `feederInput_watched` and
`feederInput_ignored`. -/
theorem weftInputsAreWatched : Obligations.WeftInputsAreWatched := by
  unfold Obligations.WeftInputsAreWatched
  intro s hp
  refine ⟨fun h => ?_, fun h => ?_, fun hwaiting hopen => ?_, fun f hf hrole hweave hout harrival hlow => ?_,
    fun f active hcause => ?_⟩
  · exact (completed_powered hp).trans (by rw [detectorPulse_waiting h]; rfl)
  · exact (completed_powered hp).trans (by rw [detectorPulse_open h]; rfl)
  · exact (completed_powered hp).trans (by rw [detectorPulse_ignored hwaiting hopen])
  · have hwatched : stopWatched f true s.dev = true := by
      simp [stopWatched, isWeft, inWeave, stopped, hrole, hweave, hout, harrival, hlow]
    obtain ⟨hflag, hweft, hseq, hpins⟩ := feederInput_watched hwatched
    refine ⟨_, completed_powered (f := feederInput f true) hp, rfl, hflag, hweft, ?_, hpins, by simp, by simp, by simp⟩
    simpa [hweave] using hseq
  · have hignored : stopWatched f active s.dev = false := by
      simp only [stopWatched, isWeft, inWeave, stopped]
      rcases hcause with h | h | h | h | h | h <;> simp [h]
    refine ⟨_, completed_powered (f := feederInput f active) hp, rfl, ?_⟩
    rw [feederInput_ignored hignored]
    exact ⟨rfl, fun hf => feederSampled_reads hf active s.dev⟩

/-- Settles O53: the crossing of B by `forwardB_weft_rest` and `forwardB_chooses`, of the station that its step finds; the fetch by
`soundPick_weft_blocks` and `damagedPick_weft_blocks`. -/
theorem weftCodeChoosesTheFinger : Obligations.WeftCodeChoosesTheFinger := by
  unfold Obligations.WeftCodeChoosesTheFinger
  refine ⟨fun a b dt sense s c hr hstate hrole hs => ?_, fun s row e rev o hp hrole hf hw hsound => ?_,
    fun s row e rev o hp hrole hf hbad => ?_⟩
  · obtain ⟨-, hc, hsound, -⟩ := (referencedBy_iff c s.dev).mp hr
    have hexec := exec_forward_onto dt sense hr hs
    have hrecorded := recordedWeft_steppedOnto .forward dt sense s.dev
    have hfeeders := steppedOnto_feederStop .forward dt sense s.dev
    obtain ⟨hseq, hweft, -, -, -, hrole', hc', -⟩ := steppedOnto_frame .forward dt sense s.dev
    obtain ⟨hweave, -⟩ := steppedOnto_weave (dir := .forward) (dt := dt) (sense := sense) hstate
    generalize steppedOnto .forward dt sense s.dev = p at *
    rw [forwardCrossings_at_b_weave hsound hweave (hc'.trans hc)] at hexec
    have hkept := forwardB_weft_rest c hweave (hrole'.trans hrole)
    have htoggles : (forwardB c p).weft.toggles = (leftCodeFlipped p).weft.toggles := (congrArg WeftSel.toggles hkept :)
    rw [← hseq, ← hweft, ← hrecorded]
    refine ⟨_, hexec, rfl, fun hvoid => htoggles.trans (leftCodeFlipped_repeat hvoid),
      fun i hi hvoid => (congrArg (·.getLsbD i) htoggles).trans (leftCodeFlipped_advance hvoid hi),
      (congrArg WeftSel.arrival hkept :), (congrArg WeftSel.output hkept :), (congrArg WeftSel.map hkept :),
      forwardB_missing c hweave (hrole'.trans hrole), forwardB_pending c hweave (hrole'.trans hrole), fun k ho => ?_⟩
    have hmade := (forwardB_chooses c hweave (hrole'.trans hrole) ho).of_found (d := s.dev) (by rw [hweft]) hfeeders
      (hweave.trans hstate.symm)
    rw [hweft]
    exact ⟨hmade.codeless, hmade.mapped⟩
  · obtain ⟨hstore, hcode, hlift, htaken⟩ := soundPick_weft_blocks row rev o hrole (readRow_field_weft row hrole)
    have hexec := exec_fetchComplete (upset := []) hp
    rw [fetchCompletes_sound hf hw hsound] at hexec
    refine ⟨_, hexec, rfl, hstore, htaken.toggles, hcode, hlift,
      htaken.settled, htaken.beforeFa, htaken.afterFa, ?_⟩
    rintro _ rfl hpending
    exact ⟨(htaken.made hpending).codeless, (htaken.made hpending).mapped⟩
  · obtain ⟨hstore, hcode, hlift, hflag, hvoid, htaken⟩ := damagedPick_weft_blocks row rev o hrole
    have hexec := exec_fetchComplete (upset := []) hp
    rw [fetchCompletes_damaged hf hbad] at hexec
    refine ⟨_, hexec, rfl, hstore, htaken.toggles, hcode, hlift,
      htaken.settled, htaken.beforeFa, htaken.afterFa, hflag, hvoid, ?_⟩
    rintro _ rfl hpending
    exact ⟨(htaken.made hpending).codeless, (htaken.made hpending).mapped⟩

/-- Settles O54: the steps by `exec_onto` and the crossings of Fa, Ao and Ac, of the station that the step finds; the finger by the
`fingerAngle` lemmas, its reports by `forwardFa_weave`. -/
theorem fingerComesOnAndArrivalIsChecked : Obligations.FingerComesOnAndArrivalIsChecked := by
  unfold Obligations.FingerComesOnAndArrivalIsChecked
  refine ⟨fun a b dt sense s c hr hstate hrole hs => ?_, fun a b dt sense s c hr hstate hrole hs => ?_,
    fun a b dt sense s c hr hstate hrole hs => ?_, fun a b dt sense s c hr hstate hrole hs => ?_⟩
  all_goals
    obtain ⟨-, -, hsound, -⟩ := (referencedBy_iff c s.dev).mp hr
    have hexec := exec_onto dt sense hr hs
    rw [hrole] at hsound
    rw [hrole, crossingsOf] at hexec
  · obtain ⟨hseq, hweft, -, -, -, hrole', -⟩ := steppedOnto_frame .forward dt sense s.dev
    obtain ⟨hweave, -⟩ := steppedOnto_weave (dir := .forward) (dt := dt) (sense := sense) hstate
    have hstopped := steppedOnto_stopped .forward dt sense s.dev
    generalize steppedOnto .forward dt sense s.dev = p at *
    rw [forwardCrossings_at_fa hsound] at hexec
    obtain ⟨hfa, hstays⟩ := forwardFa_weave hweave (hrole'.trans hrole)
    rw [← hseq, ← hweft]
    refine ⟨_, hexec, rfl, fun f hchoice hstop e hm => ?_, fun hrun => ?_⟩
    · have hentry : mapEntry p (p.seq.pickWeft.getD 15) = some e := (mapEntry_congr hweft _).trans hm
      have hstop' : stopped p f = true := (congrFun hstopped f).trans hstop
      refine ⟨fun g hg hrun => ?_, fun hall => ?_⟩
      · obtain ⟨hfinger, hflag⟩ := fingerAngle_substituted hchoice hstop' hentry hg ((congrFun hstopped g).trans hrun)
        exact ⟨hfa.trans hfinger, hstays.flags _ hflag⟩
      · obtain ⟨hfinger, hflag, hvoid⟩ := fingerAngle_stopped hchoice hstop' hentry hweave (by rwa [hstopped])
        exact ⟨hfa.trans hfinger, hstays.flags _ hflag, hstays.void hvoid⟩
    · exact hfa.trans (fingerAngle_running fun f hchoice => (congrFun hstopped f).trans (hrun f hchoice))
  · obtain ⟨hseq, hweft, hroster, -⟩ := steppedOnto_frame .reverse dt sense s.dev
    obtain ⟨hweave, -⟩ := steppedOnto_weave (dir := .reverse) (dt := dt) (sense := sense) hstate
    rw [reverseCrossings_at_fa hsound] at hexec
    refine ⟨_, hexec, rfl, ?_, by simp, by simp⟩
    rw [← hweft]
    exact reverseFingerAngle_weft hweave
  · obtain ⟨-, hweft, -⟩ := steppedOnto_frame .forward dt sense s.dev
    rw [forwardCrossings_at_ao hsound] at hexec
    refine ⟨_, hexec, rfl, ?_, by simp⟩
    rw [← hweft]
    exact arrivalOpen_weft _
  · obtain ⟨hseq, hweft, -⟩ := steppedOnto_frame .forward dt sense s.dev
    obtain ⟨hweave, -⟩ := steppedOnto_weave (dir := .forward) (dt := dt) (sense := sense) hstate
    rw [forwardCrossings_at_ac hsound] at hexec
    rw [← hseq, ← hweft]
    refine ⟨_, hexec, rfl, arrivalClose_missing hweave, fun h => ?_, fun h => ?_⟩
    · rw [arrivalClose_arrived h]
      exact ⟨rfl, rfl⟩
    · rw [arrivalClose_over h]
      exact ⟨rfl, rfl⟩

end Sys2Proof.Machine
end

section
/-! SUPPORT. A match entry against a position, field by field (R163, R165). -/

namespace Sys2Proof.Machine

/-- A field of an entry is ANY or holds the value. -/
theorem accepts_iff {f : Option Nat} {v : Nat} : accepts f v = true ↔ ∀ x, f = some x → x = v := by
  cases f with
  | none => simp [accepts]
  | some y => simp [accepts]

theorem entryMatches_iff {p : Position} {e : MatchEntry} :
    entryMatches p e = true ↔ e.enabled = true ∧
      (∀ x, e.run = some x → x = p.run) ∧ (∀ x, e.iteration = some x → x = p.iteration) ∧
      (∀ x, e.row = some x → x = p.row) ∧ (∀ x, e.piece = some x → x = p.piece) := by
  simp only [entryMatches, Bool.and_eq_true, accepts_iff, and_assoc]

/-- An action is matched where an entry of the table carries it and matches the position. -/
theorem actionMatched_iff {d : Device} {a : MatchAction} :
    actionMatched d a = true ↔ ∃ e ∈ d.seq.table, entryMatches d.seq.pos e = true ∧ e.action = a := by
  simp only [actionMatched, List.any_eq_true, Bool.and_eq_true, decide_eq_true_eq]

end Sys2Proof.Machine
end

section
/-! The statement about pick matches, settled. -/

namespace Sys2Proof.Machine

/-- Settles O13: the actions by `evaluateMatches_seq` and `evaluateMatches_control`, the comparison entry by entry. -/
theorem matchActionsAtAnAdvance : Obligations.MatchActionsAtAnAdvance := by
  unfold Obligations.MatchActionsAtAnAdvance
  intro d hweave
  obtain ⟨-, hnotice, hrestart⟩ := evaluateMatches_control d
  refine ⟨evaluateMatches_seq hweave, hnotice, hrestart, fun act => actionMatched_iff.trans ?_⟩
  refine exists_congr fun e => and_congr_right fun _ => ?_
  rw [entryMatches_iff, and_assoc]
  exact and_congr_right' and_comm

end Sys2Proof.Machine
end

section
/-! SUPPORT. How every command answers (00, 95). -/

namespace Sys2Proof.Machine

theorem completed_next (f : Device → Device) (s : State) : ∃ t, completed f s = .next t ∧ t.pending = s.pending := by
  cases hp : s.dev.control.powered with
  | true => exact ⟨_, completed_powered hp, rfl⟩
  | false => exact ⟨s, completed_unpowered hp, rfl⟩

/-- Every command but POWER_ON is an effect that takes place while main power is present (log 15). -/
theorem exec_powerOn_or_completed (i : Instr) :
    (∃ number role a b held backup sram, i = .powerOn number role a b held backup sram) ∨
      ∃ f, ∀ s, exec i s = completed f s := by
  cases i
  case powerOn => exact .inl ⟨_, _, _, _, _, _, _, rfl⟩
  all_goals exact .inr ⟨_, fun _ => rfl⟩

end Sys2Proof.Machine
end

section
/-! SUPPORT. The station state along the table of R169, the straps and the configuration: what every operation of the station may do
to them (R169, R172, R180). -/

namespace Sys2Proof.Machine

/-! ## Moves of the station -/

/-- What the command `i` may do to station state, straps and configuration: leave them, reset them, go along an edge of R169, and as
CONFIGURE take another configuration. -/
structure FollowsTable (i : Instr) (c c' : Control) : Prop where
  state : c'.state = c.state ∨ c'.state = .dormant ∨ stateEdge c.state c'.state = true
  straps : (c'.number = c.number ∧ c'.role = c.role) ∨ c'.state = .dormant
  config : c'.config = c.config ∨ (c'.config = none ∧ c'.state = .dormant) ∨ i = .configure

namespace FollowsTable

variable {i : Instr} {c c' : Control}

/-- Straps and configuration kept, the station state kept or changed along an edge. -/
theorem of_edge (h : c'.number = c.number ∧ c'.role = c.role ∧ c'.config = c.config)
    (hs : c'.state = c.state ∨ stateEdge c.state c'.state = true) : FollowsTable i c c' :=
  ⟨hs.imp_right .inr, .inl ⟨h.1, h.2.1⟩, .inl h.2.2⟩

/-- Station state, straps and configuration kept. -/
theorem of_kept (h : c'.state = c.state ∧ c'.number = c.number ∧ c'.role = c.role ∧ c'.config = c.config) :
    FollowsTable i c c' :=
  of_edge h.2 (.inl h.1)

theorem of_eq (h : c' = c) : FollowsTable i c c' := of_kept (by simp [h])

/-- A reset (R180). -/
theorem of_reset (hs : c'.state = .dormant) (hc : c'.config = none) : FollowsTable i c c' :=
  ⟨.inr (.inl hs), .inr hs, .inr (.inl ⟨hc, hs⟩)⟩

end FollowsTable

/-! ## Training and the shaft (R147, R148) -/

/-- The station state goes on, or a training run ends in READY. -/
def TrainGoesOn (c c' : Control) : Prop := c'.state = c.state ∨ (c.state = .train ∧ c'.state = .ready)

theorem TrainGoesOn.follows {i : Instr} {c c' : Control} (h : TrainGoesOn c c')
    (hk : c'.number = c.number ∧ c'.role = c.role ∧ c'.config = c.config) : FollowsTable i c c' := by
  refine .of_edge hk (h.imp_right fun ⟨htrain, hready⟩ => ?_)
  rw [htrain, hready]
  decide

theorem TrainGoesOn.of_train {c c' : Control} (hs : c.state = .train) (h : c'.state = .train ∨ c'.state = .ready) :
    TrainGoesOn c c' :=
  h.imp (·.trans hs.symm) fun hready => ⟨hs, hready⟩

/-- The pre-checks begin a trial in TRAIN, or end the run in READY. -/
theorem preCheck_state (n : Nat) {d : Device} (hs : d.control.state = .train) :
    (preCheck n d).control.state = .train ∨ (preCheck n d).control.state = .ready := by
  induction n generalizing d with
  | zero => exact .inr (trainComplete_state d)
  | succ n ih =>
    unfold preCheck
    dsimp only
    split
    · split
      · exact ih (by simpa using hs)
      · exact .inr (trainComplete_state _)
    · exact .inl (by simpa using hs)

theorem endString_state (f : SelString → SelString) {d : Device} (hs : d.control.state = .train) :
    (endString f d).control.state = .train ∨ (endString f d).control.state = .ready := by
  unfold endString nextTrained
  split
  · exact preCheck_state 8 (by simpa using hs)
  · exact .inr (trainComplete_state _)

/-- A rest ends in TRAIN (R145, R146). -/
theorem endRest_goesOn (armature : BitVec 8) {d : Device} (h : trainingSound d = true) :
    TrainGoesOn d.control (endRest armature d).control := by
  unfold endRest
  split
  · next hphase =>
    have hs : d.control.state = .train := ((trainingSound_iff d).mp h).1 (by simp [hphase])
    have hend (f : SelString → SelString) :
        TrainGoesOn d.control (endString f (onPins (fun p => { p with armature := armature }) d)).control :=
      .of_train hs (endString_state f (by simpa using hs))
    dsimp only
    split
    · exact hend _
    · split
      · exact .inl (by simp)
      · split
        · exact hend _
        · split
          · exact .inl (by simp)
          · exact hend _
  · exact .inl rfl

/-- String power comes ON, where a training run that waited for it makes its pre-checks (R127, R143). -/
theorem powerComesOn_goesOn (armature : BitVec 8) {d : Device} (h : trainingSound d = true) :
    TrainGoesOn d.control (powerComesOn armature d).control := by
  have htrain := ((trainingSound_iff d).mp h).1
  have hwoken : ∀ m : Device, m.control = d.control → m.trainer = d.trainer →
      TrainGoesOn d.control (dwellTest (if m.trainer.phase = .waking then preCheck 8 m else m)).control := by
    intro m hcontrol htrainer
    simp only [dwellTest_frame]
    split
    · next hw =>
      have hs : d.control.state = .train := htrain (by simp [← htrainer, hw])
      exact .of_train hs (preCheck_state 8 (by simpa [hcontrol] using hs))
    · exact .inl (by rw [hcontrol])
  unfold powerComesOn
  split
  · dsimp only
    split
    · exact hwoken _ (by simp) (by simp)
    · exact hwoken _ (by simp) (by simp)
  · exact .inl rfl

/-- A counting step ends a training run, and changes the station state in no other way (R148). -/
theorem handMotion_goesOn (d : Device) : TrainGoesOn d.control (handMotion d).control := by
  unfold handMotion
  split
  · exact .inl (by simp)
  · exact .inl (by simp)
  · exact .inl (by simp)
  · next hs => exact .inr ⟨hs, by simp⟩
  · exact .inl rfl

theorem takeStep_goesOn (dir : Direction) (index : Bool) (d : Device) : TrainGoesOn d.control (takeStep dir index d).control := by
  have hmotion := handMotion_goesOn (handSpeed d.tracker.speed (completes dir d.tracker)
    (doIf (turns dir d.tracker) turnPick (onTracker (stepTracker d.control.config dir) d)))
  simpa [TrainGoesOn, takeStep, handStep] using hmotion

theorem shaftStep_goesOn (a b index : Bool) (dt : Lapse) (sense : List StringBits) (d : Device) :
    TrainGoesOn d.control (shaftStep a b index dt sense d).control := by
  unfold shaftStep
  split
  · next dir _ => simpa [TrainGoesOn] using takeStep_goesOn dir index (onPins (fun p => { p with sense := sense }) (pass dt d))
  · exact .inl rfl

/-! ## Beacons and FAULT (R91, R101) -/

/-- A beacon of the station's own number makes FAULT, but in DORMANT and FAULT (R101). -/
theorem duplicateFound_follows {i : Instr} (d : Device) : FollowsTable i d.control (duplicateFound d).control := by
  refine .of_edge (by simp) ?_
  unfold duplicateFound
  cases hs : d.control.state <;> simp [hs, stateEdge]

theorem takeBeaconFrame_follows {i : Instr} (d : Device) : FollowsTable i d.control (takeBeaconFrame d).control := by
  unfold takeBeaconFrame
  split
  · exact .of_eq rfl
  · split
    · dsimp only
      split
      · exact .of_eq (by simp)
      · split
        · exact duplicateFound_follows (onLine _ d)
        · split
          · exact .of_kept (by simp)
          · exact .of_eq (by simp)
    · exact .of_eq rfl

/-! ## Resets and power (R178 to R180) -/

theorem resetTo_follows {i : Instr} {c : Control} (number : Nat) (role : Role) (phase : BitVec 2) (d : Device) :
    FollowsTable i c (resetTo number role phase d).control := .of_reset rfl rfl

theorem powerOnReset_follows {i : Instr} (number : Nat) (role : Role) (a b backupHeld : Bool) (backup : Option RetainedRecord)
    (sram : List Host.Cell) (d : Device) :
    FollowsTable i d.control (powerOnReset number role a b backupHeld backup sram d).control :=
  .of_reset (by simp [powerOnReset, resetTo, Control.reset]) (by simp [powerOnReset, resetTo, Control.reset])

theorem resetTimesOut_follows {i : Instr} (d : Device) : FollowsTable i d.control (resetTimesOut d).control := by
  unfold resetTimesOut
  split
  · exact resetTo_follows _ _ _ d
  · exact .of_eq rfl

/-- A reply that leaves its slot makes the reset that waits for it (R179), and changes nothing of station control otherwise. -/
theorem leaveSlot_follows {i : Instr} (slot : SlotName) {c : Control} {d : Device} (h : d.control = c) :
    FollowsTable i c (leaveSlot slot d).control := by
  subst h
  cases hr : d.control.resetPending with
  | none =>
    rw [leaveSlot_eq slot hr]
    exact .of_eq rfl
  | some n =>
    cases slot with
    | beacon => exact .of_eq (by simp [leaveSlot])
    | reply =>
      rw [leaveSlot, replyLeaves, if_pos (by simp [hr])]
      exact resetTo_follows _ _ _ d

theorem frameSent_follows {i : Instr} (d : Device) : FollowsTable i d.control (frameSent d).control := by
  cases h : d.line.tx with
  | sending slot chars =>
    rw [frameSent_sending h]
    exact leaveSlot_follows slot (by simp)
  | _ => exact .of_eq (by simp [frameSent, h])

theorem attemptAbandoned_follows {i : Instr} (d : Device) : FollowsTable i d.control (attemptAbandoned d).control := by
  cases h : d.line.tx with
  | sending slot chars =>
    rw [attemptAbandoned_sending h]
    split
    · exact leaveSlot_follows slot (by simp)
    · exact .of_eq rfl
  | _ => exact .of_eq (by simp [attemptAbandoned, h])

theorem completeWrite_kept (c : Control) : (completeWrite c).state = c.state ∧ (completeWrite c).number = c.number ∧
    (completeWrite c).role = c.role ∧ (completeWrite c).config = c.config := by
  unfold completeWrite
  split <;> simp

theorem completeAllWrites_kept (c : Control) : (completeAllWrites c).state = c.state ∧
    (completeAllWrites c).number = c.number ∧ (completeAllWrites c).role = c.role ∧
    (completeAllWrites c).config = c.config := by
  unfold completeAllWrites
  split <;> simp

/-! ## The terminal's requests (ch. 12) -/

/-- A request row follows the table where its broadcast and, in the states that take it, its own effect do (R79, R80, R170). -/
theorem takeRequest_follows {i : Instr} {r : Request} {broadcast : Device → Device} {run : List Byte → Device → Device}
    (hb : ∀ d, FollowsTable i d.control (broadcast d).control)
    (hr : ∀ p d, d.control.state ∈ takenIn r → FollowsTable i d.control (run p d).control) (d : Device) :
    FollowsTable i d.control (takeRequest r broadcast run d).control := by
  have hpop : (popQueue d).control = d.control := by simp
  unfold takeRequest takeAddressed
  split
  · split
    · exact hpop ▸ hb (popQueue d)
    · split
      · exact .of_eq (by simp)
      · split
        · exact .of_eq (by simp)
        · next hs => exact hpop ▸ hr _ (popQueue d) ((acceptance_eq_none_iff _ _).mp hs)
  · exact .of_eq rfl

theorem discarded_follows {i : Instr} (d : Device) : FollowsTable i d.control (discarded d).control := .of_eq rfl

/-- A request without the length of its layout changes the line alone (R170). -/
theorem withLength_follows {i : Instr} {r : Request} {n : Nat} {f : Device → Device} {p : List Byte} {d : Device}
    (hf : FollowsTable i d.control (f d).control) : FollowsTable i d.control (withLength r n f p d).control := by
  unfold withLength
  split
  · exact hf
  · exact .of_eq (by simp)

/-- CONFIGURE makes LOAD of DORMANT (R172). -/
theorem runConfigure_follows (p : List Byte) {d : Device} (hs : d.control.state = .dormant) :
    FollowsTable .configure d.control (runConfigure p d).control := by
  refine ⟨?_, .inl (by simp), .inr (.inr rfl)⟩
  unfold runConfigure
  dsimp only
  split
  · exact .inl (by simp)
  · split
    · exact .inl (by simp)
    · split
      · exact .inl (by simp)
      · split
        · exact .inl (by simp)
        · exact .inr (.inr (by simp [hs, stateEdge]))

theorem runLoadDone_follows {i : Instr} (p : List Byte) {d : Device} (hs : d.control.state = .load) :
    FollowsTable i d.control (runLoadDone p d).control := by
  refine withLength_follows ?_
  split
  · exact .of_eq (by simp)
  · exact .of_edge (by simp) (.inr (by simp [hs, stateEdge, finishLoad]))

theorem armStation_follows {i : Instr} {d : Device} (hs : d.control.state = .ready) :
    FollowsTable i d.control (armStation d).control :=
  .of_edge (by simp) (.inr (by simp [hs, stateEdge, armStation]))

theorem disarmStation_follows {i : Instr} {d : Device} (hs : d.control.state = .weave) :
    FollowsTable i d.control (disarmStation d).control :=
  .of_edge (by simp) (.inr (by simp [hs, stateEdge, disarmStation]))

theorem broadcastArm_follows {i : Instr} (d : Device) : FollowsTable i d.control (broadcastArm d).control := by
  unfold broadcastArm doIf
  split
  · next hs => exact armStation_follows (of_decide_eq_true hs)
  · exact .of_eq rfl

theorem broadcastDisarm_follows {i : Instr} (d : Device) : FollowsTable i d.control (broadcastDisarm d).control := by
  unfold broadcastDisarm doIf
  split
  · next hs => exact disarmStation_follows (of_decide_eq_true (Bool.and_eq_true_iff.mp hs).1)
  · exact .of_eq rfl

theorem runDisarm_follows {i : Instr} (p : List Byte) {d : Device} (hs : d.control.state = .weave) :
    FollowsTable i d.control (runDisarm p d).control := by
  refine withLength_follows ?_
  split
  · simpa using disarmStation_follows hs
  · exact .of_eq (by simp)

theorem runTestBegin_follows {i : Instr} (p : List Byte) {d : Device} (hs : d.control.state = .ready) :
    FollowsTable i d.control (runTestBegin p d).control := by
  refine .of_edge (by simp) ?_
  unfold runTestBegin
  split
  · exact .inl (by simp)
  · split
    · exact .inl (by simp)
    · split
      · exact .inl (by simp)
      · exact .inr (by simp [hs, stateEdge, beginTest])

theorem runTestEnd_follows {i : Instr} (p : List Byte) {d : Device} (hs : d.control.state = .test) :
    FollowsTable i d.control (runTestEnd p d).control :=
  withLength_follows (.of_edge (by simp) (.inr (by simp [hs, stateEdge])))

/-- An accepted TRAIN goes on in TRAIN, or, where every pre-check finds its string STUCK at once, is back in READY (R143, R146). -/
theorem startTraining_state (armature : BitVec 8) (d : Device) :
    (startTraining armature d).control.state = .train ∨ (startTraining armature d).control.state = .ready := by
  unfold startTraining
  dsimp only
  split
  · exact preCheck_state 8 (by simp)
  · exact .inl (by simp)

theorem runTrain_follows {i : Instr} (armature : BitVec 8) (p : List Byte) {d : Device} (hs : d.control.state = .ready) :
    FollowsTable i d.control (runTrain armature p d).control := by
  unfold runTrain
  split
  · exact .of_eq (by simp)
  · refine withLength_follows ?_
    split
    · refine .of_edge (by simp) ?_
      simp only [answer_frame]
      obtain h | h := startTraining_state armature d
      · exact .inr (by simp [h, hs, stateEdge])
      · exact .inl (h.trans hs.symm)
    · exact .of_eq (by simp)

/-! ## Every command -/

theorem completed_follows {i : Instr} {f : Device → Device} {s t : State} (hf : FollowsTable i s.dev.control (f s.dev).control)
    (hs : completed f s = .next t) : FollowsTable i s.dev.control t.dev.control := by
  cases hp : s.dev.control.powered with
  | true =>
    obtain rfl := Host.Outcome.next.inj ((completed_powered hp).symm.trans hs)
    exact hf
  | false =>
    obtain rfl := Host.Outcome.next.inj ((completed_unpowered hp).symm.trans hs)
    exact .of_eq rfl

/-- A request that nothing does when addressed to all nodes. -/
theorem request_follows {i : Instr} {r : Request} {run : List Byte → Device → Device}
    (hr : ∀ p d, d.control.state ∈ takenIn r → FollowsTable i d.control (run p d).control) {s t : State}
    (hs : completed (takeRequest r discarded run) s = .next t) : FollowsTable i s.dev.control t.dev.control :=
  completed_follows (takeRequest_follows discarded_follows hr s.dev) hs

theorem exec_follows (i : Instr) {s t : State} (h : trainingSound s.dev = true) (hs : exec i s = .next t) :
    FollowsTable i s.dev.control t.dev.control := by
  cases i
  case countingStep => exact completed_follows ((shaftStep_goesOn _ _ _ _ _ _).follows (by simp)) hs
  case restEnd => exact completed_follows ((endRest_goesOn _ h).follows (by simp)) hs
  case wakeTimeEnd => exact completed_follows ((powerComesOn_goesOn _ h).follows (by simp)) hs
  case beaconTaken => exact completed_follows (takeBeaconFrame_follows _) hs
  case attemptAbandoned => exact completed_follows (attemptAbandoned_follows _) hs
  case frameSent => exact completed_follows (frameSent_follows _) hs
  case resetReplyTimeout => exact completed_follows (resetTimesOut_follows _) hs
  case resetPin => exact completed_follows (resetTo_follows _ _ _ _) hs
  case powerOn =>
    obtain rfl := Host.Outcome.next.inj hs
    exact powerOnReset_follows _ _ _ _ _ _ _ _
  case powerFail => exact completed_follows (.of_kept (completeAllWrites_kept s.dev.control)) hs
  case retainedWriteDone => exact completed_follows (.of_kept (completeWrite_kept s.dev.control)) hs
  case encoderGlitch | indexEdge | stallExpiry | stationarySecond | pulseEnd | fetchComplete | frameMark | frameReceived
      | receiveGap | holdDetected | lineStuck | lineClear | frameStart | frameDiscarded | testStepCapture | trialSample
      | inrushEnd | weftDetectorPulse | feederStopInput =>
    exact completed_follows (.of_kept (by simp)) hs
  case configure => exact request_follows (fun p _ hst => runConfigure_follows p (by simpa [takenIn] using hst)) hs
  case loadDone => exact request_follows (fun p _ hst => runLoadDone_follows p (by simpa [takenIn] using hst)) hs
  case testBegin => exact request_follows (fun p _ hst => runTestBegin_follows p (by simpa [takenIn] using hst)) hs
  case testEnd => exact request_follows (fun p _ hst => runTestEnd_follows p (by simpa [takenIn] using hst)) hs
  case train => exact request_follows (fun p _ hst => runTrain_follows _ p (by simpa [takenIn] using hst)) hs
  case arm =>
    refine completed_follows (takeRequest_follows broadcastArm_follows (fun p d hst => withLength_follows ?_) _) hs
    simpa using armStation_follows (by simpa [takenIn] using hst)
  case disarm =>
    exact completed_follows (takeRequest_follows broadcastDisarm_follows
      (fun p _ hst => runDisarm_follows p (by simpa [takenIn] using hst)) _) hs
  case reset =>
    exact completed_follows (takeRequest_follows (fun d => resetTo_follows _ _ _ d) (fun _ _ _ => .of_kept (by simp)) _) hs
  case rowWrite | rowRead | runWrite | matchWrite | weftMapWrite | positionSet | positionResume | testStep | status | flagsTake
      | faultListRead | faultListClear | historyRead | rosterRead | noticeMask =>
    exact request_follows (fun _ _ _ => .of_kept (by simp)) hs

end Sys2Proof.Machine
end

section
/-! SUPPORT. A request row asked for, by what its effect makes of the station: refused by the table, refused for its length, or
answered with data after a change that leaves the line alone (R94, R170; 12.2). -/

namespace Sys2Proof.Machine

theorem withLength_taken {r : Request} {n : Nat} {f : Device → Device} {p : List Byte} (d : Device) (h : p.length = n) :
    withLength r n f p d = f d := if_pos h

theorem withLength_refused {r : Request} {n : Nat} {f : Device → Device} {p : List Byte} (d : Device) (h : p.length ≠ n) :
    withLength r n f p d = answer r .range d := if_neg h

theorem withLength_empty_refused {r : Request} {f : Device → Device} {p : List Byte} (d : Device) (h : p ≠ []) :
    withLength r 0 f p d = answer r .range d := withLength_refused d (mt List.length_eq_zero_iff.mp h)

/-- The command of a request takes it from the receive queue (R79). -/
theorem exec_requestInstr (arm : BitVec 8) (r : Request) (s : State) :
    ∃ broadcast run, exec (requestInstr arm r) s = completed (takeRequest r broadcast run) s := by
  cases r <;> exact ⟨_, _, rfl⟩

/-- The command of a request outside its states refuses it (12.2). -/
theorem exec_request_refused {r : Request} {p : List Byte} {s : State} (arm : BitVec 8) (h : asked r p s.dev = true)
    (hs : s.dev.control.state ∉ takenIn r) :
    exec (requestInstr arm r) s = .next { s with dev := { s.dev with
      line := answered r (if s.dev.control.state = .train then .busy else .state) noDetail [] s.dev } } := by
  obtain ⟨broadcast, run, e⟩ := exec_requestInstr arm r s
  rw [e, completed_powered (asked_powered h), takeRequest_refused h hs, answer_popQueue]

/-- A reply with data placed by what leaves the line and the station number as the queue's rest has them changes the line alone. -/
theorem answerData_eq {r : Request} {res : Result} {data : List Byte} {x d : Device} (hline : x.line = (popQueue d).line)
    (hnumber : x.control.number = d.control.number) :
    answerData r res data x = { x with line := answered r res noDetail data d } := by
  simp [answerData, placeReply, replyFrame, answered, onLine, hline, hnumber, popQueue_line]

/-- A request that makes the station `x` of the one it finds, leaving the line alone, and replies. -/
theorem exec_request_data {r : Request} {res : Result} {p data : List Byte} {broadcast : Device → Device}
    {run : List Byte → Device → Device} {s : State} {x : Device} (h : asked r p s.dev = true)
    (hs : s.dev.control.state ∈ takenIn r) (hrun : run p (popQueue s.dev) = answerData r res data x)
    (hline : x.line = (popQueue s.dev).line) (hnumber : x.control.number = s.dev.control.number) :
    completed (takeRequest r broadcast run) s =
      .next { s with dev := { x with line := answered r res noDetail data s.dev } } := by
  rw [exec_request h hs, hrun, answerData_eq hline hnumber]

end Sys2Proof.Machine
end

section
/-! SUPPORT. CONFIGURE (R171, R172), by the first of its checks that fails, and the station that an accepted one leaves. -/

namespace Sys2Proof.Machine

section
variable {p : List Byte} {d : Device}

theorem configLength_other (role : Role) : configLength role ≠ configLength (otherRole role) := by
  cases role <;> decide

theorem runConfigure_role (h : p.length = configLength (otherRole d.control.role)) :
    runConfigure p d = answer .configure .role d := if_pos h

theorem runConfigure_length (hother : p.length ≠ configLength (otherRole d.control.role))
    (h : p.length ≠ configLength d.control.role) : runConfigure p d = answer .configure .range d :=
  (if_neg hother).trans (if_pos h)

/-- A payload of the role's own length goes on to the checks of its fields. -/
theorem runConfigure_own (h : p.length = configLength d.control.role) :
    runConfigure p d =
      if fieldsInRange d.control.role (configFields d.control.role p) = false then answer .configure .range d
      else if anglesInOrder d.control.role (clamped d.control.role (configFields d.control.role p)) = false then
        answer .configure .order d
      else
        answerData .configure
          (if clamped d.control.role (configFields d.control.role p) = configFields d.control.role p then .done else .doneAdjusted)
          (configData d.control.role (clamped d.control.role (configFields d.control.role p)))
          (storeConfig (clamped d.control.role (configFields d.control.role p)) d) :=
  (if_neg fun hother => configLength_other _ (h.symm.trans hother)).trans (if_neg fun hne => hne h)

end

/-- A configuration stored makes LOAD, with string power OFF, before its latency goes to the strings (R127, R172). -/
theorem storeConfig_eq (c : Configuration) (d : Device) :
    ∃ g : StringDriver, g.power = .off ∧ g.strings.length = d.strings.strings.length ∧
      storeConfig c d = configureStrings c.latency { d with
        control := { d.control with state := .load, config := some c }
        strings := g } := by
  by_cases hp : d.strings.power = .off
  · exact ⟨d.strings, hp, rfl, by simp [storeConfig, setState, onControl, doIf, hp]⟩
  · refine ⟨(powerOff d).strings, rfl, by simp [powerOff_strings], ?_⟩
    simp [storeConfig, setState, onControl, doIf, hp, powerOff, setPower, mapAllStrings, onStrings]

theorem configureStrings_length (latency : Nat) (d : Device) :
    (configureStrings latency d).strings.strings.length = d.strings.strings.length := by
  simp [configureStrings, mapStrings]

/-- Every string of the station has the default latency and NOT RUN (R172). -/
theorem configureStrings_string {latency i : Nat} {d : Device} {x : SelString}
    (hx : (configureStrings latency d).strings.strings[i]? = some x) (hi : i < stringCount d) :
    x.latency = some latency ∧ x.result = .notRun := by
  rw [configureStrings, mapStrings_getElem?] at hx
  obtain ⟨y, -, rfl⟩ := Option.map_eq_some_iff.mp hx
  rw [if_pos hi]
  exact ⟨rfl, rfl⟩

end Sys2Proof.Machine
end

section
/-! SUPPORT. TRAIN in the section role (R143), and the position set and resumed (R173), by the first check that fails. -/

namespace Sys2Proof.Machine

theorem runTrain_section (armature : BitVec 8) (p : List Byte) {d : Device} (h : d.control.role = .sectionRole) :
    runTrain armature p d = withLength .train 0 (fun d =>
      if stalledNow d then answer .train .done (startTraining armature d) else answer .train .moving d) p d :=
  if_neg (by simp [isWeft, h])

section
variable {p : List Byte} {d : Device}

theorem runPositionSet_refused (h : p.length ≠ 8 ∨ validPosition d.seq.runs (positionFields p) = false) :
    runPositionSet p d = answer .positionSet .range d := if_pos h

theorem runPositionSet_taken (hlen : p.length = 8) (h : validPosition d.seq.runs (positionFields p) = true) :
    runPositionSet p d = answer .positionSet .done (writeRetained (setPosition (positionFields p) d)) :=
  if_neg (by simp [hlen, h])

theorem runPositionResume_lost (h : d.control.retention = .lost) :
    runPositionResume [] d = answer .positionResume .lost d := if_pos h

/-- A record held for the design goes on to the check of its position. -/
theorem runPositionResume_held {c : Configuration} (h : d.control.retention ≠ .lost) (hc : d.control.config = some c) :
    runPositionResume [] d =
      if d.control.retained.identity ≠ c.identity then answer .positionResume .mismatch d
      else if validPosition d.seq.runs (recordPosition d.control.retained) = false then answer .positionResume .range d
      else answer .positionResume .done (setPosition (recordPosition d.control.retained) d) := by
  have hid : (d.control.config.all fun c => decide (c.identity ≠ d.control.retained.identity)) = true ↔
      d.control.retained.identity ≠ c.identity := by
    rw [hc, Option.all_some, decide_eq_true_iff, ne_comm]
  rw [runPositionResume, withLength_taken d List.length_nil, if_neg h]
  simp only [hid]

end

end Sys2Proof.Machine
end

section
/-! SUPPORT. The resets, commanded, by the pin and at power-on, and the retained record (R57, R178 to R180). -/

namespace Sys2Proof.Machine

/-! ## The ways to a reset (R179) -/

/-- RESET is taken in every station state (12.2). -/
theorem mem_takenIn_reset (st : StationState) : st ∈ takenIn .reset := by cases st <;> decide

/-- A reset keeps pattern memory, backup domain, pins and the count of idle ticks, and nothing else of what stood before. -/
theorem resetTo_congr {d t : Device} (number : Nat) (role : Role) (phase : BitVec 2) (hmem : t.store.mem = d.store.mem)
    (hticks : t.line.idleTicks = d.line.idleTicks) (hcontrol : t.control = d.control) (hpins : t.pins = d.pins) :
    resetTo number role phase t = resetTo number role phase d := by
  simp only [resetTo, hmem, hticks, hcontrol, hpins]

theorem resetTimesOut_waiting {d : Device} (h : d.control.resetPending.isSome) : resetTimesOut d = commandedReset d := if_pos h

/-- The reply that a RESET waits for leaves its slot (R179). -/
theorem leaveSlot_resets {d t : Device} (hline : t = { d with line := t.line })
    (hticks : t.line.idleTicks = d.line.idleTicks) (h : d.control.resetPending.isSome) :
    leaveSlot .reply t = commandedReset d := by
  have hcontrol : t.control = d.control := by rw [hline]
  have hpins : t.pins = d.pins := by rw [hline]
  have htracker : t.tracker = d.tracker := by rw [hline]
  have hmem : t.store.mem = d.store.mem := by rw [hline]
  rw [leaveSlot, replyLeaves, if_pos (by rwa [hcontrol]), commandedReset, commandedReset, hpins, htracker]
  exact resetTo_congr _ _ _ hmem hticks hcontrol hpins

theorem frameSent_resets {d : Device} {chars : List Byte} (htx : d.line.tx = .sending .reply chars)
    (h : d.control.resetPending.isSome) : frameSent d = commandedReset d := by
  rw [frameSent_sending htx, soundChar_passed _ rfl]
  exact leaveSlot_resets rfl rfl h

theorem attemptAbandoned_resets {d : Device} {chars : List Byte} {x : Slot} (htx : d.line.tx = .sending .reply chars)
    (hx : d.line.replySlot = some x) (hn : 7 ≤ x.attempts) (h : d.control.resetPending.isSome) :
    attemptAbandoned d = commandedReset d := by
  have htop : ((some x).map fun s : Slot => { s with attempts := s.attempts + 1 }).any
      (fun s => decide (8 ≤ s.attempts)) = true := by simp [hn]
  rw [attemptAbandoned_sending htx, slotOf_abandonedLine, show slotOf .reply d = some x from hx, if_pos htop]
  exact leaveSlot_resets rfl rfl h

/-- A command that resets leaves nothing but the reset station (R179, R180). -/
theorem completed_resets {f : Device → Device} {s : State} {number : Nat} {role : Role} {phase : BitVec 2}
    (hp : s.dev.control.powered = true) (hf : f s.dev = resetTo number role phase s.dev) :
    completed f s = .next { s with dev := resetTo number role phase s.dev } := by
  rw [completed_powered hp, hf]

/-! ## The straps in a lapse (R180; log 25) -/

theorem pass_straps (ticks : Nat) (line : List LineRun) (number : Nat) (role : Role) (d : Device) :
    (pass ⟨ticks, line, some (number, role)⟩ d).pins = { d.pins with strapNumber := number, strapRole := role } := rfl

theorem directionOf_isSome {old new : BitVec 2} (h : new = old + 1#2 ∨ new = old - 1#2) :
    ∃ dir, directionOf old new = some dir := by
  obtain rfl | rfl := h
  · exact ⟨_, directionOf_forward old⟩
  · exact ⟨_, directionOf_reverse old⟩

/-! ## Power-on (R57, R178) -/

/-- Cells written one after another: the last one of an address stands. -/
theorem read_writeCells {x : Nat} (hx : x < memSize) (cells : List Host.Cell) {m : PatternMemory} (hm : Memory.wf m = true) :
    Memory.read (Memory.writeCells m cells) x =
      ((cells.filter fun c => decide (c.1 = x)).getLast?.map (·.2)).getD (Memory.read m x) := by
  induction cells using List.reverseRecOn with
  | nil => rfl
  | append_singleton cells c ih =>
    have hlast : Memory.writeCells m (cells ++ [c]) = Memory.write (Memory.writeCells m cells) c.1 c.2 := by
      simp [Memory.writeCells]
    rw [hlast, read_write _ _ _ _ (writeCells_wf m cells hm), ih]
    by_cases hc : c.1 = x
    · simp [hc, hx]
    · simp [hc, Ne.symm hc]

theorem judged_eq (held : Bool) (r : RetainedRecord) :
    judged held r = if held = true ∧ recordSound r = true then .intact else .lost := by
  simp [judged]

theorem completeAllWrites_nil {c : Control} (h : c.writes = []) : completeAllWrites c = c := by
  simp [completeAllWrites, h]

theorem completeAllWrites_last {c : Control} {r : RetainedRecord} (h : c.writes.getLast? = some r) :
    completeAllWrites c = { c with retained := r, retention := .current, writes := [] } := by
  simp [completeAllWrites, h]

section
variable (number : Nat) (role : Role) (a b held : Bool) (backup : Option RetainedRecord) (sram : List Host.Cell) (d : Device)

/-- Station control after power-on: the record judged, RETAIN LOST the one flag that may be set (R178, R180). -/
theorem powerOnReset_control :
    (powerOnReset number role a b held backup sram d).control =
      Control.reset number role
          (if held = true ∧ recordSound (backup.getD (completeAllWrites d.control).retained) = true then 0#30
            else BitVec.twoPow 30 29)
          (backup.getD (completeAllWrites d.control).retained)
          (judged held (backup.getD (completeAllWrites d.control).retained)) [] := by
  unfold powerOnReset
  dsimp only
  generalize backup.getD (completeAllWrites d.control).retained = r
  cases held <;> cases hr : recordSound r <;> simp [judged, hr, doIf, setFlag_eq, onControl, resetTo, Control.reset, flagNumber]

/-- Every other block after power-on is as after a reset, over what the pattern memory then holds (R57, R180). -/
theorem powerOnReset_blocks :
    powerOnReset number role a b held backup sram d =
      { resetTo number role (phaseOf a b) d with
        store := Store.reset (Memory.writeCells [] sram)
        control := (powerOnReset number role a b held backup sram d).control } := by
  unfold powerOnReset
  cases hj : decide (judged held (backup.getD (completeAllWrites d.control).retained) = .lost) <;> simp [doIf, hj] <;> rfl

end

end Sys2Proof.Machine
end

section
/-! SUPPORT. ARM and DISARM (R174): the station that enters WEAVE, and block by block the one that has left it (R169). -/

namespace Sys2Proof.Machine

/-! ## ARM -/

/-- The station armed: WEAVE with the void flag set, where the dwell test touches the strings alone (R127, R174). -/
theorem armStation_eq (d : Device) :
    armStation d = { d with
      control := { d.control with state := .weave }
      seq := { d.seq with void := true }
      strings := (armStation d).strings } := by
  rw [armStation, dwellTest_strings_only]
  rfl

theorem armStation_power {d : Device} (h : dwellDue d = true) : (armStation d).strings.power = .off := dwellTest_power (.inr rfl) h

theorem armStation_strings {d : Device} (h : dwellDue d = false) : (armStation d).strings = d.strings := by
  have hidle := dwellTest_idle (d := setState .weave (onSeq (fun q => { q with void := true }) d)) (.inr h)
  rw [armStation, hidle]
  rfl

/-! ## Broadcasts (R170) -/

theorem exec_request_broadcast {r : Request} {p : List Byte} {broadcast : Device → Device}
    {run : List Byte → Device → Device} {s : State} (h : requestAt r allNodes p s.dev = true) :
    completed (takeRequest r broadcast run) s = .next { s with dev := broadcast (popQueue s.dev) } := by
  rw [completed_powered (requestAt_powered h), takeRequest_broadcast h]

section
variable {d : Device}

theorem broadcastArm_ready (h : d.control.state = .ready) : broadcastArm d = armStation d := by
  simp [broadcastArm, h, doIf]

theorem broadcastArm_idle (h : d.control.state ≠ .ready) : broadcastArm d = d := by
  simp [broadcastArm, h, doIf]

theorem broadcastDisarm_weave (h : d.control.state = .weave) (hstalled : d.tracker.speed = .stalled) :
    broadcastDisarm d = disarmStation d := by
  simp [broadcastDisarm, inWeave, stalledNow, h, hstalled, doIf]

theorem broadcastDisarm_idle (h : d.control.state ≠ .weave ∨ d.tracker.speed ≠ .stalled) : broadcastDisarm d = d := by
  obtain h | h := h <;> simp [broadcastDisarm, inWeave, stalledNow, h, doIf]

end

/-! ## Leaving WEAVE (R169) -/

section
variable (d : Device)

theorem leaveWeave_seq : (leaveWeave d).seq = { d.seq with guardOpen := false } := by
  simp [leaveWeave, closeGuard_seq]

theorem leaveWeave_roster : (leaveWeave d).roster = { d.roster with windowOpen := false, minority := false } := by
  simp [leaveWeave, setMinority, closeWindow]

theorem leaveWeave_line : (leaveWeave d).line.beaconSlot = none ∧ (leaveWeave d).line.beaconDue = .idle := by
  simp [leaveWeave, beaconIdle, discardBeacon_slot]

theorem leaveWeave_fetch (row e : Nat) (reverse : Bool) (o : Option Nat) :
    (leaveWeave d).store.fetch ≠ .fetching row (.pick reverse o) e := by
  simpa [leaveWeave] using endPickFetch_fetch _ row e reverse o

theorem leaveWeave_weft : (leaveWeave d).weft = { d.weft with choice := .none, output := none, arrival := .idle } := by
  simp [leaveWeave, weftLeave]

theorem fireLeaveWeave_phase : (fireLeaveWeave d).fire.phase = .idle := by
  unfold fireLeaveWeave
  split
  · assumption
  · rfl

theorem leaveWeave_phase : (leaveWeave d).fire.phase = .idle := by
  simp [leaveWeave, fireLeaveWeave_phase]

theorem leaveWeave_rest : ∀ x ∈ (leaveWeave d).strings.strings, x.drive = .off ∧ x.chain = .resting := by
  simpa [leaveWeave] using stringsLeave_rest _

end

/-! ## DISARM -/

/-- The station disarmed: READY, with what leaving WEAVE does to every block, and what the dwell test leaves at rest (R174). -/
structure Disarmed (d t : Device) : Prop where
  control : t.control = { d.control with state := .ready }
  seq : t.seq = { d.seq with guardOpen := false }
  roster : t.roster = { d.roster with windowOpen := false, minority := false }
  queue : t.line.queue = d.line.queue
  beacon : t.line.beaconSlot = none ∧ t.line.beaconDue = .idle
  reply : t.line.replySlot = d.line.replySlot
  fetch : ∀ row reverse o e, t.store.fetch ≠ .fetching row (.pick reverse o) e
  rows : t.store.mem = d.store.mem ∧ t.store.written = d.store.written
  rest : ∀ x ∈ t.strings.strings, x.drive = .off ∧ x.chain = .resting
  weft : t.weft = { d.weft with choice := .none, output := none, arrival := .idle }
  phase : t.fire.phase = .idle
  kept : t.tracker = d.tracker ∧ t.trainer = d.trainer ∧ t.pins = d.pins

theorem disarmStation_disarmed (d : Device) : Disarmed d (disarmStation d) where
  control := by simp [disarmStation, enterReady_control]
  seq := by simp [disarmStation, leaveWeave_seq]
  roster := by simp [disarmStation, leaveWeave_roster]
  queue := by simp
  beacon := by simp [disarmStation, leaveWeave_line]
  reply := by simp
  fetch row reverse o e := by simpa [disarmStation] using leaveWeave_fetch d row e reverse o
  rows := by simp
  rest := enterReady_rest (leaveWeave_rest d)
  weft := by simp [disarmStation, leaveWeave_weft]
  phase := by simp [disarmStation, leaveWeave_phase]
  kept := by simp

end Sys2Proof.Machine
end

section
/-! SUPPORT. What the reading requests report, byte by byte (R110, R138, R175, 5.9), and the requests that read or clear, by the
first check that fails (R63, R138, R175 to R177). -/

namespace Sys2Proof.Machine

/-! ## Codes as bytes (5.9) -/

theorem roleCode_eq (r : Role) : roleCode r = if r = .sectionRole then 0 else 1 := by
  cases r <;> rfl

theorem bit_eq (b : Bool) (place : Nat) : bit b place = if b then 2 ^ place else 0 := rfl

theorem byte_bit (b : Bool) : byte (bit b 0) = if b then 1#8 else 0#8 := by
  cases b <;> rfl

theorem byte_speedCode (v : Speed) :
    byte (speedCode v) = match v with | .stalled => 0#8 | .creep => 1#8 | .run => 2#8 | .fast => 3#8 := by
  cases v <;> rfl

theorem byte_directionCode (v : Direction) : byte (directionCode v) = if v = .forward then 0#8 else 1#8 := by
  cases v <;> rfl

theorem byte_powerCode (v : Power) : byte (powerCode v) = match v with | .off => 0#8 | .waking _ => 1#8 | .on => 2#8 := by
  cases v <;> rfl

theorem byte_retentionCode (v : Retention) :
    byte (retentionCode v) = match v with | .intact => 0#8 | .lost => 1#8 | .current => 2#8 := by
  cases v <;> rfl

theorem byte_trainCode (v : TrainResult) :
    byte (trainCode v) = match v with | .notRun => 0#8 | .trained => 1#8 | .failed => 2#8 | .stuck => 3#8 := by
  cases v <;> rfl

theorem byte_faultCode (v : SelFault) : byte (faultCode v) = if v = .openFault then 0#8 else 1#8 := by
  cases v <;> rfl

/-! ## Lengths of the fields -/

@[simp] theorem be16_length (n : Nat) : (be16 n).length = 2 := rfl
@[simp] theorem be24_length (n : Nat) : (be24 n).length = 3 := rfl
@[simp] theorem positionBytes_length (p : Position) : (positionBytes p).length = 8 := rfl
@[simp] theorem counterBytes_length (c : Counters) : (counterBytes c).length = 18 := rfl
@[simp] theorem historyBytes_length (e : HistoryEntry) : (historyBytes e).length = 13 := rfl
@[simp] theorem rosterBytes_length (e : RosterEntry) : (rosterBytes e).length = 17 := rfl
@[simp] theorem faultBytes_length (e : FaultEntry) : (faultBytes e).length = 12 := rfl

@[simp] theorem stringStatus_length (d : Device) (i : Nat) : (stringStatus d i).length = 3 := by
  unfold stringStatus
  split
  · split <;> rfl
  · rfl

/-- Entries of `k` bytes each. -/
theorem flatten_map_length {α : Type} {f : α → List Byte} {k : Nat} (h : ∀ x, (f x).length = k) (l : List α) :
    ((l.map f).flatten).length = k * l.length := by
  simp [List.length_flatten, Function.comp_def, h, Nat.mul_comm]

/-! ## The data of the replies (R110, R138, R175) -/

theorem statusData_length (d : Device) : (statusData d).length = 70 := by
  simp [statusData, flatten_map_length (stringStatus_length d)]

theorem historyData_length (first : Nat) (d : Device) :
    (historyData first d).length = 1 + 13 * min 11 (d.seq.history.length - first) := by
  rw [historyData, List.length_cons, flatten_map_length historyBytes_length, List.length_take, List.length_drop, Nat.add_comm]

theorem rosterData_length (first : Nat) (d : Device) :
    (rosterData first d).length = 1 + 17 * min 8 (d.roster.entries.countP fun e => decide (first ≤ e.station)) := by
  rw [rosterData, List.length_cons, flatten_map_length rosterBytes_length, List.length_take, List.countP_eq_length_filter,
    Nat.add_comm]

theorem faultListData_length (first : Nat) (d : Device) :
    (faultListData first d).length = 3 + 12 * min 12 (d.strings.faults.length - first) := by
  rw [faultListData, List.length_append, flatten_map_length faultBytes_length, List.length_take, List.length_drop]
  rfl

theorem historyBytes_eq (e : HistoryEntry) :
    historyBytes e = byte e.pos.run :: be16 e.pos.iteration ++ be16 e.pos.row ++ be24 e.pos.piece
      ++ [byte ((if e.void then 1 else 0) + (if e.kind = .again then 2 else 0) + (if e.toggle then 4 else 0)), byte e.weft]
      ++ be16 e.lift ++ [byte (e.finger.getD 255)] := by
  simp [historyBytes, positionBytes, bit_eq, fingerCode]

theorem rosterBytes_eq (e : RosterEntry) :
    rosterBytes e = [byte e.station, byte (if e.role = .sectionRole then 0 else 1), byte (stateCode e.state), byte e.pos.run]
      ++ be16 e.pos.iteration ++ be16 e.pos.row ++ be16 e.pos.pieceLow ++ be16 e.lift ++ be16 e.capacity
      ++ [byte e.weft, byte e.misses, byte ((if e.heard then 1 else 0) + (if e.lapsed then 2 else 0)
        + (if e.state ≠ .weave then 4 else 0))] := by
  simp [rosterBytes, roleCode_eq, bit_eq]

theorem faultBytes_eq (e : FaultEntry) :
    faultBytes e = be16 e.hook ++ (if e.kind = .openFault then 0#8 else 1#8) :: byte e.pos.run :: be16 e.pos.iteration
      ++ be16 e.pos.row ++ be24 e.pos.piece ++ [byte e.occurrences] := by
  simp [faultBytes, positionBytes, byte_faultCode]

theorem stringStatus_eq (d : Device) (i : Nat) :
    stringStatus d i = match d.strings.strings[i]? with
      | some x => if i < stringCount d then be16 (x.latency.getD 0) ++
          [(match x.result with | .notRun => 0#8 | .trained => 1#8 | .failed => 2#8 | .stuck => 3#8)]
        else [0#8, 0#8, 0#8]
      | none => [0#8, 0#8, 0#8] := by
  unfold stringStatus
  cases d.strings.strings[i]? with
  | none => rfl
  | some x =>
    exact congrArg (fun b => if i < stringCount d then be16 (x.latency.getD 0) ++ [b] else [0#8, 0#8, 0#8])
      (byte_trainCode x.result)

/-- ROW READ reports the row, its mark and, of a written row, its record (R63). -/
theorem rowReadData_eq (d : Device) (row : Nat) :
    (be16 row ++ byte (bit (isWritten d row) 0) :: (if isWritten d row then rowReadRecord (readRow d row) else [])) =
      be16 row ++ (if row ∈ d.store.written then
        0x01#8 :: (readRow d row).weft :: (readRow d row).field ++ [if (readRow d row).sound then 0x00#8 else 0x01#8]
      else [0x00#8]) := by
  by_cases hw : row ∈ d.store.written
  · cases hsound : (readRow d row).sound <;> simp [isWritten, hw, byte_bit, rowReadRecord, hsound] <;> rfl
  · simp [isWritten, hw, byte_bit]

/-! ## The requests, by the first check that fails -/

/-- A request that reports changes the line alone. -/
theorem exec_request_report {r : Request} {res : Result} {p data : List Byte} {broadcast : Device → Device}
    {run : List Byte → Device → Device} {s : State} (h : asked r p s.dev = true) (hs : s.dev.control.state ∈ takenIn r)
    (hrun : run p (popQueue s.dev) = answerData r res data (popQueue s.dev)) :
    completed (takeRequest r broadcast run) s =
      .next { s with dev := { s.dev with line := answered r res noDetail data s.dev } } :=
  exec_request_data (x := popQueue s.dev) h hs hrun rfl rfl

theorem runStatus_taken (d : Device) : runStatus [] d = answerData .status .done (statusData d) d := rfl

theorem runFlagsTake_taken (d : Device) : runFlagsTake [] d = answerData .flagsTake .done (flagsData d) (clearFlags d) := rfl

section
variable {p : List Byte} {d : Device}

/-- STATUS is taken in every station state (12.2). -/
theorem mem_takenIn_status (st : StationState) : st ∈ takenIn .status := by cases st <;> decide

theorem runHistoryRead_taken (hlen : p.length = 1) (hfirst : fieldAt p 0 1 ≤ 23) :
    runHistoryRead p d = answerData .historyRead .done (historyData (fieldAt p 0 1) d) d := if_neg (by omega)

theorem runHistoryRead_refused (h : p.length ≠ 1 ∨ 23 < fieldAt p 0 1) : runHistoryRead p d = answer .historyRead .range d :=
  if_pos h

theorem runRosterRead_taken (hlen : p.length = 1) (hfirst : fieldAt p 0 1 ≤ 31) :
    runRosterRead p d = answerData .rosterRead .done (rosterData (fieldAt p 0 1) d) d := if_neg (by omega)

theorem runRosterRead_refused (h : p.length ≠ 1 ∨ 31 < fieldAt p 0 1) : runRosterRead p d = answer .rosterRead .range d :=
  if_pos h

theorem runRowRead_taken (hlen : p.length = 2) (hrow : fieldAt p 0 2 ≤ 16383) :
    runRowRead p d = answerData .rowRead .done (be16 (fieldAt p 0 2) ++ (if fieldAt p 0 2 ∈ d.store.written then
        0x01#8 :: (readRow d (fieldAt p 0 2)).weft :: (readRow d (fieldAt p 0 2)).field ++
          [if (readRow d (fieldAt p 0 2)).sound then 0x00#8 else 0x01#8]
      else [0x00#8])) d := by
  rw [← rowReadData_eq]
  exact if_neg (by omega)

theorem runRowRead_refused (h : p.length ≠ 2 ∨ 16383 < fieldAt p 0 2) : runRowRead p d = answer .rowRead .range d := if_pos h

theorem runFaultListRead_weft (h : d.control.role = .weftRole) : runFaultListRead p d = answer .faultListRead .role d :=
  if_pos (by simp [isWeft, h])

theorem runFaultListRead_taken (hrole : d.control.role = .sectionRole) (hlen : p.length = 1) (hfirst : fieldAt p 0 1 ≤ 31) :
    runFaultListRead p d = answerData .faultListRead .done (faultListData (fieldAt p 0 1) d) d :=
  (if_neg (by simp [isWeft, hrole])).trans (if_neg (by omega))

theorem runFaultListRead_refused (hrole : d.control.role = .sectionRole) (h : p.length ≠ 1 ∨ 31 < fieldAt p 0 1) :
    runFaultListRead p d = answer .faultListRead .range d := (if_neg (by simp [isWeft, hrole])).trans (if_pos h)

theorem runFaultListClear_weft (h : d.control.role = .weftRole) : runFaultListClear p d = answer .faultListClear .role d :=
  if_pos (by simp [isWeft, h])

theorem runFaultListClear_taken (hrole : d.control.role = .sectionRole) :
    runFaultListClear [] d = answer .faultListClear .done (clearFaultList d) :=
  (if_neg (by simp [isWeft, hrole])).trans (withLength_taken d List.length_nil)

theorem runFaultListClear_refused (hrole : d.control.role = .sectionRole) (h : p ≠ []) :
    runFaultListClear p d = answer .faultListClear .range d :=
  (if_neg (by simp [isWeft, hrole])).trans (withLength_empty_refused d h)

theorem runNoticeMask_taken (hlen : p.length = 4) (hmask : fieldAt p 0 4 < 1073741824) :
    runNoticeMask p d =
      answer .noticeMask .done (onControl (fun c => { c with mask := BitVec.ofNat 30 (fieldAt p 0 4) }) d) := if_neg (by omega)

theorem runNoticeMask_refused (h : p.length ≠ 4 ∨ 1073741824 ≤ fieldAt p 0 4) :
    runNoticeMask p d = answer .noticeMask .range d := if_pos h

end

end Sys2Proof.Machine
end

section
/-! The statements about the terminal's requests, the station states and retention, and about the step, settled. -/

namespace Sys2Proof.Machine

/-- Settles O1, by the definition of `step`. -/
theorem stepRunsFrontCommand : Obligations.StepRunsFrontCommand := by
  unfold Obligations.StepRunsFrontCommand
  intro c rest s h
  rw [step, h]

/-- Settles O3: POWER_ON acts always, any other command is `completed`. -/
theorem everyCommandCompletes : Obligations.EveryCommandCompletes := by
  unfold Obligations.EveryCommandCompletes
  intro i s
  obtain ⟨number, role, a, b, held, backup, sram, rfl⟩ | ⟨f, hf⟩ := exec_powerOn_or_completed i
  · exact ⟨⟨_, rfl, rfl⟩, fun _ hne => absurd rfl (hne number role a b held backup sram)⟩
  · rw [hf s]
    exact ⟨completed_next f s, fun hp _ => completed_unpowered hp⟩

/-- Settles O59, by evaluation of the state after reset. -/
theorem resetStateIsSound : Obligations.ResetStateIsSound := by
  unfold Obligations.ResetStateIsSound
  decide

/-- Settles O60, by `exec_follows`. -/
theorem stationStateFollowsItsTable : Obligations.StationStateFollowsItsTable := by
  unfold Obligations.StationStateFollowsItsTable
  intro i s t htraining hs
  obtain ⟨hstate, hstraps, hconfig⟩ := exec_follows i htraining hs
  exact ⟨hstate, hstraps, hconfig⟩

/-- Settles O29: outside its states by `exec_request_refused`, the wrong length by each request's first check. -/
theorem requestIsRefusedOutsideItsStates : Obligations.RequestIsRefusedOutsideItsStates := by
  unfold Obligations.RequestIsRefusedOutsideItsStates
  refine ⟨fun r arm p s h hs => exec_request_refused arm h hs, fun r arm p s n h hs hmem hlen hrole => ?_⟩
  simp only [List.mem_cons, Prod.mk.injEq, List.not_mem_nil, or_false] at hmem
  obtain ⟨rfl, rfl⟩ | ⟨rfl, rfl⟩ | ⟨rfl, rfl⟩ | ⟨rfl, rfl⟩ | ⟨rfl, rfl⟩ |
    ⟨rfl, rfl⟩ | ⟨rfl, rfl⟩ | ⟨rfl, rfl⟩ | ⟨rfl, rfl⟩ := hmem
  · exact exec_request_answer h hs (withLength_refused _ hlen)
  · exact exec_request_answer h hs (runPositionSet_refused (.inl hlen))
  · exact exec_request_answer h hs (withLength_refused _ hlen)
  · exact exec_request_answer h hs (withLength_refused _ hlen)
  · exact exec_request_answer h hs (withLength_refused _ hlen)
  · exact exec_request_answer h hs (withLength_refused _ hlen)
  · exact exec_request_answer h hs (withLength_refused _ hlen)
  · exact exec_request_answer h hs ((runTrain_section arm p (by simpa using hrole rfl)).trans (withLength_refused _ hlen))
  · exact exec_request_answer h hs (withLength_refused _ hlen)

/-- Settles O31: the refusals by the first check that fails, an accepted CONFIGURE by the `storeConfig` lemmas. -/
theorem configureIsCheckedAndTaken : Obligations.ConfigureIsCheckedAndTaken := by
  unfold Obligations.ConfigureIsCheckedAndTaken
  intro s p h hs
  have htaken : s.dev.control.state ∈ takenIn .configure := by simp [hs, takenIn]
  refine ⟨fun hlen => ?_, fun h34 h22 => ?_, fun hlen hfields => ?_, fun hlen hfields hangles => ?_,
    fun hlen hfields hangles => ?_⟩
  · exact exec_request_answer h htaken (runConfigure_role hlen)
  · have hlength (role : Role) : p.length ≠ configLength role := by cases role <;> assumption
    exact exec_request_answer h htaken (runConfigure_length (hlength _) (hlength _))
  · exact exec_request_answer h htaken ((runConfigure_own (d := popQueue s.dev) hlen).trans (if_pos hfields))
  · exact exec_request_answer h htaken
      ((runConfigure_own (d := popQueue s.dev) hlen).trans ((if_neg (by simp [hfields])).trans (if_pos hangles)))
  · obtain ⟨g, hpower, hlength, hstored⟩ := storeConfig_eq (clamped s.dev.control.role (configFields s.dev.control.role p))
      (popQueue s.dev)
    have hrun : runConfigure p (popQueue s.dev) = _ := (runConfigure_own (d := popQueue s.dev) hlen).trans
      ((if_neg (by simp [hfields])).trans ((if_neg (by simp [hangles])).trans (congrArg (answerData _ _ _) hstored)))
    exact ⟨_, _, exec_request_data h htaken hrun rfl rfl, rfl, rfl, rfl, hpower, (configureStrings_length _ _).trans hlength,
      fun i x hi hx => configureStrings_string hx hi⟩

/-- Settles O34: the refusals by the first check that fails, the position taken by `setPosition`. -/
theorem positionIsSetOrResumed : Obligations.PositionIsSetOrResumed := by
  unfold Obligations.PositionIsSetOrResumed
  intro s c hs hc
  have hset : s.dev.control.state ∈ takenIn .positionSet := by simp [hs, takenIn]
  have hresume : s.dev.control.state ∈ takenIn .positionResume := by simp [hs, takenIn]
  refine ⟨fun p h hlen => ⟨fun hvalid => ?_, fun hvalid => ?_⟩, fun h =>
    ⟨fun hlost => ?_, fun hheld hid => ?_, fun hheld hid hvalid => ?_, fun hheld hid hvalid => ?_⟩⟩
  · exact exec_request_answer h hset (runPositionSet_refused (.inr hvalid))
  · refine (exec_request_data h hset (runPositionSet_taken hlen hvalid) (by simp) (by simp)).trans ?_
    simp [writeRetained, setPosition, onControl, onSeq, hc, popQueue]
  · exact exec_request_answer h hresume (runPositionResume_lost hlost)
  · exact exec_request_answer h hresume ((runPositionResume_held (d := popQueue s.dev) hheld hc).trans (if_pos hid))
  · exact exec_request_answer h hresume
      ((runPositionResume_held (d := popQueue s.dev) hheld hc).trans ((if_neg (by simpa using hid)).trans (if_pos hvalid)))
  · exact exec_request_data h hresume
      ((runPositionResume_held (d := popQueue s.dev) hheld hc).trans
        ((if_neg (by simpa using hid)).trans (if_neg (by simp [hvalid])))) rfl rfl

/-- Settles O30: the armed station by `armStation_eq`, the disarmed one by `disarmStation_disarmed`. -/
theorem armAndDisarm : Obligations.ArmAndDisarm := by
  unfold Obligations.ArmAndDisarm
  refine ⟨⟨fun s h hs => ?_, fun s h hs hmoving => ?_, fun s h hs hstalled => ?_⟩, fun p s h => ?_, fun p s h => ?_⟩
  · have hrun : runArm [] (popQueue s.dev) = _ := withLength_taken _ List.length_nil
    refine ⟨_, exec_request_data h (by simp [hs, takenIn]) hrun (by simp) (by simp), rfl, ?_, fun hdue => ?_, fun hdue => ?_⟩
    · exact congrArg (fun t : Device => { t with line := answered .arm .done noDetail [] s.dev }) (armStation_eq (popQueue s.dev))
    · exact armStation_power (d := popQueue s.dev) hdue
    · exact armStation_strings (d := popQueue s.dev) hdue
  · exact exec_request_answer h (by simp [hs, takenIn])
      ((withLength_taken _ List.length_nil).trans (if_neg (by simpa [stalledNow] using hmoving)))
  · have hrun : runDisarm [] (popQueue s.dev) = _ :=
      (withLength_taken _ List.length_nil).trans (if_pos (by simpa [stalledNow] using hstalled))
    obtain ⟨hcontrol, hseq, hroster, hqueue, hbeacon, -, hfetch, hrows, hrest, hweft, hphase, hkept⟩ :=
      disarmStation_disarmed (popQueue s.dev)
    have hexec : completed (takeRequest .disarm broadcastDisarm runDisarm) s = _ := exec_request h (by simp [hs, takenIn])
    rw [hrun] at hexec
    refine ⟨_, hexec, rfl, ?_⟩
    generalize disarmStation (popQueue s.dev) = t at *
    have hreply : replyFrame t .disarm .done noDetail [] = replyFrame s.dev .disarm .done noDetail [] := by
      simp [replyFrame, hcontrol]
    refine ⟨hcontrol, hseq, hroster, hbeacon.1, hbeacon.2, hqueue.trans (by simp [popQueue_line]), ?_, hfetch,
      hrows.1, hrows.2, ?_, hweft, hphase, hkept⟩
    · rw [← hreply]
      rfl
    · simpa using hrest
  · refine ⟨_, exec_request_broadcast h, rfl, ?_, fun hs => ?_, fun hs => ?_⟩
    · simp [popQueue_line]
    · rw [broadcastArm_ready (d := popQueue s.dev) hs, armStation_eq]
      exact ⟨rfl, rfl⟩
    · rw [broadcastArm_idle (d := popQueue s.dev) hs]
      rfl
  · refine ⟨_, exec_request_broadcast h, rfl, by simp, by simp [popQueue_line], fun hs hstalled => ?_, fun hs => ?_⟩
    · obtain ⟨hcontrol, hseq, hroster, -, -, -, -, -, hrest, -, -, -⟩ := disarmStation_disarmed (popQueue s.dev)
      rw [broadcastDisarm_weave (d := popQueue s.dev) hs hstalled]
      exact ⟨hcontrol, hseq, by rw [hroster], by simpa using fun x hx => (hrest x hx).1⟩
    · rw [broadcastDisarm_idle (d := popQueue s.dev) hs, ← popQueue_line]
      rfl

/-- Settles O40: each request by its `_taken` lemma or by the first check that fails, the data by the equations of its fields. -/
theorem readingRequestsReport : Obligations.ReadingRequestsReport := by
  unfold Obligations.ReadingRequestsReport
  refine ⟨fun s p => ⟨fun h => ⟨?_, statusData_length s.dev, ?_⟩, fun h hs hlen hfirst => ⟨?_, ?_, historyData_length _ _⟩,
      fun h hs hlen hfirst => ⟨?_, ?_, rosterData_length _ _⟩,
      fun h hs hrole hlen hfirst => ⟨?_, ?_, faultListData_length _ _⟩⟩,
    fun s p h hs hlen hrow => ?_,
    fun s p => ⟨fun h hs => ?_, fun h hs hrole => ?_, fun h hs hlen => ⟨fun hmask => ?_, fun hmask => ?_⟩⟩,
    fun s p => ⟨fun h hs hbad => ?_, fun h hs hbad => ?_, fun h hs hbad => ?_,
      fun h hs => ⟨fun hrole => ?_, fun hrole hbad => ?_⟩, fun h hs => ⟨fun hrole => ?_, fun hrole hbad => ?_⟩,
      fun h hbad => ?_, fun h hs hbad => ?_, fun h hs hbad => ?_⟩⟩
  · exact exec_request_report h (mem_takenIn_status _) (runStatus_taken _)
  · simp only [statusData, positionBytes, counterBytes, roleCode_eq, byte_bit, byte_speedCode, byte_directionCode, byte_powerCode,
      byte_retentionCode, funext (stringStatus_eq s.dev), List.append_assoc, List.cons_append, List.nil_append] <;> rfl
  · exact exec_request_report h hs (runHistoryRead_taken hlen hfirst)
  · rw [historyData, funext historyBytes_eq]
  · exact exec_request_report h hs (runRosterRead_taken hlen hfirst)
  · rw [rosterData, funext rosterBytes_eq]
  · exact exec_request_report h hs (runFaultListRead_taken (d := popQueue s.dev) hrole hlen hfirst)
  · rw [faultListData, funext faultBytes_eq]
  · exact exec_request_report h (by simpa [takenIn] using hs) (runRowRead_taken hlen hrow)
  · exact exec_request_data h hs (runFlagsTake_taken (popQueue s.dev)) rfl rfl
  · exact exec_request_data h hs (runFaultListClear_taken (d := popQueue s.dev) hrole) rfl rfl
  · exact exec_request_data h hs (runNoticeMask_taken (d := popQueue s.dev) hlen hmask) rfl rfl
  · exact exec_request_answer h hs (runNoticeMask_refused (.inr hmask))
  · exact exec_request_answer h (by simpa [takenIn] using hs) (runRowRead_refused hbad)
  · exact exec_request_answer h hs (runHistoryRead_refused hbad)
  · exact exec_request_answer h hs (runRosterRead_refused hbad)
  · exact exec_request_answer h hs (runFaultListRead_weft (d := popQueue s.dev) hrole)
  · exact exec_request_answer h hs (runFaultListRead_refused (d := popQueue s.dev) hrole hbad)
  · exact exec_request_answer h hs (runFaultListClear_weft (d := popQueue s.dev) hrole)
  · exact exec_request_answer h hs (runFaultListClear_refused (d := popQueue s.dev) hrole hbad)
  · exact exec_request_answer h (mem_takenIn_status _) (withLength_empty_refused _ hbad)
  · exact exec_request_answer h hs (withLength_empty_refused _ hbad)
  · exact exec_request_answer h hs (runNoticeMask_refused (.inl hbad))

/-- Settles O41: each way to a reset by its lemma, the reset station by evaluation of `resetTo`; the straps by `pass_straps`. -/
theorem resetsLeaveTheResetCondition : Obligations.ResetsLeaveTheResetCondition := by
  unfold Obligations.ResetsLeaveTheResetCondition
  refine ⟨fun s h => ?_, fun s i number role phase hp hway => ?_, fun s a b ticks number role run sense hp hphase => ?_⟩
  · refine (exec_request h (mem_takenIn_reset _)).trans ?_
    rw [runReset, withLength_taken _ List.length_nil, answer_popQueue]
    rfl
  · have hexec : exec i s = .next { s with dev := resetTo number role phase s.dev } := by
      obtain ⟨rfl, rfl, rfl, ⟨rfl, hr⟩ | ⟨rfl, hr, chars, htx⟩ | ⟨rfl, hr, ⟨chars, htx⟩, x, hx, hn⟩ | ⟨rfl, p, hat⟩⟩ |
        ⟨a, b, rfl, rfl⟩ := hway
      · exact completed_resets hp (resetTimesOut_waiting hr)
      · exact completed_resets hp (frameSent_resets htx hr)
      · exact completed_resets hp (attemptAbandoned_resets htx hx hn hr)
      · exact completed_resets hp (takeRequest_broadcast hat)
      · exact completed_resets hp rfl
    exact ⟨_, hexec, rfl, rfl, rfl, rfl, rfl, rfl, rfl, rfl, rfl, rfl, rfl, rfl⟩
  · obtain ⟨dir, hdir⟩ := directionOf_isSome hphase
    refine ⟨_, completed_powered hp, ?_, by simp, by simp⟩
    simp only [shaftStep_of_direction hdir, takeStep_frame, onPins_pins, pass_straps]

/-- Settles O42: power-on by `powerOnReset_blocks` and `powerOnReset_control`, the pattern memory byte by byte by
`read_writeCells`. -/
theorem powerOnJudgesTheRecord : Obligations.PowerOnJudgesTheRecord := by
  unfold Obligations.PowerOnJudgesTheRecord
  refine ⟨fun s number role a b held backup sram => ⟨_, rfl, rfl, ?_⟩,
    fun s hp => ⟨fun h => ?_, fun r rest h => ?_, fun h => ?_, fun r h => ?_⟩⟩
  · dsimp only
    have hcanonical := powerOnReset_canonical number role a b held backup sram s.dev
    have hblocks := powerOnReset_blocks number role a b held backup sram s.dev
    have hcontrol := powerOnReset_control number role a b held backup sram s.dev
    generalize powerOnReset number role a b held backup sram s.dev = t at *
    refine ⟨congrArg (·.seq) hblocks, congrArg (·.line) hblocks, congrArg (·.roster) hblocks, congrArg (·.fire) hblocks,
      congrArg (·.strings) hblocks, congrArg (·.trainer) hblocks, congrArg (·.weft) hblocks, congrArg (·.tracker) hblocks,
      hcanonical, fun x hx => ?_, congrArg (·.store.written) hblocks, congrArg (·.store.fetch) hblocks, ?_⟩
    · have hmem : t.store.mem = Memory.writeCells [] sram := congrArg (·.store.mem) hblocks
      rw [hmem, read_writeCells hx sram rfl]
      rfl
    · rw [hcontrol]
      refine ⟨rfl, rfl, rfl, rfl, rfl, rfl, fun r hr => ?_, fun hr hw => ?_, fun r hr hw => ?_,
        fun ⟨hheld, hr⟩ => ?_, fun hr => ?_⟩
      · rw [hr]
        rfl
      · rw [hr, completeAllWrites_nil hw]
        rfl
      · rw [hr, completeAllWrites_last hw]
        rfl
      · exact ⟨(judged_eq held _).trans (if_pos ⟨hheld, hr⟩), if_pos ⟨hheld, hr⟩⟩
      · have hlost : ¬(held = true ∧ recordSound (backup.getD (completeAllWrites s.dev.control).retained) = true) :=
          fun ⟨hheld, hsound⟩ => hr.elim (by simp [hheld]) (by simp [Control.reset, hsound])
        exact ⟨(judged_eq held _).trans (if_neg hlost), if_neg hlost⟩
  all_goals refine (completed_powered hp).trans ?_
  · simp [retainedWritten, completeWrite, h, onControl]
  · simp [retainedWritten, completeWrite, h, onControl]
  · simp [powerFails, completeAllWrites_nil h, onControl]
  · simp [powerFails, completeAllWrites_last h, onControl]

end Sys2Proof.Machine
end
